-- ==== Sys2Proof/Word.lean ====
section
/-! DEFINITION. The plain types the DK1 model is written in: bytes, sparse tables, register fields, and the operand
types of the commands. -/

namespace Sys2Proof

/-- One byte on a wire or in a store. -/
abbrev Byte := BitVec 8

/-- A byte string, first byte first. -/
abbrev Bytes := List Byte

/-- A sparse table: pairs of key and value, keys strictly rising; a key not listed reads as the table's default. -/
abbrev Tab (α : Type) := List (Nat × α)

/-- R8: register access codes. -/
inductive Acc where
  | ro | rw | rws | rwc | wo | w1c
deriving DecidableEq, Repr

/-- Table 16.2: reset tokens; `plain` is a stated value. -/
inductive Tok where
  | plain | fused | sampled | retained | loaded
deriving DecidableEq, Repr

/-- One field of a register: bits [hi:lo], access, token, reset value. -/
structure FieldDesc where
  hi : Nat
  lo : Nat
  acc : Acc
  tok : Tok
  rst : Nat
deriving DecidableEq, Repr

/-- One register of the map: name, address, (stride, count) per index, fields (reserved fields are not listed). -/
structure RegDesc where
  name : String
  base : Nat
  dims : List (Nat × Nat)
  fields : List FieldDesc
deriving DecidableEq, Repr

/-- A register field at a concrete address: register address, lowest bit, width, reset value. -/
structure Fld where
  addr : Nat
  lo : Nat
  width : Nat
  rst : Nat
deriving DecidableEq, Repr

/-- A network peer: port it is reached on (0 ETH0, 1 ETH1, 2 stage port), IP version, address, UDP port, link-layer
address. -/
structure Src where
  iface : Nat
  v6 : Bool
  addr : Nat
  udp : Nat
  mac : Nat
deriving DecidableEq, Repr

/-- Bits [lo + w - 1 : lo] of x. -/
def bitsOf (x lo w : Nat) : Nat := (x >>> lo) % 2 ^ w

/-- Bit i of x, as 0 or 1. -/
def bitOf (x i : Nat) : Nat := (x >>> i) % 2

/-- x limited to lo … hi. -/
def clampInt (lo hi x : Int) : Int := if x < lo then lo else if hi < x then hi else x

/-- A w-bit two's complement field as an integer. -/
def signedOf (w x : Nat) : Int := if x < 2 ^ (w - 1) then (x : Int) else (x : Int) - (2 : Int) ^ w

/-- An integer as a w-bit two's complement field. -/
def toField (w : Nat) (x : Int) : Nat := (x % ((2 : Int) ^ w)).toNat

/-- The number whose bytes, most significant first, are given. -/
def beNat (b : Bytes) : Nat := b.foldl (fun a x => a * 256 + x.toNat) 0

/-- The number whose bytes, least significant first, are given. -/
def leNat (b : Bytes) : Nat := b.foldr (fun x a => a * 256 + x.toNat) 0

/-- The n bytes of x, most significant first. -/
def toBE : Nat → Nat → Bytes
  | 0, _ => []
  | n + 1, x => BitVec.ofNat 8 (x >>> (8 * n)) :: toBE n x

/-- The n bytes of x, least significant first. -/
def toLE : Nat → Nat → Bytes
  | 0, _ => []
  | n + 1, x => BitVec.ofNat 8 x :: toLE n (x >>> 8)

/-- Bytes from..from + len of a byte string. -/
def sub (b : Bytes) (start len : Nat) : Bytes := (b.drop start).take len

/-- The big-endian number of n bytes at an offset. -/
def beAt (b : Bytes) (start n : Nat) : Nat := beNat (sub b start n)

/-- The byte at an offset, 0 beyond the end. -/
def byteAt (b : Bytes) (i : Nat) : Nat := (b.getD i 0).toNat


end Sys2Proof
end

