-- ==== Sys2Proof/Wire.lean ====
section
/-! DEFINITION. What arrives from outside as a structured operand of a command: PTP messages (ch. 9), pair frames (ch. 13),
DRAM requests (ch. 10) and the reads that fail during a tick (R36). -/

namespace Sys2Proof

/-- A read that fails its check while a tick is computed (R36, Table 1.5). (log 99) -/
inductive BadRead where
  /-- P segment: line, segment (R122) -/
  | pSeg (y seg : Nat)
  /-- ρ segment: line, segment (R174) -/
  | rhoSeg (y seg : Nat)
  /-- line of the F map, after refetch: the n cells from x0 of a cell row (R150) -/
  | fRow (row x0 : Int) (n : Nat)
  /-- live trim group of 64 beams (R299) -/
  | trim (group : Nat)
  /-- tick log entry of a stripe tick, both copies (R268) -/
  | tlog (s : Nat)
  /-- undo ring entry of a block of the tick with number n (R166, Table 10.1) -/
  | undo (n blk : Nat)
  /-- loss table entry of a pixel (R172, Table 10.1) -/
  | loss (px y : Nat)
deriving DecidableEq, Repr

/-- R243: what every PTP message carries: the port it arrived on, its transport (0 Layer 2, 1 IPv4, 2 IPv6), domain,
sending clock and port, sequence, correctionField in 2^-16 ns, log message interval. -/
structure PtpHdr where
  iface : Nat
  transport : Nat
  domain : Nat
  clock : Nat
  portNo : Nat
  seq : Nat
  corr : Int
  logInterval : Int
deriving DecidableEq, Repr

/-- A PTP timestamp in a message: seconds and nanoseconds. -/
structure PtpTime where
  sec : Nat
  ns : Nat
deriving DecidableEq, Repr

/-- The data set an Announce carries. -/
structure PtpData where
  prio1 : Nat
  cls : Nat
  acc : Nat
  variance : Nat
  prio2 : Nat
  gm : Nat
  steps : Nat
deriving DecidableEq, Repr

/-- R357: what a POINTERS frame says of one stripe: number, state code (Table 2.9), first_tick in ns, the latched
SHOT_RESERVE_PASSES, SHOT_DOSE_NOMINAL, SHOT_CTRL and CHECK_CTRL when it is armed. -/
structure PtrStripe where
  seq : Nat
  st : Nat
  first : Option Nat
  latched : Option (Nat × Nat × Nat × Nat)
deriving DecidableEq, Repr

/-- R357: the content of a POINTERS frame: job state, stripes, and per stream the ack base and expected chunk sequence. -/
structure Pointers where
  job : Nat
  stripes : List PtrStripe
  streams : List (Nat × Nat)
deriving DecidableEq, Repr

/-- Table 13.3: the content of a pair frame. -/
inductive PairBody where
  /-- HELLO; `role` 0 solo, 1 standby, 2 active -/
  | hello (variant fw : Nat) (pref healthy synced : Bool) (role job lastGen : Nat)
  /-- bytes 0 to 151 of a tick log entry -/
  | tlogFix (b : Bytes)
  /-- a final tick log entry, 288 bytes -/
  | tlogFinal (b : Bytes)
  | ack (gen : Nat)
  | trim (first : Nat) (entries : List Nat)
  | trimCommit (seq crc : Nat)
  | pointers (p : Pointers)
  /-- a checkpoint image as a DCF chunk -/
  | ctx (chunk : Bytes)
  | revertReq
  | handover (seq tick : Nat)
  /-- SYNC_COPY: density cells of a cell row of a stripe -/
  | syncDens (seq layer slot : Nat) (yOrigin : Int) (dir lenM1 row : Nat) (cells : List Nat)
  /-- SYNC_COPY: a piece of the live trim bank -/
  | syncTrim (first : Nat) (entries : List Nat)
deriving DecidableEq, Repr

/-- Table 13.2: a sound pair frame: resend flag, epoch, generation, stripe named, content. -/
structure PairFrame where
  resend : Bool
  epoch : Nat
  gen : Nat
  ref : Nat
  body : PairBody
deriving DecidableEq, Repr

/-- R279: how the transfers of one read go: the first passes, the first fails its check and the refetch passes, or both
fail. -/
inductive Transfer where
  | good | once | twice
deriving DecidableEq, Repr

/-- R289: what the read ports of the real-time class hold: bytes in the prefetch buffers of the render port and the PEC port, the ports
with demand outstanding (bit 0 render, bit 1 PEC), and whether the trim mirror port is below its watermark. -/
structure PortFill where
  render : Nat
  pec : Nat
  demand : Nat
  trimLow : Bool
deriving DecidableEq, Repr

/-- Table 10.4: a DRAM request of a class (0 real-time, 1 bulk, 2 record, 3 scrub, 4 management) by a requester: a read or
a write of the bytes of a mask in a line; region and generation expected or written; verified (R285); whether the write is the first of
a new allocation, which takes the next generation of its region (R278). Its port numbers it, and notes the other requesters whose bytes
the Ladle merged into it (R282); both are 0 and empty as it arrives. -/
structure DramReq where
  cls : Nat
  requester : Nat
  write : Bool
  line : Nat
  mask : Nat
  data : Nat
  region : Nat
  gen : Nat
  verified : Bool
  fresh : Bool
  tag : Nat
  others : List Nat
deriving DecidableEq, Repr

/-- Table 11.2: a tracked location. -/
structure Location where
  kind : Nat
  loc : Nat
deriving DecidableEq, Repr

end Sys2Proof
end

