-- ==== Sys2Proof/Syntax.lean ====
section
/-! DEFINITION. The commands of the DK1: one constructor per row of spec/opcode_table.json, with the operands that the
row's rule gives the happening. -/

namespace Sys2Proof

/-- A command: something that arrives, is written, falls due or completes. Each is whole and indivisible (ch. 95). -/
inductive Instr where
  /-- R46: A DST DATA segment arrives on a job-stream stream and is accepted into the window or discarded with an ACK. Operands: the sender and the datagram's bytes. -/
  | dstData (src : Src) (seg : Bytes)
  /-- R51: A DST SYNC opens a stream, setting type, job ID and ack base, or is answered as a retry. Operands: the sender and the datagram's bytes. -/
  | dstSync (src : Src) (seg : Bytes)
  /-- R52: A DST FIN closes a stream once every earlier sequence is received, or is answered as a repeat or with a closed NAK. Operands: the sender and the datagram's bytes. -/
  | dstFin (src : Src) (seg : Bytes)
  /-- R47: ack_idle_us after the oldest unacknowledged segment, the DK1 sends an ACK. Operands: the stream. -/
  | ackIdleTimeout (stream : Nat)
  /-- R48: The per-stream reorder timer reaches reorder_us with the hole at A still open, and a NAK with the bitmap is sent. Operands: the stream. -/
  | reorderTimeout (stream : Nat)
  /-- R48: 200 µs after the last NAK with an unchanged A and held later segments, the NAK is repeated. Operands: the stream. -/
  | nakRepeat (stream : Nat)
  /-- R50: When spool or queue room returns and W rises above 0, the DK1 sends an unsolicited ACK. Operands: the stream. -/
  | windowReopen (stream : Nat)
  /-- R88: A free decode engine takes a stream with undecoded payload and decodes until input runs out, its buffer fills, its quantum ends or a save is requested. Operands: whether the context of the stream, the next in turn (R88), fails its check. -/
  | decodeEngineAssign (bad : Bool)
  /-- R58: A held descriptor whose predecessor has not arrived within hold_us is refused with every number below it. Operands: the stripe number of the held descriptor. -/
  | descriptorHoldTimeout (seq : Nat)
  /-- R59: A descriptor waiting for stripe-queue room is taken when the queue drops below 8 stripes. -/
  | descriptorQueueRoom
  /-- R68: A PENDING stripe becomes ADMITTED once its bands, density map, halos, under-layer and frozen trim table are all in place. Operands: the stripe, and the stripes whose density map fails a line check as it is read. -/
  | stripeAdmit (seq : Nat) (bad : List Nat)
  /-- R131: The coarse renderer finishes a band's density cells and stores them with their line checks. Operands: whether the fetch of the band's records passed its DRAM checks. -/
  | densityPrepassBand (fetched : Bool)
  /-- R134: 1,000 µs after a failed density fetch the band is retried once, then refused with its stripe. Operands: the stripe, the band, whether the retried fetch passed. -/
  | densityFetchRetry (seq band : Nat) (fetched : Bool)
  /-- R94: A checkpoint or save-out image finishes its verified write to the save slot, with one rewrite and event 0x0901 on failure. Operands: whether every line passes its check when read back. -/
  | contextImageStoreDone (ok : Bool)
  /-- R95: A restore finishes decoding and checking an image, loading it and reopening the window, or failing with event 0x0902. Operands: whether the chunk and the image read from DRAM pass their checks. -/
  | contextRestoreDone (ok : Bool)
  /-- R97: A compression engine completes one band-segment record chunk and spools it, raw when compression does not help. Operands: the band and the segment. -/
  | recordChunkCompress (band seg : Nat)
  /-- R117: Rendering of a stripe begins once it is ADMITTED and the previous stripe's last tick is computed. -/
  | renderStart
  /-- R118: Every slice finishes writing a line's P and ρ segments with checks, completing pre-roll after 512 lines. Operands: a mask of the slices whose record fetch failed after refetch. -/
  | renderLineDone (bad : Nat)
  /-- R119: A slice's curve unit finishes flattening the QUAD segments of the next band. Operands: the slice and the band. -/
  | curveFlattenDone (slice band : Nat)
  /-- R123: A queued re-render rewrites a P segment atomically with a fresh check. Operands: the slice, whether its record fetch passed. -/
  | rerenderDone (slice : Nat) (fetched : Bool)
  /-- R146: The free PEC engine starts the F map of the lowest-numbered ADMITTED stripe and latches the live parameters. -/
  | fMapStart
  /-- R146: The PEC engine completes and stores one cell row of a stripe's F map. Operands: the density cells whose read failed after refetch (under-layer, column, row). -/
  | fRowDone (unread : List (Bool × Int × Int))
  /-- R144: A write of 1 to PEC_COMMIT.commit copies the shadow PEC parameter set to the live set in one step. Operands: the value written. -/
  | pecCommit (commit : Bool)
  /-- R261: At C_s the stage offset of a tick is extrapolated from the newest report and the tick log entry's first part is written. -/
  | tickFix
  /-- R36: At T − 3τ the shot units compute every code of the tick from window, F map, trims and offset, writing residuals and blanking shots whose inputs fail. Operands: the reads of the tick that fail their checks. -/
  | tickCompute (bad : List BadRead)
  /-- R174: Once every earlier tick is resolved, a queued ρ segment rebuild starts its replay. -/
  | rhoRebuildStart
  /-- R174: A ρ rebuild writes the segment with a fresh check, or resets it to zero with rho_lost reports when an input fails. Operands: whether every input outside the window read good. -/
  | rhoRebuildDone (bad : List BadRead)
  /-- R272: At the next tick boundary a lasting window row is mapped to a spare and its segments re-rendered and rebuilt. -/
  | windowRowRemap
  /-- R204: At T − 2τ the DK1 launches the tick's SOF and frame on each lane. -/
  | frameLaunch
  /-- R204: The TICK ordered set for a tick is sent to arrive in the guard window, with or without a frame. -/
  | tickSend (bad : List BadRead)
  /-- R200: Within 40 ns of a candidate appearing, a replay run of the tick's eligible candidates is launched. Operands: the lane, the units (0 to 15 blocks, 16 header) whose stored frame fails its check. -/
  | replayLaunch (t : Nat) (bad : List Nat)
  /-- R199: No ACK for a tick frame within its timeout makes every unACKed block and header a replay candidate. Operands: the lane and the tick. -/
  | ackTimeout (t n : Nat)
  /-- R167: At T_n + 5τ unresolved lanes of tick n are treated as receiver-blanked and marked unconfirmed. Operands: the blocks (16·lane + block) whose undo entries fail their check. -/
  | undoExpiry (bad : List BadRead)
  /-- R199: A back-channel ACK frees good blocks from the replay buffer and marks others as candidates. Operands: the lane and the block's 16 message bytes. -/
  | ackReceive (t : Nat) (b : Bytes)
  /-- R199: A back-channel NAK makes the named block or header a replay candidate. Operands: the lane and the block's 16 message bytes. -/
  | nakReceive (t : Nat) (b : Bytes)
  /-- R202: A CREDIT updates the lane's credit count from the cumulative credit_cum. Operands: the lane and the block's 16 message bytes. -/
  | creditReceive (t : Nat) (b : Bytes)
  /-- R197: A STATUS resolves covered ticks on the lane, restoring ρ for receiver-blanked blocks. Operands: the lane, the block's 16 message bytes, the blocks whose undo entries fail their check. -/
  | statusReceive (t : Nat) (b : Bytes) (bad : List BadRead)
  /-- R330: A MONITOR reading is matched to a fired calibration beam, or discarded as stray. Operands: the lane and the block's 16 message bytes. -/
  | monitorReceive (t : Nat) (b : Bytes)
  /-- R209: A CAPS answer to CONFIG is checked and the lane accepted into LATENCY or refused to FAILED. Operands: the lane and the block's 16 message bytes. -/
  | capsReceive (t : Nat) (b : Bytes)
  /-- R207: A LATENCY answer gives a loop flight; with enough probes d_fwd is set and the lane enters ACTIVE with a STATUS_REQ. Operands: the lane, the block's 16 message bytes, the part of the arrival time below 1 ns in ps. -/
  | latencyReceive (t : Nat) (b : Bytes) (sub : Nat)
  /-- R228: A MARGIN reply to ADAPT_CHECK gives the receiver's eye margin for the lane. Operands: the lane and the block's 16 message bytes. -/
  | marginReceive (t : Nat) (b : Bytes)
  /-- R222: A TRN_STAT advances training, applies a tap request, or, while ACTIVE, marks the lane lost. Operands: the lane, the block's 16 message bytes, whether the DK1 holds block lock on it. -/
  | trnStatReceive (t : Nat) (b : Bytes) (lock : Bool)
  /-- R235: A TEST_RESULT latches the receiver's error and bit counts for an outbound test. Operands: the lane and the block's 16 message bytes. -/
  | testResultReceive (t : Nat) (b : Bytes)
  /-- R219: A write to LANE_CTRL.enable sends the lane to DISABLED or starts DETECT. Operands: the lane and the bit written. -/
  | laneEnableWrite (t : Nat) (v : Bool)
  /-- R219: A write of 1 to LANE_CTRL.restart takes a FAILED lane to DETECT and clears its attempt count. Operands: the lane and the bit written. -/
  | laneRestart (t : Nat) (v : Bool)
  /-- R231: A write of 1 to LANE_CTRL.retrain schedules retraining for the next turnaround, or at once when no job is exposing. Operands: the lane and the bit written. -/
  | laneRetrainRequest (t : Nat) (v : Bool)
  /-- R227: A write to LANE_CTRL.lane_test takes the lane out of or back into service, with its tile blanked. Operands: the lane and the bit written. -/
  | laneTestWrite (t : Nat) (v : Bool)
  /-- R219: Every 1,000 µs in DETECT the DK1 probes for a receiver load and enters TRAIN after two in a row. Operands: the lane, whether the probe senses a receiver load. -/
  | receiverDetectProbe (t : Nat) (load : Bool)
  /-- R220: A TRAIN, LOCK, CAPS or LATENCY timeout ends the attempt and counts it, going to FAILED after retries. Operands: the lane. -/
  | bringupTimeout (t : Nat)
  /-- R219: In CAPS, CONFIG is resent every 2 µs up to 8 sends. Operands: the lane. -/
  | configResend (t : Nat)
  /-- R207: In LATENCY the DK1 sends one of eight LAT_PROBE ordered sets every 10 µs. Operands: the lane. -/
  | latProbeSend (t : Nat)
  /-- R220: The electrical-idle hold after a failed attempt or a lost lane ends and the lane enters DETECT. Operands: the lane. -/
  | electricalIdleHoldEnd (t : Nat)
  /-- R226: Loss of signal or lock on the back channel, or repeated unknown messages, drops an ACTIVE lane to electrical idle. Operands: the lane, whether it is block lock (not the signal) that is lost. -/
  | laneLost (t : Nat) (lock : Bool)
  /-- R228: Every 64 µs an ACTIVE lane sends ADAPT_CHECK and the DK1 computes its own margin. Operands: the lane, the eye margin the DK1 measures on its own receiver. -/
  | adaptCheckSend (t own : Nat)
  /-- R231: At a turnaround's start scheduled lanes receive TRAIN_START and retrain through TRAIN, LOCK, CAPS and LATENCY. -/
  | retrainingSlotStart
  /-- R231: At 2,500 µs a lane not yet ACTIVE after retraining is lost with last_fail 9. -/
  | retrainingSlotEnd
  /-- R235: A lane test's duration or clip ends, counts are latched and the lane returns by the test's path. Operands: the lane, the bits that reached the DK1's checker in the test. -/
  | laneTestEnd (t : Nat) (rx : List Bool)
  /-- R236: A write to LANE_TEST.inject_bit inverts one bit of the running pattern. Operands: the lane and the bit written. -/
  | injectBit (t : Nat) (v : Bool)
  /-- R236: A write to LANE_TEST.inject_burst inverts burst_len consecutive bits. Operands: the lane and the bit written. -/
  | injectBurst (t : Nat) (v : Bool)
  /-- R236: A write to LANE_TEST.inject_crc corrupts the crc of the next crc_count block frames of a lane in lane test. Operands: the lane and the bit written. -/
  | injectCrc (t : Nat) (v : Bool)
  /-- R221: 2,000 ms into P6 a lane still in DETECT raises event 0x0401 and no longer holds up P6. Operands: the lane. -/
  | p6DetectLimit (t : Nat)
  /-- R31: At first_tick − 3τ the stripe is armed if every condition holds, latching its parameters and column table. -/
  | armPoint
  /-- R33: The dwell of a stripe's last tick ends, starting the turnaround, a commit point and any suspend or cancel. -/
  | stripeEnd
  /-- R327: At W0 a calibration window begins on the lanes for window_us. -/
  | calibrationWindowStart
  /-- R329: A calibration tick fires CAL code on the measured beam of each lane and ZERO elsewhere. -/
  | calTick
  /-- R330: At a window's end the readings of each measured beam give G_meas and the cursor advances. -/
  | calibrationWindowEnd
  /-- R252: A write of arm to TIME_TRIG0_CTRL submits first_tick, accepted as pending or refused with event 0x0210. Operands: the stripe and the arm bit written. -/
  | firstTickWrite (seq : Nat) (arm : Bool)
  /-- R245: A PTP Sync is timestamped and, for a one-step master, yields an offset from master. Operands: the message's header, its two-step flag, its timestamp. -/
  | syncReceive (h : PtpHdr) (twoStep : Bool) (t1 : PtpTime)
  /-- R245: A Follow_Up of a two-step master completes t1 and yields an offset. Operands: the message's header and precise timestamp. -/
  | followUpReceive (h : PtpHdr) (t1 : PtpTime)
  /-- R245: A matching Delay_Resp gives t4 and updates the mean path delay. Operands: the message's header, whether it names the DK1's port identity, its receive timestamp. -/
  | delayRespReceive (h : PtpHdr) (mine : Bool) (t4 : PtpTime)
  /-- R243: An Announce feeds the BMCA over up to four foreign masters. Operands: the message's header and data set. -/
  | announceReceive (h : PtpHdr) (d : PtpData)
  /-- R243: At the randomised Delay_Req interval the DK1 sends a Delay_Req and stamps t3. -/
  | delayReqSend
  /-- R247: When the step window next opens a deferred step is taken if the offset still exceeds 100,000 ns. -/
  | deferredStep
  /-- R249: announceReceiptTimeout expires with no qualified master and holdover is entered. -/
  | announceReceiptTimeout
  /-- R249: No Sync for four Sync intervals enters holdover. -/
  | syncTimeout
  /-- R249: The PTP port's link goes down or the cage module is removed, entering holdover or stopping stage reports. Operands: the port (0 ETH0, 1 ETH1, 2 stage port). -/
  | portLinkDown (p : Nat)
  /-- R242: A write to TIME_INC_LO with the servo off sets TIME_INC together with the last TIME_INC_HI. Operands: the TIME_INC_LO value written. -/
  | timeIncWrite (v : Nat)
  /-- R256: A pulse-train unit emits a rising edge on its time or tick grid, applying any pending write. Operands: the unit, 2 to 7. -/
  | pulseTrainEdge (u : Nat)
  /-- R254: TICK_OUT is driven high for a launched stripe tick, or calibration tick when cal is 1, at its delay. -/
  | tickOutPulse
  /-- R258: A selected edge on a capture input is timestamped into its FIFO, or dropped with overflow. Operands: the unit, the direction, whether the edge is on HALYARD_OUT. -/
  | captureEdge (c : Nat) (rising out : Bool)
  /-- R258: A read of TIME_CAPc_TAG pops the oldest capture entry and latches its time registers. Operands: the reader, the unit. -/
  | captureTagRead (who : Src) (c : Nat)
  /-- R421: A read of a latched group's first register latches the group's other registers for that source. Operands: the reader, the address of the group's first register. -/
  | latchedGroupRead (who : Src) (a : Nat)
  /-- R259: A stage report datagram is checked and accepted, discarded and counted, or ignored while disabled. Operands: the sender and the datagram's payload. -/
  | stageReport (src : Src) (b : Bytes)
  /-- R287: The scheduler issues a queued DRAM request by class weight, row hit and activate rotation. Operands: the subchannel, what the real-time read ports hold, how the transfers go, the requests that reach their ports first. -/
  | dramRequestIssue (sc : Nat) (fill : PortFill) (x : Transfer) (arrivals : List DramReq)
  /-- R279: A line read failing its tag check is refetched, and the result passes or returns the failure to the requester. Operands: whether the transfer fails its check again. -/
  | dramRefetch (bad : Bool)
  /-- R308: A targeted self-test of a failing location completes and may make it lasting. Operands: the location tested, whether it passed. -/
  | targetedSelftestDone (l : Location) (passed : Bool)
  /-- R282: A Ladle entry 2 µs after its first write is flushed. -/
  | ladleTimeout
  /-- R283: A requester's fence completes once all its earlier writes are in DRAM. Operands: the requester. -/
  | fenceComplete (q : Nat)
  /-- R290: A JESD79-5 refresh falls due and is issued or postponed under PANIC up to four. Operands: the subchannel. -/
  | refreshDue (sc : Nat)
  /-- R291: Each 1 µs window renews every requester's activate budget. -/
  | activateWindow
  /-- R292: Every 32 ms the per-bank activate count tables are cleared. -/
  | activateCountClear
  /-- R294: A due subchannel starts a quick or widened retraining sweep in a turnaround or at once when idle. Operands: the device temperatures by subchannel (°C). -/
  | dramRetrainStart (temps : List Int)
  /-- R295: A sweep ends centred, or keeps the old setting and runs a pattern test that may fail the subchannel. Operands: the passing runs of each delay (Vref step, first step, steps), whether the pattern test passes. -/
  | dramRetrainDone (runs : List (List (Nat × Nat × Nat))) (pattern : Bool)
  /-- R301: In a turnaround a queued lasting row is copied, repaired by sPPR, written back and verified. Operands: the columns whose line fails its check in the copy, whether an sPPR resource remains, the columns whose line fails when it is read back. -/
  | dramRepair (bad : List Nat) (resource : Bool) (unverified : List Nat)
  /-- R298: Whisk checks or rewrites the next line index of its pass. Operands: how the transfers of the read or of the reading back go. -/
  | whiskLine (x : Transfer)
  /-- R299: Every 2,000 ns Whisk checks a trim SRAM group and reloads a failed one. Operands: whether the group fails its check, whether its mirror line does. -/
  | whiskTrimCheck (bad mirrorBad : Bool)
  /-- R280: A write to DMC_REGIONr while IDLE resizes a region and discards every region's content. Operands: the region and the size written. -/
  | regionWrite (r size : Nat)
  /-- R317: Within 1,000 µs of the last entry becoming final, both signatures are latched and the summary spooled. -/
  | signatureFinal
  /-- R322: A host ACK on port 47102 attaches a record stream or acknowledges its chunks. Operands: the sender and the datagram's payload. -/
  | recordStreamAck (src : Src) (b : Bytes)
  /-- R322: A host NAK on a record stream makes the DK1 resend the missing chunks. Operands: the sender and the datagram's payload. -/
  | recordStreamNak (src : Src) (b : Bytes)
  /-- R322: A record segment unacknowledged for 1,000 µs is resent. Operands: the record stream. -/
  | recordResendTimeout (k : Nat)
  /-- R322: After 100 ms with nothing acknowledged the record stream is detached with event 0x0545. Operands: the record stream. -/
  | recordStreamIdleTimeout (k : Nat)
  /-- R335: A write of 1 to CAL_COMMIT.commit closes the host session and requests a commit. Operands: the bit written. -/
  | calCommit (v : Bool)
  /-- R335: A write of 1 to CAL_COMMIT.abort closes the session and restores its entries to their live values. Operands: the bit written. -/
  | calAbort (v : Bool)
  /-- R335: A write of 1 to CAL_HOST.open opens a host trim session. Operands: the bit written. -/
  | calHostOpen (v : Bool)
  /-- R431: A host write to a trim entry goes to the shadow bank and opens or extends the session. Operands: the beam and the word written. -/
  | trimEntryWrite (beam v : Nat)
  /-- R362: ARB_GRANT_N asserted with HALYARD_IN low makes the standby take HALYARD and begin takeover. Operands: the level of HALYARD_IN. -/
  | grantAssert (inHigh : Bool)
  /-- R347: ARB_GRANT_N deasserted idles every lane and drops HALYARD_OUT within 200 ns. -/
  | grantRemove
  /-- R370: HALYARD_IN rising while HALYARD_OUT is high drops both modules' lanes and HALYARD. -/
  | halyardInRise
  /-- R362: 1,000 µs after a grant found HALYARD_IN high, event 0x0707 is raised. -/
  | roleRefusedTimeout
  /-- R363: Once lanes report their last settled ticks, the interrupted stripe's ticks are settled and ρ rebuilt. -/
  | takeoverSettle
  /-- R353: Each side sends a HELLO every 10 µs. -/
  | helloSend
  /-- R353: A HELLO brings the pair link up, adopts a higher epoch, or refuses a partner of another variant. Operands: the bytes of the frame. -/
  | helloReceive (b : Bytes)
  /-- R353: 50 µs without a good pair frame takes the pair link down. -/
  | pairLinkTimeout
  /-- R357: A mirrored TLOG_FIX is committed and lets the standby compute that tick. Operands: the bytes of the frame. -/
  | tlogFixReceive (b : Bytes)
  /-- R357: A mirrored TLOG_FINAL is committed and applied through the standby's undo ring. Operands: the bytes of the frame. -/
  | tlogFinalReceive (b : Bytes)
  /-- R354: A pair ACK advances the active's last committed generation and gives the round trip. Operands: the bytes of the frame. -/
  | pairAckReceive (b : Bytes)
  /-- R357: A mirrored TRIM frame stores a piece of the active's live bank. Operands: the bytes of the frame. -/
  | trimReceive (b : Bytes)
  /-- R357: A mirrored TRIM_COMMIT installs the bank at the named stripe's end. Operands: the bytes of the frame. -/
  | trimCommitReceive (b : Bytes)
  /-- R357: A mirrored POINTERS frame updates the standby's job, queue and latched parameters. Operands: the bytes of the frame. -/
  | pointersReceive (b : Bytes)
  /-- R358: A mirrored CTX frame stores a codec checkpoint image for use at takeover. Operands: the bytes of the frame. -/
  | ctxReceive (b : Bytes)
  /-- R368: The active receives REVERT_REQ and raises SHOT_TURN_REQ for the coming turnaround. Operands: the bytes of the frame. -/
  | revertReqReceive (b : Bytes)
  /-- R368: The standby commits a HANDOVER naming the last stripe completed. Operands: the bytes of the frame. -/
  | handoverReceive (b : Bytes)
  /-- R367: A SYNC_COPY frame delivers density cells or trim pieces to a synchronising standby. Operands: the bytes of the frame. -/
  | syncCopyReceive (b : Bytes)
  /-- R368: After HANDOVER is committed or 100 µs pass, the active idles its lanes and drops HALYARD. -/
  | activeRelease
  /-- R355: No commit progress for 2 µs resends every frame from the first uncommitted generation. -/
  | mirrorResendTimeout
  /-- R355: No resend progress for 100 µs, or a full store, takes mirroring down and unprotects the active. -/
  | mirrorStallTimeout
  /-- R350: HEARTBEAT_OUT toggles at its half-period while the module is healthy. -/
  | heartbeatEdge
  /-- R350: The HKC failing to refresh the heartbeat within hkc_ms holds HEARTBEAT_OUT low. -/
  | hkcRefreshTimeout
  /-- R372: A feed above 10.8 V for 10 ms becomes good, starting power-on or raising event 0x0103. Operands: the feed (0 A, 1 B), its voltage in mV. -/
  | feedGood (feed mv : Nat)
  /-- R372: A feed below 10.2 V for 20 µs is lost, with no reset while the other holds. Operands: the feed (0 A, 1 B), its voltage in mV. -/
  | feedLost (feed mv : Nat)
  /-- R440: A PG input pulled low turns its feed's hot-swap stage off and the feed counts as lost. Operands: the feed (0 A, 1 B). -/
  | pgLow (feed : Nat)
  /-- R376: Both feeds lost with the standby supply held asserts the brown-out reset source. -/
  | brownOut
  /-- R373: Both feeds below 7.0 V lose the retained domain, making the next start-up a power-on. -/
  | standbySupplyLost
  /-- R377: RESET_N low for 1 µs or longer asserts a reset of its fused reach. Operands: how long the contact has been low (ns), whether it is high again. -/
  | resetNAssert (lowNs : Nat) (released : Bool)
  /-- R379: Release of the last asserted reset source starts the start-up of the deepest reach asserted. Operands: the source of Table 14.3, the junction temperature in 1/64 °C. -/
  | resetRelease (src : Nat) (tj : Int)
  /-- R386: The junction reaching the warning level stops arming, lowers EXPOSE_PERMIT and the heartbeat. Operands: the junction temperature in 1/64 °C. -/
  | thermalWarning (tj : Int)
  /-- R386: The junction 5 °C below the warning level clears the warning. Operands: the junction temperature in 1/64 °C. -/
  | thermalWarningClear (tj : Int)
  /-- R376: The junction at 115 °C asserts the thermal trip reset source. Operands: the junction temperature in 1/64 °C. -/
  | thermalTrip (tj : Int)
  /-- R414: The HKC failing to refresh within timeout_ms asserts the housekeeping watchdog reset source. -/
  | watchdogExpiry
  /-- R387: A keyed write of cmd 1 to RCU_RESET_CMD performs an L1 engine reset. Operands: the key written. -/
  | engineReset (key : Nat)
  /-- R387: A keyed write of cmd 2 to RCU_RESET_CMD performs an L2 warm reset. Operands: the key written. -/
  | warmReset (key : Nat)
  /-- R388: A write of go to RCU_BLOCK_RST resets an idle block or lane, or is refused with a result code. Operands: the block and the lane written. -/
  | blockReset (blk lane : Nat)
  /-- R380: P0's power ramp and PLL lock complete and start-up moves to P1. -/
  | pllLock
  /-- R374: P1 reads fuses and checks the retained areas, clearing failed ones. Operands: bit a: retained area a fails its check. -/
  | fuseRead (bad : Nat)
  /-- R384: P2 samples the straps and the CFGR code. Operands: BOOTSEL, CLKMODE, and the ratio of CFGR to the pull-up supply in 2^-16. -/
  | strapSampling (bootsel clkmode ratio : Nat)
  /-- R382: P3 chooses and loads an image slot, applies option records, starts the HKC and loads the snapshot. Operands: the image streamed through the service header. -/
  | optionLoading (svc : Bytes)
  /-- R311: P4 tests every checker instance, halting start-up on any failure. Operands: the first instance that fails. -/
  | checkerSelftest (failed : Option Nat)
  /-- R293: P5 trains the DRAM subchannels and applies listed hPPR repairs. Operands: the passing runs of each delay (Vref step, first step, steps), by 10·subchannel + 2·byte lane + (0 read DQS, 1 write DQ), listed rows without an hPPR resource, the device temperatures (°C). -/
  | dramTraining (runs : List (List (Nat × Nat × Nat))) (noHppr : List Nat) (temps : List Int)
  /-- R221: P6 ends when every enabled lane is ACTIVE, FAILED or past its detect limit. -/
  | laneBringupEnd
  /-- R381: A phase P0 to P4 overrunning its limit halts the start-up. -/
  | phaseOverrun
  /-- R449: SVC_NVM_EN_N low holds the start of P3, and is ignored at other times. Operands: its level, and what is programmed into NVM while it is low. -/
  | svcNvmEnN (low : Bool) (prog : List (Nat × Bytes))
  /-- R393: A DMP READ returns n consecutive registers, or refuses an unassigned address. Operands: the sender and the datagram's payload. -/
  | dmpRead (src : Src) (b : Bytes)
  /-- R393: A DMP WRITE is checked whole and its pairs applied in order. Operands: the sender and the datagram's payload. -/
  | dmpWrite (src : Src) (b : Bytes)
  /-- R393: A DMP READ_BLOCK returns register, SRAM or DRAM bytes, or status 6 on a failed line. Operands: the sender and the datagram's payload, lines whose first transfer fails its check, lines that fail after refetch. -/
  | readBlock (src : Src) (b : Bytes) (refetched bad : List Nat)
  /-- R396: The LOAD_JOB command sets the job ID and enters LOADING. Operands: the sender and the datagram's payload. -/
  | loadJob (src : Src) (b : Bytes)
  /-- R396: The END_JOB command names the last stripe of the job. Operands: the sender and the datagram's payload. -/
  | endJob (src : Src) (b : Bytes)
  /-- R396: The UNLOAD_JOB command closes streams, empties the queue and returns to IDLE. Operands: the sender and the datagram's payload. -/
  | unloadJob (src : Src) (b : Bytes)
  /-- R410: The SUBSCRIBE command adds the source as an event subscriber. Operands: the sender and the datagram's payload. -/
  | subscribe (src : Src) (b : Bytes)
  /-- R410: The UNSUBSCRIBE command removes the source as an event subscriber. Operands: the sender and the datagram's payload. -/
  | unsubscribe (src : Src) (b : Bytes)
  /-- R396: OP_START of job exposure moves a LOADING job to ARMED at a commit point. Operands: the sender and the datagram's payload. -/
  | opJobExposure (src : Src) (b : Bytes)
  /-- R342: OP_START of the calibration sweep runs windows until every rank is measured, then requests a commit. Operands: the sender and the datagram's payload. -/
  | opCalibrationSweep (src : Src) (b : Bytes)
  /-- R340: OP_START of the NVM snapshot copies the live bank and parameters to a snapshot slot. Operands: the sender and the datagram's payload. -/
  | opNvmSnapshot (src : Src) (b : Bytes)
  /-- R340: The snapshot's header is programmed and read back, with event 0x0809 or 0x080A. Operands: whether the slot reads back right. -/
  | snapshotDone (ok : Bool)
  /-- R298: OP_START of the full scrub runs one Whisk pass at up to 4 GB/s. Operands: the sender and the datagram's payload. -/
  | opFullScrub (src : Src) (b : Bytes)
  /-- R294: OP_START of DRAM retrain retrains the named subchannels, waiting for turnarounds when exposing. Operands: the sender and the datagram's payload. -/
  | opDramRetrain (src : Src) (b : Bytes)
  /-- R235: OP_START of the lane BER test sends TEST_START and runs the selected test on the named lanes, or refuses it. Operands: the sender and the datagram's payload. -/
  | opLaneBerTest (src : Src) (b : Bytes)
  /-- R426: OP_START of self-test tests the checkers selected by the mask. Operands: the sender and the datagram's payload. -/
  | opSelfTest (src : Src) (b : Bytes)
  /-- R426: The self-test operation finishes and sets TEST_ST_RESULT and TEST_ST_COUNT. Operands: how many instances have been tested, the identities of those that failed. -/
  | selfTestDone (tested : Nat) (failed : List Nat)
  /-- R92: The codec context save operation in checkpoint mode images the named streams at chunk boundaries. Operands: the sender and the datagram's payload. -/
  | opCheckpoint (src : Src) (b : Bytes)
  /-- R93: The codec context save operation in save-out mode suspends and freezes the named streams with W = 0. Operands: the sender and the datagram's payload. -/
  | opSaveOut (src : Src) (b : Bytes)
  /-- R95: The codec context save operation in restore mode loads images into frozen or closed streams. Operands: the sender and the datagram's payload. -/
  | opRestore (src : Src) (b : Bytes)
  /-- R405: OP_START of firmware update checks the staged image and programs it into the unloaded slot. Operands: the sender and the datagram's payload. -/
  | opFirmwareUpdate (src : Src) (b : Bytes)
  /-- R405: The firmware image is programmed header last and read back, or the operation fails with 0x0618. Operands: whether the slot reads back right. -/
  | firmwareUpdateDone (ok : Bool)
  /-- R402: OP_SUSPEND puts an operation into suspending until its suspend point. Operands: the sender and the datagram's payload. -/
  | opSuspend (src : Src) (b : Bytes)
  /-- R402: OP_RESUME resumes a suspended operation, refused while a subchannel has failed or a thermal warning holds. Operands: the sender and the datagram's payload. -/
  | opResume (src : Src) (b : Bytes)
  /-- R398: OP_CANCEL without abandon cancels at the operation's cancel point, refusing unstarted stripes for job exposure. Operands: the sender and the datagram's payload. -/
  | opCancel (src : Src) (b : Bytes)
  /-- R400: OP_CANCEL with abandon stops exposure at once, truncating the stripe and naming its affected lines. Operands: the sender and the datagram's payload. -/
  | opCancelAbandon (src : Src) (b : Bytes)
  /-- R402: OP_STATUS returns an operation's kind, state, result and progress. Operands: the sender and the datagram's payload. -/
  | opStatus (src : Src) (b : Bytes)
  /-- R410: An EVENT_ACK acknowledges every event entry up to its index for its source. Operands: the sender and the datagram's payload. -/
  | eventAck (src : Src) (b : Bytes)
  /-- R410: Every resend_ms pending event entries are resent to subscribers. -/
  | eventResend
  /-- R410: A subscriber that has acknowledged nothing for 1 s is dropped with event 0x0A09. -/
  | subscriberDrop
  /-- R411: A write of 1 to EVT_ACK_ALL.ack acknowledges every entry for every subscriber. Operands: the ack bit written. -/
  | evtAckAll (v : Bool)
  /-- R413: At the next tick boundary, or within 100 µs when idle, the HKC reconciles its held registers. -/
  | hkcReconcile
  /-- R427: A write of 1 to TEST_INJECT.go inverts a stored check at the named location, or is refused. Operands: the target, the location and the go bit written. -/
  | testInject (target loc : Nat) (go : Bool)
  /-- R429: A write to a multicast group register joins the new group and leaves the old one. Operands: the port, the IP version, the group written. -/
  | mcastGroupWrite (p : Nat) (v6 : Bool) (g : Nat)
  /-- R429: An ARP request for a port address is answered. Operands: the port, the sender's MAC and IPv4 address, the address asked for. -/
  | arpRequest (p mac ip target : Nat)
  /-- R429: An IPv6 neighbour solicitation for a port address is answered. Operands: the port, the sender's MAC and IPv6 address, the address asked for. -/
  | neighbourSolicitation (p mac src target : Nat)
  /-- R429: An ICMP or ICMPv6 echo request is answered. Operands: the sender, the address it sends to, the ICMP or ICMPv6 message. -/
  | echoRequest (src : Src) (dst : Nat) (b : Bytes)
  /-- R429: An IGMP or MLD query is answered with reports for the joined groups. Operands: the port, the IP version, the group asked for, 0 for all. -/
  | multicastQuery (p : Nat) (v6 : Bool) (g : Nat)
  /-- R429: Any other or oversized frame is discarded and counted in RX_DROP. Operands: the port. -/
  | otherFrame (p : Nat)
  /-- R353: Loss of 64b/66b block lock on the pair link takes the link down at once. -/
  | pairLinkBlockLockLoss
  /-- R428: An Ethernet port's link comes up, for example on cage module insertion, setting STATUS.link_up and letting PTP, DST and stage traffic resume. Operands: the port. -/
  | portLinkUp (p : Nat)
  /-- R448: An SMBus command 0x01 with a register address and the 5-byte read returns the register value and CRC-8, or 0xFFFF_FFFF for an address outside the list. Operands: the target address, the command byte, the register address. -/
  | smbusTransaction (target cmd reg : Nat)
  /-- R440: A PG input released high lets its feed's hot-swap stage turn on while the feed is above 10.8 V. Operands: the feed (0 A, 1 B). -/
  | pgReleased (feed : Nat)
  /-- R226: A back-channel block with an invalid sync header, an unknown message type or idle fill is discarded; the first two kinds are counted, and unknown types count towards the 16-in-1-ms lane loss. Operands: the lane, the sync header, the block's 16 bytes. -/
  | unknownBackChannelBlock (t hdr : Nat) (b : Bytes)
  /-- R428: A frame with a bad frame check sequence is discarded and counted in the port's RX_FCS. Operands: the port. -/
  | badFcsFrame (p : Nat)
deriving DecidableEq, Repr

end Sys2Proof
end

