-- ==== Sys2Proof/Decode.lean ====
section
/-! DEFINITION. The commands that a word spells: none, since no row of the opcode table of this block gives bits. -/

namespace Sys2Proof

/-- The command a word of nbits bits spells. No row of spec/opcode_table.json gives bits, so no word spells a command. -/
def decodeTableWord (nbits w : Nat) : Option Instr :=
  match nbits, w with
  | _, _ => none

end Sys2Proof
end

