-- ==== Sys2Proof/Machine/Regs.lean ====
section
/-! DEFINITION. The register map of ch. 16 (R416, R430, R431, R425, R428 and the field tables of the other
chapters): every register field as a constant, and the whole map as data. -/

namespace Sys2Proof.Machine

/-- R416, R428: base of the port registers of ETH0 (0), ETH1 (1) and the stage port (2). -/
def portBase (p : Nat) : Nat := if p = 0 then 0x40000 else if p = 1 then 0x50000 else 0x60100

/-- Table 16.11: reset of DMC_REGIONr.base. -/
def regionResetBase (r : Nat) : Nat := [0, 0x5A, 0, 8, 0xC, 0x10, 0x30, 0x31, 0x59].getD r 0

/-- Table 16.11: reset of DMC_REGIONr.size. -/
def regionResetSize (r : Nat) : Nat := [0, 0xA6, 8, 4, 4, 0x20, 1, 0x28, 1].getD r 0

/-- vendor[31:16] RO, R425. -/
def Reg.GLOBAL_ID.vendor : Fld := ⟨0x0, 16, 16, 0x5053⟩
/-- device[15:0] RO, R425. -/
def Reg.GLOBAL_ID.device : Fld := ⟨0x0, 0, 16, 0xda01⟩
/-- lanes[15:8] RO, R425. -/
def Reg.GLOBAL_VARIANT.lanes : Fld := ⟨0x4, 8, 8, 0x40⟩
/-- variant[7:0] RO, R425. -/
def Reg.GLOBAL_VARIANT.variant : Fld := ⟨0x4, 0, 8, 0x0⟩
/-- silicon[31:24] RO, R425. -/
def Reg.GLOBAL_REV.silicon : Fld := ⟨0x8, 24, 8, 0x0⟩
/-- module[23:16] RO, R425. -/
def Reg.GLOBAL_REV.module : Fld := ⟨0x8, 16, 8, 0x0⟩
/-- fw_rev[15:0] RO, R425. -/
def Reg.GLOBAL_REV.fw_rev : Fld := ⟨0x8, 0, 16, 0x0⟩
/-- serial_hi[31:0] RO, R425. -/
def Reg.GLOBAL_SERIAL_HI.serial_hi : Fld := ⟨0xc, 0, 32, 0x0⟩
/-- serial_lo[31:0] RO, R425. -/
def Reg.GLOBAL_SERIAL_LO.serial_lo : Fld := ⟨0x10, 0, 32, 0x0⟩
/-- ready[31:31] RO, R425. -/
def Reg.GLOBAL_STATUS.ready : Fld := ⟨0x14, 31, 1, 0x0⟩
/-- alert[30:30] RO, R425. -/
def Reg.GLOBAL_STATUS.alert : Fld := ⟨0x14, 30, 1, 0x0⟩
/-- therm_warn[29:29] RO, R425. -/
def Reg.GLOBAL_STATUS.therm_warn : Fld := ⟨0x14, 29, 1, 0x0⟩
/-- locked[28:28] RO, R425. -/
def Reg.GLOBAL_STATUS.locked : Fld := ⟨0x14, 28, 1, 0x0⟩
/-- dram_ready[27:27] RO, R425. -/
def Reg.GLOBAL_STATUS.dram_ready : Fld := ⟨0x14, 27, 1, 0x0⟩
/-- sc_failed[26:26] RO, R425. -/
def Reg.GLOBAL_STATUS.sc_failed : Fld := ⟨0x14, 26, 1, 0x0⟩
/-- unprotected[25:25] RO, R425. -/
def Reg.GLOBAL_STATUS.unprotected : Fld := ⟨0x14, 25, 1, 0x0⟩
/-- lanes_all[24:24] RO, R425. -/
def Reg.GLOBAL_STATUS.lanes_all : Fld := ⟨0x14, 24, 1, 0x0⟩
/-- role[23:22] RO, R425. -/
def Reg.GLOBAL_STATUS.role : Fld := ⟨0x14, 22, 2, 0x0⟩
/-- phase[19:16] RO, R425. -/
def Reg.GLOBAL_STATUS.phase : Fld := ⟨0x14, 16, 4, 0x0⟩
/-- job[15:12] RO, R425. -/
def Reg.GLOBAL_STATUS.job : Fld := ⟨0x14, 12, 4, 0x0⟩
/-- lanes_failed[6:0] RO, R425. -/
def Reg.GLOBAL_STATUS.lanes_failed : Fld := ⟨0x14, 0, 7, 0x0⟩
/-- scratch[31:0] RW, R425. -/
def Reg.GLOBAL_SCRATCH.scratch : Fld := ⟨0x18, 0, 32, 0x0⟩
/-- job[31:0] RO, R415. -/
def Reg.GLOBAL_JOB_ID.job : Fld := ⟨0x100, 0, 32, 0x0⟩
/-- state[31:28] RO, R415. -/
def Reg.GLOBAL_JOB.state : Fld := ⟨0x104, 28, 4, 0x0⟩
/-- cancelled[27:27] RO, R415. -/
def Reg.GLOBAL_JOB.cancelled : Fld := ⟨0x104, 27, 1, 0x0⟩
/-- end_given[26:26] RO, R415. -/
def Reg.GLOBAL_JOB.end_given : Fld := ⟨0x104, 26, 1, 0x0⟩
/-- last_seq[23:0] RO, R415. -/
def Reg.GLOBAL_JOB.last_seq : Fld := ⟨0x104, 0, 24, 0x0⟩
/-- expose[1:0] RW, R415. -/
def Reg.GLOBAL_MODE.expose : Fld := ⟨0x108, 0, 2, 0x0⟩
/-- expose[1:0] RO, R415. -/
def Reg.GLOBAL_MODE_EFF.expose : Fld := ⟨0x10c, 0, 2, 0x0⟩
/-- timeout_ms[15:0] RWS, R415. -/
def Reg.GLOBAL_WDOG.timeout_ms : Fld := ⟨0x120, 0, 16, 0x1f4⟩
/-- bad[31:16] RO, R415. -/
def Reg.GLOBAL_DMP_STAT.bad : Fld := ⟨0x130, 16, 16, 0x0⟩
/-- retried[15:0] RO, R415. -/
def Reg.GLOBAL_DMP_STAT.retried : Fld := ⟨0x130, 0, 16, 0x0⟩
/-- handle[31:16] RO, R415. -/
def Reg.GLOBAL_OP_CTRL.handle (i : Nat) : Fld := ⟨0x200 + 0x8 * i, 16, 16, 0x0⟩
/-- kind[15:12] RO, R415. -/
def Reg.GLOBAL_OP_CTRL.kind (i : Nat) : Fld := ⟨0x200 + 0x8 * i, 12, 4, 0x0⟩
/-- state[11:8] RO, R415. -/
def Reg.GLOBAL_OP_CTRL.state (i : Nat) : Fld := ⟨0x200 + 0x8 * i, 8, 4, 0x0⟩
/-- result[7:0] RO, R415. -/
def Reg.GLOBAL_OP_CTRL.result (i : Nat) : Fld := ⟨0x200 + 0x8 * i, 0, 8, 0x0⟩
/-- permille[9:0] RO, R415. -/
def Reg.GLOBAL_OP_PROG.permille (i : Nat) : Fld := ⟨0x204 + 0x8 * i, 0, 10, 0x0⟩
/-- source[31:28] RO, R391. -/
def Reg.RCU_RESET_CAUSE.source : Fld := ⟨0x10000, 28, 4, 0x0⟩
/-- reach[27:25] RO, R391. -/
def Reg.RCU_RESET_CAUSE.reach : Fld := ⟨0x10000, 25, 3, 0x0⟩
/-- merged[24:24] RO, R391. -/
def Reg.RCU_RESET_CAUSE.merged : Fld := ⟨0x10000, 24, 1, 0x0⟩
/-- retained_lost[23:16] RO, R391. -/
def Reg.RCU_RESET_CAUSE.retained_lost : Fld := ⟨0x10000, 16, 8, 0x0⟩
/-- count[15:0] RO, R391. -/
def Reg.RCU_RESET_CAUSE.count : Fld := ⟨0x10000, 0, 16, 0x0⟩
/-- phase[31:28] RO, R391. -/
def Reg.RCU_PHASE.phase : Fld := ⟨0x10004, 28, 4, 0x0⟩
/-- halted[27:27] RO, R391. -/
def Reg.RCU_PHASE.halted : Fld := ⟨0x10004, 27, 1, 0x0⟩
/-- elapsed_us[26:0] RO, R391. -/
def Reg.RCU_PHASE.elapsed_us : Fld := ⟨0x10004, 0, 27, 0x0⟩
/-- reach[29:0] RO, R391. -/
def Reg.RCU_FUSE_MAP.reach : Fld := ⟨0x10008, 0, 30, 0x180524dc⟩
/-- cfgr[11:8] RO, R391. -/
def Reg.RCU_STRAPS.cfgr : Fld := ⟨0x1000c, 8, 4, 0x0⟩
/-- boot[7:6] RO, R391. -/
def Reg.RCU_STRAPS.boot : Fld := ⟨0x1000c, 6, 2, 0x0⟩
/-- clkmode[5:5] RO, R391. -/
def Reg.RCU_STRAPS.clkmode : Fld := ⟨0x1000c, 5, 1, 0x0⟩
/-- pref[4:4] RO, R391. -/
def Reg.RCU_STRAPS.pref : Fld := ⟨0x1000c, 4, 1, 0x0⟩
/-- column[2:0] RO, R391. -/
def Reg.RCU_STRAPS.column : Fld := ⟨0x1000c, 0, 3, 0x0⟩
/-- column[2:0] RWS (DK1-131), RO (DK1-262), R391. -/
def Reg.RCU_IDENT.column : Fld := ⟨0x10010, 0, 3, 0x0⟩
/-- key[31:24] WO, R391. -/
def Reg.RCU_RESET_CMD.key : Fld := ⟨0x10020, 24, 8, 0x0⟩
/-- cmd[1:0] WO, R391. -/
def Reg.RCU_RESET_CMD.cmd : Fld := ⟨0x10020, 0, 2, 0x0⟩
/-- go[31:31] WO, R391. -/
def Reg.RCU_BLOCK_RST.go : Fld := ⟨0x10024, 31, 1, 0x0⟩
/-- result[30:28] RO, R391. -/
def Reg.RCU_BLOCK_RST.result : Fld := ⟨0x10024, 28, 3, 0x0⟩
/-- block[15:8] RW, R391. -/
def Reg.RCU_BLOCK_RST.block : Fld := ⟨0x10024, 8, 8, 0x0⟩
/-- lane[5:0] RW, R391. -/
def Reg.RCU_BLOCK_RST.lane : Fld := ⟨0x10024, 0, 6, 0x0⟩
/-- hold[31:31] RO, R391. -/
def Reg.NVL_STATUS.hold : Fld := ⟨0x20000, 31, 1, 0x0⟩
/-- slot[30:30] RO, R391. -/
def Reg.NVL_STATUS.slot : Fld := ⟨0x20000, 30, 1, 0x0⟩
/-- marked[29:28] RO, R391. -/
def Reg.NVL_STATUS.marked : Fld := ⟨0x20000, 28, 2, 0x0⟩
/-- opt_skipped[27:16] RO, R391. -/
def Reg.NVL_STATUS.opt_skipped : Fld := ⟨0x20000, 16, 12, 0x0⟩
/-- fw_rev[15:0] RO, R391. -/
def Reg.NVL_STATUS.fw_rev : Fld := ⟨0x20000, 0, 16, 0x0⟩
/-- gen[31:0] RO, R391. -/
def Reg.NVL_GEN_A.gen : Fld := ⟨0x20004, 0, 32, 0x0⟩
/-- gen[31:0] RO, R391. -/
def Reg.NVL_GEN_B.gen : Fld := ⟨0x20008, 0, 32, 0x0⟩
/-- sec_hi[15:0] RO, R269. -/
def Reg.TIME_NOW_SEC_HI.sec_hi : Fld := ⟨0x30000, 0, 16, 0x0⟩
/-- sec_lo[31:0] RO, R269. -/
def Reg.TIME_NOW_SEC_LO.sec_lo : Fld := ⟨0x30004, 0, 32, 0x0⟩
/-- ns[31:0] RO, R269. -/
def Reg.TIME_NOW_NS.ns : Fld := ⟨0x30008, 0, 32, 0x0⟩
/-- frac[31:0] RO, R269. -/
def Reg.TIME_NOW_FRAC.frac : Fld := ⟨0x3000c, 0, 32, 0x0⟩
/-- inc_ns[31:0] RW, R269. -/
def Reg.TIME_INC_HI.inc_ns : Fld := ⟨0x30010, 0, 32, 0x1⟩
/-- inc_frac[31:0] RW, R269. -/
def Reg.TIME_INC_LO.inc_frac : Fld := ⟨0x30014, 0, 32, 0x0⟩
/-- domain[23:16] RW, R269. -/
def Reg.TIME_CTRL.domain : Fld := ⟨0x30018, 16, 8, 0x0⟩
/-- step_en[9:9] RW, R269. -/
def Reg.TIME_CTRL.step_en : Fld := ⟨0x30018, 9, 1, 0x1⟩
/-- servo_en[8:8] RW, R269. -/
def Reg.TIME_CTRL.servo_en : Fld := ⟨0x30018, 8, 1, 0x1⟩
/-- transport[3:2] RW, R269. -/
def Reg.TIME_CTRL.transport : Fld := ⟨0x30018, 2, 2, 0x1⟩
/-- port[1:0] RW, R269. -/
def Reg.TIME_CTRL.port : Fld := ⟨0x30018, 0, 2, 0x1⟩
/-- kp[31:0] RW, R269. -/
def Reg.TIME_KP.kp : Fld := ⟨0x3001c, 0, 32, 0x8000⟩
/-- ki[31:0] RW, R269. -/
def Reg.TIME_KI.ki : Fld := ⟨0x30020, 0, 32, 0x1000⟩
/-- locked[31:31] RO, R269. -/
def Reg.TIME_STATUS.locked : Fld := ⟨0x30024, 31, 1, 0x0⟩
/-- step_pending[30:30] RO, R269. -/
def Reg.TIME_STATUS.step_pending : Fld := ⟨0x30024, 30, 1, 0x0⟩
/-- inc_limit[29:29] RO, R269. -/
def Reg.TIME_STATUS.inc_limit : Fld := ⟨0x30024, 29, 1, 0x0⟩
/-- holdover[28:28] RO, R269. -/
def Reg.TIME_STATUS.holdover : Fld := ⟨0x30024, 28, 1, 0x0⟩
/-- port_state[27:24] RO, R269. -/
def Reg.TIME_STATUS.port_state : Fld := ⟨0x30024, 24, 4, 0x1⟩
/-- good_syncs[7:0] RO, R269. -/
def Reg.TIME_STATUS.good_syncs : Fld := ⟨0x30024, 0, 8, 0x0⟩
/-- offset[31:0] RO, R269. -/
def Reg.TIME_OFFSET.offset : Fld := ⟨0x30028, 0, 32, 0x0⟩
/-- mpd[31:0] RO, R269. -/
def Reg.TIME_PATH_DELAY.mpd : Fld := ⟨0x3002c, 0, 32, 0x0⟩
/-- unlock_ns[15:0] RW, R269. -/
def Reg.TIME_UNLOCK.unlock_ns : Fld := ⟨0x30030, 0, 16, 0x1f4⟩
/-- strict[0:0] RW, R269. -/
def Reg.TIME_LOCK_STRICT.strict : Fld := ⟨0x30034, 0, 1, 0x1⟩
/-- id_hi[31:0] RO, R269. -/
def Reg.TIME_MASTER_HI.id_hi : Fld := ⟨0x30038, 0, 32, 0x0⟩
/-- id_lo[31:0] RO, R269. -/
def Reg.TIME_MASTER_LO.id_lo : Fld := ⟨0x3003c, 0, 32, 0x0⟩
/-- deferred[31:16] RO, R269. -/
def Reg.TIME_STEPS.deferred : Fld := ⟨0x30040, 16, 16, 0x0⟩
/-- steps[15:0] RO, R269. -/
def Reg.TIME_STEPS.steps : Fld := ⟨0x30040, 0, 16, 0x0⟩
/-- asym_ps[31:0] RWS, R269. -/
def Reg.TIME_ASYM.asym_ps (i : Nat) : Fld := ⟨0x30050 + 0x4 * i, 0, 32, 0x0⟩
/-- tx_ps[31:16] RO, R269. -/
def Reg.TIME_PHY_LAT.tx_ps (i : Nat) : Fld := ⟨0x30060 + 0x4 * i, 16, 16, 0x0⟩
/-- rx_ps[15:0] RO, R269. -/
def Reg.TIME_PHY_LAT.rx_ps (i : Nat) : Fld := ⟨0x30060 + 0x4 * i, 0, 16, 0x0⟩
/-- sec_hi[15:0] RW, R269. -/
def Reg.TIME_TRIG0_SEC_HI.sec_hi : Fld := ⟨0x30100, 0, 16, 0x0⟩
/-- sec_lo[31:0] RW, R269. -/
def Reg.TIME_TRIG0_SEC_LO.sec_lo : Fld := ⟨0x30104, 0, 32, 0x0⟩
/-- ns[31:0] RW, R269. -/
def Reg.TIME_TRIG0_NS.ns : Fld := ⟨0x30108, 0, 32, 0x0⟩
/-- arm[31:31] WO, R269. -/
def Reg.TIME_TRIG0_CTRL.arm : Fld := ⟨0x3010c, 31, 1, 0x0⟩
/-- pending[30:30] RO, R269. -/
def Reg.TIME_TRIG0_CTRL.pending : Fld := ⟨0x3010c, 30, 1, 0x0⟩
/-- seq[23:0] RW, R269. -/
def Reg.TIME_TRIG0_CTRL.seq : Fld := ⟨0x3010c, 0, 24, 0x0⟩
/-- sec_hi[15:0] RO, R269. -/
def Reg.TIME_TRIG1_SEC_HI.sec_hi : Fld := ⟨0x3011c, 0, 16, 0x0⟩
/-- sec_lo[31:0] RO, R269. -/
def Reg.TIME_TRIG1_SEC_LO.sec_lo : Fld := ⟨0x30120, 0, 32, 0x0⟩
/-- ns[31:0] RO, R269. -/
def Reg.TIME_TRIG1_NS.ns : Fld := ⟨0x30124, 0, 32, 0x0⟩
/-- enable[31:31] RW, R269. -/
def Reg.TIME_PULSE_CTRL.enable (i : Nat) : Fld := ⟨0x30200 + 0x20 * (i - 2), 31, 1, 0x0⟩
/-- mode[30:30] RW, R269. -/
def Reg.TIME_PULSE_CTRL.mode (i : Nat) : Fld := ⟨0x30200 + 0x20 * (i - 2), 30, 1, 0x0⟩
/-- route[29:28] RW, R269. -/
def Reg.TIME_PULSE_CTRL.route (i : Nat) : Fld := ⟨0x30200 + 0x20 * (i - 2), 28, 2, (if i = 2 then 1 else if i = 3 then 2 else 0)⟩
/-- every_k[15:0] RW, R269. -/
def Reg.TIME_PULSE_CTRL.every_k (i : Nat) : Fld := ⟨0x30200 + 0x20 * (i - 2), 0, 16, 0x1⟩
/-- period_ns[31:0] RW, R269. -/
def Reg.TIME_PULSE_PERIOD.period_ns (i : Nat) : Fld := ⟨0x30204 + 0x20 * (i - 2), 0, 32, 0x1388⟩
/-- phase_ns[31:0] RW, R269. -/
def Reg.TIME_PULSE_PHASE.phase_ns (i : Nat) : Fld := ⟨0x30208 + 0x20 * (i - 2), 0, 32, 0x0⟩
/-- width_ns[31:0] RW, R269. -/
def Reg.TIME_PULSE_WIDTH.width_ns (i : Nat) : Fld := ⟨0x3020c + 0x20 * (i - 2), 0, 32, 0x64⟩
/-- enable[31:31] RW, R269. -/
def Reg.TIME_TICK_OUT.enable : Fld := ⟨0x30300, 31, 1, 0x1⟩
/-- cal[30:30] RW, R269. -/
def Reg.TIME_TICK_OUT.cal : Fld := ⟨0x30300, 30, 1, 0x1⟩
/-- delay_ns[21:6] RW, R269. -/
def Reg.TIME_TICK_OUT.delay_ns : Fld := ⟨0x30300, 6, 16, 0x0⟩
/-- fine[5:0] RW, R269. -/
def Reg.TIME_TICK_OUT.fine : Fld := ⟨0x30300, 0, 6, 0x0⟩
/-- width_ns[15:0] RW, R269. -/
def Reg.TIME_TICK_OUT_WIDTH.width_ns : Fld := ⟨0x30304, 0, 16, 0x64⟩
/-- overflow[31:31] W1C, R269. -/
def Reg.TIME_CAP_CTRL.overflow (i : Nat) : Fld := ⟨0x30400 + 0x10 * i, 31, 1, 0x0⟩
/-- count[20:16] RO, R269. -/
def Reg.TIME_CAP_CTRL.count (i : Nat) : Fld := ⟨0x30400 + 0x10 * i, 16, 5, 0x0⟩
/-- halyard_out[8:8] RW, R269. -/
def Reg.TIME_CAP_CTRL.halyard_out (i : Nat) : Fld := ⟨0x30400 + 0x10 * i, 8, 1, 0x0⟩
/-- edge[1:0] RW, R269. -/
def Reg.TIME_CAP_CTRL.edge (i : Nat) : Fld := ⟨0x30400 + 0x10 * i, 0, 2, 0x0⟩
/-- valid[31:31] RO, R269. -/
def Reg.TIME_CAP_TAG.valid (i : Nat) : Fld := ⟨0x30404 + 0x10 * i, 31, 1, 0x0⟩
/-- rising[30:30] RO, R269. -/
def Reg.TIME_CAP_TAG.rising (i : Nat) : Fld := ⟨0x30404 + 0x10 * i, 30, 1, 0x0⟩
/-- sec_hi[15:0] RO, R269. -/
def Reg.TIME_CAP_TAG.sec_hi (i : Nat) : Fld := ⟨0x30404 + 0x10 * i, 0, 16, 0x0⟩
/-- sec_lo[31:0] RO, R269. -/
def Reg.TIME_CAP_SEC.sec_lo (i : Nat) : Fld := ⟨0x30408 + 0x10 * i, 0, 32, 0x0⟩
/-- ns[31:0] RO, R269. -/
def Reg.TIME_CAP_NS.ns (i : Nat) : Fld := ⟨0x3040c + 0x10 * i, 0, 32, 0x0⟩
/-- check_fail[31:16] RO, R269. -/
def Reg.TIME_TLOG_STAT.check_fail : Fld := ⟨0x30500, 16, 16, 0x0⟩
/-- backlog[15:0] RO, R269. -/
def Reg.TIME_TLOG_STAT.backlog : Fld := ⟨0x30500, 0, 16, 0x0⟩
/-- clear[31:31] W1C, R428. -/
def Reg.PORT_CTRL.clear (p : Nat) : Fld := ⟨portBase p + 0x0, 31, 1, 0x0⟩
/-- ipv6_en[4:4] RW, R428. -/
def Reg.PORT_CTRL.ipv6_en (p : Nat) : Fld := ⟨portBase p + 0x0, 4, 1, 0x1⟩
/-- ipv4_en[3:3] RW, R428. -/
def Reg.PORT_CTRL.ipv4_en (p : Nat) : Fld := ⟨portBase p + 0x0, 3, 1, 0x1⟩
/-- jumbo[1:1] RW, R428. -/
def Reg.PORT_CTRL.jumbo (p : Nat) : Fld := ⟨portBase p + 0x0, 1, 1, 0x1⟩
/-- enable[0:0] RW, R428. -/
def Reg.PORT_CTRL.enable (p : Nat) : Fld := ⟨portBase p + 0x0, 0, 1, 0x1⟩
/-- link_up[31:31] RO, R428. -/
def Reg.PORT_STATUS.link_up (p : Nat) : Fld := ⟨portBase p + 0x4, 31, 1, 0x0⟩
/-- aligned[30:30] RO, R428. -/
def Reg.PORT_STATUS.aligned (p : Nat) : Fld := ⟨portBase p + 0x4, 30, 1, 0x0⟩
/-- link_downs[15:0] RO, R428. -/
def Reg.PORT_STATUS.link_downs (p : Nat) : Fld := ⟨portBase p + 0x4, 0, 16, 0x0⟩
/-- mac_hi[15:0] RO, R428. -/
def Reg.PORT_MAC_HI.mac_hi (p : Nat) : Fld := ⟨portBase p + 0x8, 0, 16, 0x0⟩
/-- mac_lo[31:0] RO, R428. -/
def Reg.PORT_MAC_LO.mac_lo (p : Nat) : Fld := ⟨portBase p + 0xc, 0, 32, 0x0⟩
/-- addr[31:0] RW, R428. -/
def Reg.PORT_IPV4.addr (p : Nat) : Fld := ⟨portBase p + 0x10, 0, 32, 0x0⟩
/-- prefix[5:0] RW, R428. -/
def Reg.PORT_IPV4_PREFIX.prefixLen (p : Nat) : Fld := ⟨portBase p + 0x14, 0, 6, 0x18⟩
/-- group[31:0] RW, R428. -/
def Reg.PORT_MCAST4.group (p : Nat) : Fld := ⟨portBase p + 0x18, 0, 32, 0x0⟩
/-- addr[31:0] RW, R428. -/
def Reg.PORT_IPV6.addr (p : Nat) (i : Nat) : Fld := ⟨portBase p + 0x20 + 0x4 * i, 0, 32, 0x0⟩
/-- prefix[7:0] RW, R428. -/
def Reg.PORT_IPV6_PREFIX.prefixLen (p : Nat) : Fld := ⟨portBase p + 0x30, 0, 8, 0x40⟩
/-- group[31:0] RW, R428. -/
def Reg.PORT_MCAST6.group (p : Nat) (i : Nat) : Fld := ⟨portBase p + 0x40 + 0x4 * i, 0, 32, 0x0⟩
/-- frames[31:0] RO, R428. -/
def Reg.PORT_RX_FRAMES.frames (p : Nat) : Fld := ⟨portBase p + 0x60, 0, 32, 0x0⟩
/-- fcs[31:0] RO, R428. -/
def Reg.PORT_RX_FCS.fcs (p : Nat) : Fld := ⟨portBase p + 0x64, 0, 32, 0x0⟩
/-- frames[31:0] RO, R428. -/
def Reg.PORT_TX_FRAMES.frames (p : Nat) : Fld := ⟨portBase p + 0x68, 0, 32, 0x0⟩
/-- drops[31:0] RO, R428. -/
def Reg.PORT_RX_DROP.drops (p : Nat) : Fld := ⟨portBase p + 0x6c, 0, 32, 0x0⟩
/-- ack_every[23:16] RW, R72. -/
def Reg.PORT_DST_CTRL.ack_every (p : Nat) : Fld := ⟨portBase p + 0x200, 16, 8, 0x10⟩
/-- reorder_us[15:8] RW, R72. -/
def Reg.PORT_DST_CTRL.reorder_us (p : Nat) : Fld := ⟨portBase p + 0x200, 8, 8, 0x14⟩
/-- ack_idle_us[7:0] RW, R72. -/
def Reg.PORT_DST_CTRL.ack_idle_us (p : Nat) : Fld := ⟨portBase p + 0x200, 0, 8, 0x32⟩
/-- crc_drops[31:16] RO, R72. -/
def Reg.PORT_DST_DROP.crc_drops (p : Nat) : Fld := ⟨portBase p + 0x204, 16, 16, 0x0⟩
/-- job_drops[15:0] RO, R72. -/
def Reg.PORT_DST_DROP.job_drops (p : Nat) : Fld := ⟨portBase p + 0x204, 0, 16, 0x0⟩
/-- strobe_check[2:2] RW, R269. -/
def Reg.STG_CTRL.strobe_check : Fld := ⟨0x60000, 2, 1, 0x0⟩
/-- vel_src[1:1] RW, R269. -/
def Reg.STG_CTRL.vel_src : Fld := ⟨0x60000, 1, 1, 0x0⟩
/-- enable[0:0] RW, R269. -/
def Reg.STG_CTRL.enable : Fld := ⟨0x60000, 0, 1, 0x1⟩
/-- limit[6:0] RW, R269. -/
def Reg.STG_EXC_LIMIT.limit : Fld := ⟨0x60004, 0, 7, 0x30⟩
/-- coast_us[31:16] RW, R269. -/
def Reg.STG_GAP.coast_us : Fld := ⟨0x60008, 16, 16, 0x64⟩
/-- gap_us[15:0] RW, R269. -/
def Reg.STG_GAP.gap_us : Fld := ⟨0x60008, 0, 16, 0x14⟩
/-- tol_ns[15:0] RW, R269. -/
def Reg.STG_STROBE_TOL.tol_ns : Fld := ⟨0x6000c, 0, 16, 0xc8⟩
/-- xoff_hi[15:0] RWS, R269. -/
def Reg.STG_XOFF_HI.xoff_hi : Fld := ⟨0x60010, 0, 16, 0x0⟩
/-- xoff_lo[31:0] RWS, R269. -/
def Reg.STG_XOFF_LO.xoff_lo : Fld := ⟨0x60014, 0, 32, 0x0⟩
/-- yoff_hi[15:0] RWS, R269. -/
def Reg.STG_YOFF_HI.yoff_hi : Fld := ⟨0x60018, 0, 16, 0x0⟩
/-- yoff_lo[31:0] RWS, R269. -/
def Reg.STG_YOFF_LO.yoff_lo : Fld := ⟨0x6001c, 0, 32, 0x0⟩
/-- ready[31:31] RO, R269. -/
def Reg.STG_STATUS.ready : Fld := ⟨0x60020, 31, 1, 0x0⟩
/-- coasting[30:30] RO, R269. -/
def Reg.STG_STATUS.coasting : Fld := ⟨0x60020, 30, 1, 0x0⟩
/-- blanking[29:29] RO, R269. -/
def Reg.STG_STATUS.blanking : Fld := ⟨0x60020, 29, 1, 0x0⟩
/-- fault[28:28] RO, R269. -/
def Reg.STG_STATUS.fault : Fld := ⟨0x60020, 28, 1, 0x0⟩
/-- last_seq[15:0] RO, R269. -/
def Reg.STG_STATUS.last_seq : Fld := ⟨0x60020, 0, 16, 0x0⟩
/-- dx[15:8] RO, R269. -/
def Reg.STG_LAST_OFFSET.dx : Fld := ⟨0x60024, 8, 8, 0x0⟩
/-- dy[7:0] RO, R269. -/
def Reg.STG_LAST_OFFSET.dy : Fld := ⟨0x60024, 0, 8, 0x0⟩
/-- discarded[31:0] RO, R269. -/
def Reg.STG_DISCARD.discarded : Fld := ⟨0x60028, 0, 32, 0x0⟩
/-- excursion[31:16] RO, R269. -/
def Reg.STG_BLANKED.excursion : Fld := ⟨0x6002c, 16, 16, 0x0⟩
/-- coast[15:0] RO, R269. -/
def Reg.STG_BLANKED.coast : Fld := ⟨0x6002c, 0, 16, 0x0⟩
/-- age_ns[31:0] RO, R269. -/
def Reg.STG_AGE_MAX.age_ns : Fld := ⟨0x60030, 0, 32, 0x0⟩
/-- ready[31:31] RO, R304. -/
def Reg.DMC_STATUS.ready : Fld := ⟨0x80000, 31, 1, 0x0⟩
/-- degraded[30:30] RO, R304. -/
def Reg.DMC_STATUS.degraded : Fld := ⟨0x80000, 30, 1, 0x0⟩
/-- sc_failed[27:24] RO, R304. -/
def Reg.DMC_STATUS.sc_failed : Fld := ⟨0x80000, 24, 4, 0x0⟩
/-- sc_training[23:20] RO, R304. -/
def Reg.DMC_STATUS.sc_training : Fld := ⟨0x80000, 20, 4, 0x0⟩
/-- panic[19:16] RO, R304. -/
def Reg.DMC_STATUS.panic : Fld := ⟨0x80000, 16, 4, 0x0⟩
/-- enable[2:2] RWS, R304. -/
def Reg.DMC_DEGRADE.enable : Fld := ⟨0x80004, 2, 1, 0x0⟩
/-- exclude[1:0] RWS, R304. -/
def Reg.DMC_DEGRADE.exclude : Fld := ⟨0x80004, 0, 2, 0x0⟩
/-- base[31:16] RO, R304. The address is that of Table 16.11 (log 88). -/
def Reg.DMC_REGION.base (i : Nat) : Fld := ⟨0x80010 + 0x4 * (i - 1), 16, 16, regionResetBase i⟩
/-- size[15:0] RW (RO for r = 1, 8), R304. -/
def Reg.DMC_REGION.size (i : Nat) : Fld := ⟨0x80010 + 0x4 * (i - 1), 0, 16, regionResetSize i⟩
/-- w_rt[19:16] RW, R304. -/
def Reg.DMC_QOS.w_rt : Fld := ⟨0x80040, 16, 4, 0x8⟩
/-- w_bulk[15:12] RW, R304. -/
def Reg.DMC_QOS.w_bulk : Fld := ⟨0x80040, 12, 4, 0x4⟩
/-- w_record[11:8] RW, R304. -/
def Reg.DMC_QOS.w_record : Fld := ⟨0x80040, 8, 4, 0x3⟩
/-- w_scrub[7:4] RW, R304. -/
def Reg.DMC_QOS.w_scrub : Fld := ⟨0x80040, 4, 4, 0x1⟩
/-- w_mgmt[3:0] RW, R304. -/
def Reg.DMC_QOS.w_mgmt : Fld := ⟨0x80040, 0, 4, 0x1⟩
/-- low_pct[23:16] RW, R304. -/
def Reg.DMC_PANIC.low_pct : Fld := ⟨0x80044, 16, 8, 0x19⟩
/-- count[15:0] RO, R304. -/
def Reg.DMC_PANIC.count : Fld := ⟨0x80044, 0, 16, 0x0⟩
/-- threshold[31:16] RW, R304. -/
def Reg.DMC_ACT.threshold : Fld := ⟨0x80048, 16, 16, 0x1000⟩
/-- per_us[7:0] RW, R304. -/
def Reg.DMC_ACT.per_us : Fld := ⟨0x80048, 0, 8, 0x40⟩
/-- throttled[31:16] RO, R304. -/
def Reg.DMC_ACT_STAT.throttled : Fld := ⟨0x8004c, 16, 16, 0x0⟩
/-- drfm[15:0] RO, R304. -/
def Reg.DMC_ACT_STAT.drfm : Fld := ⟨0x8004c, 0, 16, 0x0⟩
/-- clear[31:31] W1C, R304. -/
def Reg.DMC_RD_ERR.clear : Fld := ⟨0x80060, 31, 1, 0x0⟩
/-- refetch_ok[30:16] RO, R304. -/
def Reg.DMC_RD_ERR.refetch_ok : Fld := ⟨0x80060, 16, 15, 0x0⟩
/-- refetch_fail[15:0] RO, R304. -/
def Reg.DMC_RD_ERR.refetch_fail : Fld := ⟨0x80060, 0, 16, 0x0⟩
/-- kind[31:30] RO, R304. -/
def Reg.DMC_LAST_BAD.kind : Fld := ⟨0x80064, 30, 2, 0x0⟩
/-- line[29:0] RO, R304. -/
def Reg.DMC_LAST_BAD.line : Fld := ⟨0x80064, 0, 30, 0x0⟩
/-- region[15:8] RO, R304. -/
def Reg.DMC_LAST_BAD_SRC.region : Fld := ⟨0x80068, 8, 8, 0x0⟩
/-- class[2:0] RO, R304. -/
def Reg.DMC_LAST_BAD_SRC.class_ : Fld := ⟨0x80068, 0, 3, 0x0⟩
/-- rcmw[31:16] RO, R304. -/
def Reg.DMC_LADLE.rcmw : Fld := ⟨0x8006c, 16, 16, 0x0⟩
/-- poisoned[15:0] RO, R304. -/
def Reg.DMC_LADLE.poisoned : Fld := ⟨0x8006c, 0, 16, 0x0⟩
/-- fails[15:0] RO, R304. -/
def Reg.DMC_VERIFY.fails : Fld := ⟨0x80070, 0, 16, 0x0⟩
/-- interval_s[31:16] RW, R304. -/
def Reg.DMC_TRAIN_CTRL.interval_s : Fld := ⟨0x80080, 16, 16, 0x12c⟩
/-- temp_step[15:12] RW, R304. -/
def Reg.DMC_TRAIN_CTRL.temp_step : Fld := ⟨0x80080, 12, 4, 0x4⟩
/-- result[31:30] RO, R304. -/
def Reg.DMC_TRAIN.result (i : Nat) : Fld := ⟨0x80090 + 0x4 * i, 30, 2, 0x0⟩
/-- widen[29:29] RO, R304. -/
def Reg.DMC_TRAIN.widen (i : Nat) : Fld := ⟨0x80090 + 0x4 * i, 29, 1, 0x0⟩
/-- width_min[23:16] RO, R304. -/
def Reg.DMC_TRAIN.width_min (i : Nat) : Fld := ⟨0x80090 + 0x4 * i, 16, 8, 0x0⟩
/-- count[15:0] RO, R304. -/
def Reg.DMC_TRAIN.count (i : Nat) : Fld := ⟨0x80090 + 0x4 * i, 0, 16, 0x0⟩
/-- period_h[7:0] RW, R304. -/
def Reg.DMC_SCRUB.period_h : Fld := ⟨0x800a0, 0, 8, 0x6⟩
/-- line[29:0] RO, R304. -/
def Reg.DMC_SCRUB_POS.line : Fld := ⟨0x800a4, 0, 30, 0x0⟩
/-- dram[31:16] RO, R304. -/
def Reg.DMC_SCRUB_ERR.dram : Fld := ⟨0x800a8, 16, 16, 0x0⟩
/-- trim[15:0] RO, R304. -/
def Reg.DMC_SCRUB_ERR.trim : Fld := ⟨0x800a8, 0, 16, 0x0⟩
/-- sppr[31:24] RO, R304. -/
def Reg.DMC_REPAIR.sppr : Fld := ⟨0x800b0, 24, 8, 0x0⟩
/-- hppr[23:16] RO, R304. -/
def Reg.DMC_REPAIR.hppr : Fld := ⟨0x800b0, 16, 8, 0x0⟩
/-- pending[15:8] RO, R304. -/
def Reg.DMC_REPAIR.pending : Fld := ⟨0x800b0, 8, 8, 0x0⟩
/-- retired[7:0] RO, R304. -/
def Reg.DMC_REPAIR.retired : Fld := ⟨0x800b0, 0, 8, 0x0⟩
/-- quantum_kib[15:8] RW, R102. -/
def Reg.CODEC_CTRL.quantum_kib : Fld := ⟨0xa0000, 8, 8, 0x40⟩
/-- rec_effort[0:0] RW, R102. -/
def Reg.CODEC_CTRL.rec_effort : Fld := ⟨0xa0000, 0, 1, 0x1⟩
/-- frozen[31:16] RO, R102. -/
def Reg.CODEC_STATUS.frozen : Fld := ⟨0xa0004, 16, 16, 0x0⟩
/-- dec_busy[7:0] RO, R102. -/
def Reg.CODEC_STATUS.dec_busy : Fld := ⟨0xa0004, 0, 8, 0x0⟩
/-- hist_avail[15:0] RO, R102. -/
def Reg.CODEC_HIST.hist_avail : Fld := ⟨0xa0008, 0, 16, 0x0⟩
/-- mode[31:30] RO, R102. -/
def Reg.CODEC_CTX_OP.mode : Fld := ⟨0xa0010, 30, 2, 0x0⟩
/-- streams[15:0] RO, R102. -/
def Reg.CODEC_CTX_OP.streams : Fld := ⟨0xa0010, 0, 16, 0x0⟩
/-- stream[31:28] RO, R102. -/
def Reg.CODEC_DEC_ERR.stream : Fld := ⟨0xa0020, 28, 4, 0x0⟩
/-- reason[27:24] RO, R102. -/
def Reg.CODEC_DEC_ERR.reason : Fld := ⟨0xa0020, 24, 4, 0x0⟩
/-- seq[23:0] RO, R102. -/
def Reg.CODEC_DEC_ERR.seq : Fld := ⟨0xa0020, 0, 24, 0x0⟩
/-- bit[31:0] RO, R102. -/
def Reg.CODEC_DEC_BIT.bit : Fld := ⟨0xa0024, 0, 32, 0x0⟩
/-- raw_fallbacks[31:16] RO, R102. -/
def Reg.CODEC_REC_STAT.raw_fallbacks : Fld := ⟨0xa0030, 16, 16, 0x0⟩
/-- lowered[15:0] RO, R102. -/
def Reg.CODEC_REC_STAT.lowered : Fld := ⟨0xa0030, 0, 16, 0x0⟩
/-- budget[7:0] RW, R72. -/
def Reg.SIEVE_EDGE_BUDGET.budget : Fld := ⟨0xc0000, 0, 8, 0x60⟩
/-- max_mib[15:0] RW, R72. -/
def Reg.SIEVE_STRIPE_MAX.max_mib : Fld := ⟨0xc0004, 0, 16, 0x2000⟩
/-- hold_us[15:0] RW, R72. -/
def Reg.SIEVE_HOLD.hold_us : Fld := ⟨0xc0008, 0, 16, 0x2710⟩
/-- depth[3:0] RO, R72. -/
def Reg.SIEVE_QUEUE.depth : Fld := ⟨0xc000c, 0, 4, 0x0⟩
/-- seq[23:0] RW, R72. -/
def Reg.SIEVE_QSEQ.seq : Fld := ⟨0xc0010, 0, 24, 0x0⟩
/-- state[31:29] RO, R72. -/
def Reg.SIEVE_QSTATE.state : Fld := ⟨0xc0014, 29, 3, 0x0⟩
/-- halo_left[28:28] RO, R72. -/
def Reg.SIEVE_QSTATE.halo_left : Fld := ⟨0xc0014, 28, 1, 0x0⟩
/-- halo_right[27:27] RO, R72. -/
def Reg.SIEVE_QSTATE.halo_right : Fld := ⟨0xc0014, 27, 1, 0x0⟩
/-- under_ok[26:26] RO, R72. -/
def Reg.SIEVE_QSTATE.under_ok : Fld := ⟨0xc0014, 26, 1, 0x0⟩
/-- trim_frozen[25:25] RO, R72. -/
def Reg.SIEVE_QSTATE.trim_frozen : Fld := ⟨0xc0014, 25, 1, 0x0⟩
/-- density[24:24] RO, R72. -/
def Reg.SIEVE_QSTATE.density : Fld := ⟨0xc0014, 24, 1, 0x0⟩
/-- bands[16:0] RO, R72. -/
def Reg.SIEVE_QSTATE.bands : Fld := ⟨0xc0014, 0, 17, 0x0⟩
/-- seq[23:0] RO, R72. -/
def Reg.SIEVE_REFUSE_SEQ.seq : Fld := ⟨0xc0018, 0, 24, 0x0⟩
/-- band[31:16] RO, R72. -/
def Reg.SIEVE_REFUSE_INFO.band : Fld := ⟨0xc001c, 16, 16, 0x0⟩
/-- reason[15:0] RO, R72. -/
def Reg.SIEVE_REFUSE_INFO.reason : Fld := ⟨0xc001c, 0, 16, 0x0⟩
/-- count[31:0] RO, R72. -/
def Reg.SIEVE_REFUSE_COUNT.count : Fld := ⟨0xc0020, 0, 32, 0x0⟩
/-- prerolled[31:31] RO, R126. -/
def Reg.RENDER_STATUS.prerolled : Fld := ⟨0xe0000, 31, 1, 0x0⟩
/-- active[30:30] RO, R126. -/
def Reg.RENDER_STATUS.active : Fld := ⟨0xe0000, 30, 1, 0x0⟩
/-- busy[15:0] RO, R126. -/
def Reg.RENDER_STATUS.busy : Fld := ⟨0xe0000, 0, 16, 0x0⟩
/-- valid[31:31] RO, R126. -/
def Reg.RENDER_LINE.valid : Fld := ⟨0xe0004, 31, 1, 0x0⟩
/-- line[23:0] RO, R126. -/
def Reg.RENDER_LINE.line : Fld := ⟨0xe0004, 0, 24, 0x0⟩
/-- lead_min[15:0] RO, R126. -/
def Reg.RENDER_LEAD_MIN.lead_min : Fld := ⟨0xe0008, 0, 16, 0x0⟩
/-- late[31:0] RO, R126. -/
def Reg.RENDER_LATE.late : Fld := ⟨0xe000c, 0, 32, 0x0⟩
/-- clear[31:31] W1C, R126. -/
def Reg.RENDER_RERENDER.clear : Fld := ⟨0xe0010, 31, 1, 0x0⟩
/-- done[30:16] RO, R126. -/
def Reg.RENDER_RERENDER.done : Fld := ⟨0xe0010, 16, 15, 0x0⟩
/-- dropped[15:0] RO, R126. -/
def Reg.RENDER_RERENDER.dropped : Fld := ⟨0xe0010, 0, 16, 0x0⟩
/-- edge_max[7:0] RO, R126. -/
def Reg.RENDER_EDGE_MAX.edge_max : Fld := ⟨0xe0014, 0, 8, 0x0⟩
/-- fails[15:0] RO, R126. -/
def Reg.RENDER_FETCH_ERR.fails : Fld := ⟨0xe0018, 0, 16, 0x0⟩
/-- k_en[11:8] RWC, R152. -/
def Reg.PEC_CTRL.k_en : Fld := ⟨0x100000, 8, 4, 0x0⟩
/-- iter[4:4] RWC, R152. -/
def Reg.PEC_CTRL.iter : Fld := ⟨0x100000, 4, 1, 0x0⟩
/-- mode[1:0] RWC, R152. -/
def Reg.PEC_CTRL.mode : Fld := ⟨0x100000, 0, 2, 0x0⟩
/-- f_base[15:0] RWC, R152. -/
def Reg.PEC_F_BASE.f_base : Fld := ⟨0x100004, 0, 16, 0x1000⟩
/-- commit[0:0] WO, R152. -/
def Reg.PEC_COMMIT.commit : Fld := ⟨0x100008, 0, 1, 0x0⟩
/-- busy[31:31] RO, R152. -/
def Reg.PEC_STATUS.busy : Fld := ⟨0x10000c, 31, 1, 0x0⟩
/-- first_ready[30:30] RO, R152. -/
def Reg.PEC_STATUS.first_ready : Fld := ⟨0x10000c, 30, 1, 0x0⟩
/-- substituted[29:29] RO, R152. -/
def Reg.PEC_STATUS.substituted : Fld := ⟨0x10000c, 29, 1, 0x0⟩
/-- seq[23:0] RO, R152. -/
def Reg.PEC_STATUS.seq : Fld := ⟨0x10000c, 0, 24, 0x0⟩
/-- rows[17:0] RO, R152. -/
def Reg.PEC_ROW.rows : Fld := ⟨0x100010, 0, 18, 0x0⟩
/-- w[15:0] RWC, R152. -/
def Reg.PEC_WEIGHT.w (i : Nat) : Fld := ⟨0x100020 + 0x4 * i, 0, 16, 0x0⟩
/-- w[15:0] RWC, R152. -/
def Reg.PEC_WEIGHT_U.w : Fld := ⟨0x100030, 0, 16, 0x0⟩
/-- clamp_hi[31:16] RO, R152. -/
def Reg.PEC_CLAMP.clamp_hi : Fld := ⟨0x100040, 16, 16, 0x0⟩
/-- clamp_lo[15:0] RO, R152. -/
def Reg.PEC_CLAMP.clamp_lo : Fld := ⟨0x100040, 0, 16, 0x0⟩
/-- late[31:0] RO, R152. -/
def Reg.PEC_LATE.late : Fld := ⟨0x100044, 0, 32, 0x0⟩
/-- clear[31:31] W1C, R152. -/
def Reg.PEC_ERR.clear : Fld := ⟨0x100048, 31, 1, 0x0⟩
/-- f_fail[30:16] RO, R152. -/
def Reg.PEC_ERR.f_fail : Fld := ⟨0x100048, 16, 15, 0x0⟩
/-- d_subst[15:0] RO, R152. -/
def Reg.PEC_ERR.d_subst : Fld := ⟨0x100048, 0, 16, 0x0⟩
/-- tap[15:0] RWC, R152. -/
def Reg.PEC_KTAB.tap (t : Nat) (u : Nat) : Fld := ⟨0x101000 + 0x400 * t + 0x4 * u, 0, 16, 0x0⟩
/-- clear[31:31] W1C, R126. -/
def Reg.WIN_CHECK_ERR.clear : Fld := ⟨0x120000, 31, 1, 0x0⟩
/-- p_errors[30:16] RO, R126. -/
def Reg.WIN_CHECK_ERR.p_errors : Fld := ⟨0x120000, 16, 15, 0x0⟩
/-- rho_errors[15:0] RO, R126. -/
def Reg.WIN_CHECK_ERR.rho_errors : Fld := ⟨0x120000, 0, 16, 0x0⟩
/-- plane[31:31] RO, R126. -/
def Reg.WIN_LAST_BAD.plane : Fld := ⟨0x120004, 31, 1, 0x0⟩
/-- segment[28:24] RO, R126. -/
def Reg.WIN_LAST_BAD.segment : Fld := ⟨0x120004, 24, 5, 0x0⟩
/-- line[23:0] RO, R126. -/
def Reg.WIN_LAST_BAD.line : Fld := ⟨0x120004, 0, 24, 0x0⟩
/-- exhausted[31:31] RO, R304. -/
def Reg.WIN_SPARE.exhausted : Fld := ⟨0x120010, 31, 1, 0x0⟩
/-- used[12:0] RO, R304. -/
def Reg.WIN_SPARE.used : Fld := ⟨0x120010, 0, 13, 0x0⟩
/-- bank[24:16] RO, R304. -/
def Reg.WIN_SPARE_LAST.bank : Fld := ⟨0x120014, 16, 9, 0x0⟩
/-- row[9:0] RO, R304. -/
def Reg.WIN_SPARE_LAST.row : Fld := ⟨0x120014, 0, 10, 0x0⟩
/-- tick_lo[31:0] RO, R39. -/
def Reg.SHOT_TICK_LO.tick_lo : Fld := ⟨0x140010, 0, 32, 0x0⟩
/-- tick_hi[7:0] RO, R39. -/
def Reg.SHOT_TICK_HI.tick_hi : Fld := ⟨0x140014, 0, 8, 0x0⟩
/-- running[31:31] RO, R39. -/
def Reg.SHOT_STRIPE.running : Fld := ⟨0x140018, 31, 1, 0x0⟩
/-- dir[30:30] RO, R39. -/
def Reg.SHOT_STRIPE.dir : Fld := ⟨0x140018, 30, 1, 0x0⟩
/-- cal[29:29] RO, R39. -/
def Reg.SHOT_STRIPE.cal : Fld := ⟨0x140018, 29, 1, 0x0⟩
/-- seq[23:0] RO, R39. -/
def Reg.SHOT_STRIPE.seq : Fld := ⟨0x140018, 0, 24, 0x0⟩
/-- front[31:0] RO, R39. -/
def Reg.SHOT_FRONT.front : Fld := ⟨0x14001c, 0, 32, 0x0⟩
/-- turn_req_us[15:0] RO, R39. -/
def Reg.SHOT_TURN_REQ.turn_req_us : Fld := ⟨0x140020, 0, 16, 0x1518⟩
/-- rp[2:0] RW, R178. -/
def Reg.SHOT_RESERVE_PASSES.rp : Fld := ⟨0x140040, 0, 3, 0x2⟩
/-- nominal[7:0] RW, R178. -/
def Reg.SHOT_DOSE_NOMINAL.nominal : Fld := ⟨0x140044, 0, 8, 0xc8⟩
/-- pos_comp[0:0] RW, R178. -/
def Reg.SHOT_CTRL.pos_comp : Fld := ⟨0x140048, 0, 1, 0x1⟩
/-- zero_l_cols[31:16] RO, R178. -/
def Reg.SHOT_COLSTAT.zero_l_cols : Fld := ⟨0x14004c, 16, 16, 0x0⟩
/-- gain_masked[15:0] RO, R178. -/
def Reg.SHOT_COLSTAT.gain_masked : Fld := ⟨0x14004c, 0, 16, 0x0⟩
/-- missed[31:0] RO, R178. -/
def Reg.SHOT_MISSED.missed : Fld := ⟨0x140050, 0, 32, 0x0⟩
/-- made_up[31:0] RO, R178. -/
def Reg.SHOT_MADEUP.made_up : Fld := ⟨0x140054, 0, 32, 0x0⟩
/-- sat[31:0] RO, R178. -/
def Reg.SHOT_SAT.sat : Fld := ⟨0x140058, 0, 32, 0x0⟩
/-- reports[31:0] RO, R178. -/
def Reg.SHOT_REPORTS.reports : Fld := ⟨0x14005c, 0, 32, 0x0⟩
/-- peak[16:0] RO, R178. -/
def Reg.SHOT_LOSS_FILL.peak : Fld := ⟨0x140060, 0, 17, 0x0⟩
/-- restores[31:16] RO, R178. -/
def Reg.SHOT_UNDO.restores : Fld := ⟨0x140064, 16, 16, 0x0⟩
/-- unconfirmed[15:0] RO, R178. -/
def Reg.SHOT_UNDO.unconfirmed : Fld := ⟨0x140064, 0, 16, 0x0⟩
/-- rebuilt[31:16] RO, R178. -/
def Reg.SHOT_RHO_REBUILD.rebuilt : Fld := ⟨0x140068, 16, 16, 0x0⟩
/-- failed[15:0] RO, R178. -/
def Reg.SHOT_RHO_REBUILD.failed : Fld := ⟨0x140068, 0, 16, 0x0⟩
/-- restart[7:7] WO, R240. -/
def Reg.LANE_CTRL.restart (t : Nat) : Fld := ⟨0x180000 + 0x400 * t, 7, 1, 0x0⟩
/-- retrain[6:6] WO, R240. -/
def Reg.LANE_CTRL.retrain (t : Nat) : Fld := ⟨0x180000 + 0x400 * t, 6, 1, 0x0⟩
/-- lane_test[1:1] RW, R240. -/
def Reg.LANE_CTRL.lane_test (t : Nat) : Fld := ⟨0x180000 + 0x400 * t, 1, 1, 0x0⟩
/-- enable[0:0] RW, R240. -/
def Reg.LANE_CTRL.enable (t : Nat) : Fld := ⟨0x180000 + 0x400 * t, 0, 1, 0x1⟩
/-- state[31:28] RO, R240. -/
def Reg.LANE_STATE.state (t : Nat) : Fld := ⟨0x180004 + 0x400 * t, 28, 4, 0x0⟩
/-- frozen[27:27] RO, R240. -/
def Reg.LANE_STATE.frozen (t : Nat) : Fld := ⟨0x180004 + 0x400 * t, 27, 1, 0x0⟩
/-- retrain_pending[26:26] RO, R240. -/
def Reg.LANE_STATE.retrain_pending (t : Nat) : Fld := ⟨0x180004 + 0x400 * t, 26, 1, 0x0⟩
/-- attempts[23:20] RO, R240. -/
def Reg.LANE_STATE.attempts (t : Nat) : Fld := ⟨0x180004 + 0x400 * t, 20, 4, 0x0⟩
/-- last_fail[19:16] RO, R240. -/
def Reg.LANE_STATE.last_fail (t : Nat) : Fld := ⟨0x180004 + 0x400 * t, 16, 4, 0x0⟩
/-- downs[15:0] RO, R240. -/
def Reg.LANE_STATE.downs (t : Nat) : Fld := ⟨0x180004 + 0x400 * t, 0, 16, 0x0⟩
/-- pre2[31:24] RO, R240. -/
def Reg.LANE_FFE.pre2 (t : Nat) : Fld := ⟨0x180008 + 0x400 * t, 24, 8, 0x0⟩
/-- pre1[23:16] RO, R240. -/
def Reg.LANE_FFE.pre1 (t : Nat) : Fld := ⟨0x180008 + 0x400 * t, 16, 8, 0x0⟩
/-- post1[15:8] RO, R240. -/
def Reg.LANE_FFE.post1 (t : Nat) : Fld := ⟨0x180008 + 0x400 * t, 8, 8, 0x0⟩
/-- post2[7:0] RO, R240. -/
def Reg.LANE_FFE.post2 (t : Nat) : Fld := ⟨0x180008 + 0x400 * t, 0, 8, 0x0⟩
/-- fwd_min[31:24] RO, R240. -/
def Reg.LANE_MARGIN.fwd_min (t : Nat) : Fld := ⟨0x18000c + 0x400 * t, 24, 8, 0xff⟩
/-- fwd_last[23:16] RO, R240. -/
def Reg.LANE_MARGIN.fwd_last (t : Nat) : Fld := ⟨0x18000c + 0x400 * t, 16, 8, 0x0⟩
/-- back_min[15:8] RO, R240. -/
def Reg.LANE_MARGIN.back_min (t : Nat) : Fld := ⟨0x18000c + 0x400 * t, 8, 8, 0xff⟩
/-- back_last[7:0] RO, R240. -/
def Reg.LANE_MARGIN.back_last (t : Nat) : Fld := ⟨0x18000c + 0x400 * t, 0, 8, 0x0⟩
/-- test[31:28] RW, R240. -/
def Reg.LANE_TEST.test (t : Nat) : Fld := ⟨0x180010 + 0x400 * t, 28, 4, 0x0⟩
/-- inject_bit[27:27] WO, R240. -/
def Reg.LANE_TEST.inject_bit (t : Nat) : Fld := ⟨0x180010 + 0x400 * t, 27, 1, 0x0⟩
/-- inject_burst[26:26] WO, R240. -/
def Reg.LANE_TEST.inject_burst (t : Nat) : Fld := ⟨0x180010 + 0x400 * t, 26, 1, 0x0⟩
/-- inject_crc[25:25] WO, R240. -/
def Reg.LANE_TEST.inject_crc (t : Nat) : Fld := ⟨0x180010 + 0x400 * t, 25, 1, 0x0⟩
/-- burst_len[23:18] RW, R240. -/
def Reg.LANE_TEST.burst_len (t : Nat) : Fld := ⟨0x180010 + 0x400 * t, 18, 6, 0x1⟩
/-- crc_count[17:14] RW, R240. -/
def Reg.LANE_TEST.crc_count (t : Nat) : Fld := ⟨0x180010 + 0x400 * t, 14, 4, 0x1⟩
/-- synced[1:1] RO, R240. -/
def Reg.LANE_TEST.synced (t : Nat) : Fld := ⟨0x180010 + 0x400 * t, 1, 1, 0x0⟩
/-- running[0:0] RO, R240. -/
def Reg.LANE_TEST.running (t : Nat) : Fld := ⟨0x180010 + 0x400 * t, 0, 1, 0x0⟩
/-- dur_us[31:0] RW, R240. -/
def Reg.LANE_TEST_DUR.dur_us (t : Nat) : Fld := ⟨0x180014 + 0x400 * t, 0, 32, 0xf4240⟩
/-- errors[31:0] RO, R240. -/
def Reg.LANE_TEST_ERR.errors (t : Nat) : Fld := ⟨0x180018 + 0x400 * t, 0, 32, 0x0⟩
/-- bits_lo[31:0] RO, R240. -/
def Reg.LANE_TEST_BITS_LO.bits_lo (t : Nat) : Fld := ⟨0x18001c + 0x400 * t, 0, 32, 0x0⟩
/-- bits_hi[15:0] RO, R240. -/
def Reg.LANE_TEST_BITS_HI.bits_hi (t : Nat) : Fld := ⟨0x180020 + 0x400 * t, 0, 16, 0x0⟩
/-- rx_type[31:16] RO, R213. -/
def Reg.LANE_RX_CAPS0.rx_type (t : Nat) : Fld := ⟨0x180100 + 0x400 * t, 16, 16, 0x0⟩
/-- credits[15:0] RO, R213. -/
def Reg.LANE_RX_CAPS0.credits (t : Nat) : Fld := ⟨0x180100 + 0x400 * t, 0, 16, 0x0⟩
/-- fw_rev[31:16] RO, R213. -/
def Reg.LANE_RX_CAPS1.fw_rev (t : Nat) : Fld := ⟨0x180104 + 0x400 * t, 16, 16, 0x0⟩
/-- monitor[1:1] RO, R213. -/
def Reg.LANE_RX_CAPS1.monitor (t : Nat) : Fld := ⟨0x180104 + 0x400 * t, 1, 1, 0x0⟩
/-- far_loop[0:0] RO, R213. -/
def Reg.LANE_RX_CAPS1.far_loop (t : Nat) : Fld := ⟨0x180104 + 0x400 * t, 0, 1, 0x0⟩
/-- tick_max[28:16] RO, R213. -/
def Reg.LANE_RX_TICKS.tick_max (t : Nat) : Fld := ⟨0x180108 + 0x400 * t, 16, 13, 0x0⟩
/-- tick_min[12:0] RO, R213. -/
def Reg.LANE_RX_TICKS.tick_min (t : Nat) : Fld := ⟨0x180108 + 0x400 * t, 0, 13, 0x0⟩
/-- rtt_ns[31:16] RO, R213. -/
def Reg.LANE_LATENCY.rtt_ns (t : Nat) : Fld := ⟨0x18010c + 0x400 * t, 16, 16, 0x0⟩
/-- fwd[15:0] RO, R213. -/
def Reg.LANE_LATENCY.fwd (t : Nat) : Fld := ⟨0x18010c + 0x400 * t, 0, 16, 0x0⟩
/-- apply_ps[15:0] RO, R213. -/
def Reg.LANE_RX_APPLY.apply_ps (t : Nat) : Fld := ⟨0x180110 + 0x400 * t, 0, 16, 0x0⟩
/-- skew_ps[15:0] RWS, R213. -/
def Reg.LANE_SKEW.skew_ps (t : Nat) : Fld := ⟨0x180114 + 0x400 * t, 0, 16, 0x0⟩
/-- naks[31:16] RO, R213. -/
def Reg.LANE_NAKS.naks (t : Nat) : Fld := ⟨0x180120 + 0x400 * t, 16, 16, 0x0⟩
/-- replays[15:0] RO, R213. -/
def Reg.LANE_NAKS.replays (t : Nat) : Fld := ⟨0x180120 + 0x400 * t, 0, 16, 0x0⟩
/-- blanked[31:0] RO, R213. -/
def Reg.LANE_RX_BLANK.blanked (t : Nat) : Fld := ⟨0x180124 + 0x400 * t, 0, 32, 0x0⟩
/-- msg_crc[31:24] RO, R213. -/
def Reg.LANE_PROTO_ERR.msg_crc (t : Nat) : Fld := ⟨0x180128 + 0x400 * t, 24, 8, 0x0⟩
/-- ack_timeouts[23:16] RO, R213. -/
def Reg.LANE_PROTO_ERR.ack_timeouts (t : Nat) : Fld := ⟨0x180128 + 0x400 * t, 16, 8, 0x0⟩
/-- credit_stalls[15:8] RO, R213. -/
def Reg.LANE_PROTO_ERR.credit_stalls (t : Nat) : Fld := ⟨0x180128 + 0x400 * t, 8, 8, 0x0⟩
/-- late_naks[7:0] RO, R213. -/
def Reg.LANE_PROTO_ERR.late_naks (t : Nat) : Fld := ⟨0x180128 + 0x400 * t, 0, 8, 0x0⟩
/-- cum_rx[31:16] RO, R213. -/
def Reg.LANE_CREDIT.cum_rx (t : Nat) : Fld := ⟨0x18012c + 0x400 * t, 16, 16, 0x0⟩
/-- avail[15:0] RO, R213. -/
def Reg.LANE_CREDIT.avail (t : Nat) : Fld := ⟨0x18012c + 0x400 * t, 0, 16, 0x0⟩
/-- tick_lo[31:0] RO, R213. -/
def Reg.LANE_LAST_STATUS.tick_lo (t : Nat) : Fld := ⟨0x180130 + 0x400 * t, 0, 32, 0x0⟩
/-- retries[11:8] RW, R240. -/
def Reg.LANE_BRINGUP.retries : Fld := ⟨0x190000, 8, 4, 0x3⟩
/-- preset[3:0] RW, R240. -/
def Reg.LANE_BRINGUP.preset : Fld := ⟨0x190000, 0, 4, 0x1⟩
/-- miss_limit[11:8] RW, R240. -/
def Reg.LANE_ADAPT.miss_limit : Fld := ⟨0x190004, 8, 4, 0x4⟩
/-- margin_min[7:0] RW, R240. -/
def Reg.LANE_ADAPT.margin_min : Fld := ⟨0x190004, 0, 8, 0x40⟩
/-- active[31:0] RO, R240. -/
def Reg.LANE_ACTIVE_LO.active : Fld := ⟨0x190008, 0, 32, 0x0⟩
/-- active[31:0] RO, R240. -/
def Reg.LANE_ACTIVE_HI.active : Fld := ⟨0x19000c, 0, 32, 0x0⟩
/-- guard_ns[7:0] RW, R213. -/
def Reg.LANE_GUARD.guard_ns : Fld := ⟨0x190100, 0, 8, 0x50⟩
/-- clear[31:31] W1C, R213. -/
def Reg.LANE_PROTO_CTRL.clear : Fld := ⟨0x190104, 31, 1, 0x0⟩
/-- ack_slack_ns[15:8] RW, R213. -/
def Reg.LANE_PROTO_CTRL.ack_slack_ns : Fld := ⟨0x190104, 8, 8, 0x64⟩
/-- max_replay[1:0] RW, R213. -/
def Reg.LANE_PROTO_CTRL.max_replay : Fld := ⟨0x190104, 0, 2, 0x2⟩
/-- capacity[4:0] RO, R213. -/
def Reg.LANE_REPLAY_CAP.capacity : Fld := ⟨0x190108, 0, 5, 0x4⟩
/-- tlog_mode[7:6] RW, R324. -/
def Reg.CHECK_CTRL.tlog_mode : Fld := ⟨0x1c0000, 6, 2, 0x2⟩
/-- shift[4:2] RW, R324. -/
def Reg.CHECK_CTRL.shift : Fld := ⟨0x1c0000, 2, 3, 0x1⟩
/-- rec_mode[1:0] RW, R324. -/
def Reg.CHECK_CTRL.rec_mode : Fld := ⟨0x1c0000, 0, 2, 0x1⟩
/-- sig_ready[31:31] RO, R324. -/
def Reg.CHECK_STATUS.sig_ready : Fld := ⟨0x1c0004, 31, 1, 0x0⟩
/-- truncated[30:30] RO, R324. -/
def Reg.CHECK_STATUS.truncated : Fld := ⟨0x1c0004, 30, 1, 0x0⟩
/-- fallback[29:29] RO, R324. -/
def Reg.CHECK_STATUS.fallback : Fld := ⟨0x1c0004, 29, 1, 0x0⟩
/-- rec_off[28:28] RO, R324. -/
def Reg.CHECK_STATUS.rec_off : Fld := ⟨0x1c0004, 28, 1, 0x0⟩
/-- seq[23:0] RO, R324. -/
def Reg.CHECK_STATUS.seq : Fld := ⟨0x1c0004, 0, 24, 0x0⟩
/-- sig_hi[31:0] RO, R324. -/
def Reg.CHECK_BURGEE_HI.sig_hi : Fld := ⟨0x1c0008, 0, 32, 0x0⟩
/-- sig_lo[31:0] RO, R324. -/
def Reg.CHECK_BURGEE_LO.sig_lo : Fld := ⟨0x1c000c, 0, 32, 0x0⟩
/-- sig_hi[31:0] RO, R324. -/
def Reg.CHECK_RECSIG_HI.sig_hi : Fld := ⟨0x1c0010, 0, 32, 0x0⟩
/-- sig_lo[31:0] RO, R324. -/
def Reg.CHECK_RECSIG_LO.sig_lo : Fld := ⟨0x1c0014, 0, 32, 0x0⟩
/-- ticks[24:0] RO, R324. -/
def Reg.CHECK_TICKS.ticks : Fld := ⟨0x1c0018, 0, 25, 0x0⟩
/-- flags_in[31:0] RO, R324. -/
def Reg.CHECK_FLAGS_IN.flags_in : Fld := ⟨0x1c001c, 0, 32, 0x0⟩
/-- rec_pct[31:24] RO, R324. -/
def Reg.CHECK_SPOOL.rec_pct : Fld := ⟨0x1c0020, 24, 8, 0x0⟩
/-- rsv_pct[23:16] RO, R324. -/
def Reg.CHECK_SPOOL.rsv_pct : Fld := ⟨0x1c0020, 16, 8, 0x0⟩
/-- attached[3:0] RO, R324. -/
def Reg.CHECK_SPOOL.attached : Fld := ⟨0x1c0020, 0, 4, 0x0⟩
/-- clear[31:31] W1C, R324. -/
def Reg.CHECK_LASTING.clear : Fld := ⟨0x1c0030, 31, 1, 0x0⟩
/-- judged[30:16] RO, R324. -/
def Reg.CHECK_LASTING.judged : Fld := ⟨0x1c0030, 16, 15, 0x0⟩
/-- selftest_fail[15:0] RO, R324. -/
def Reg.CHECK_LASTING.selftest_fail : Fld := ⟨0x1c0030, 0, 16, 0x0⟩
/-- entries[8:0] RO, R324. -/
def Reg.CHECK_HIST_FILL.entries : Fld := ⟨0x1c0034, 0, 9, 0x0⟩
/-- kind[31:28] RO, R324. -/
def Reg.CHECK_LAST_LOC.kind : Fld := ⟨0x1c0038, 28, 4, 0x0⟩
/-- loc[27:0] RO, R324. -/
def Reg.CHECK_LAST_LOC.loc : Fld := ⟨0x1c0038, 0, 28, 0x0⟩
/-- pass[31:31] RO, R324. -/
def Reg.CHECK_SELFTEST.pass : Fld := ⟨0x1c0040, 31, 1, 0x0⟩
/-- failed_id[15:0] RO, R324. -/
def Reg.CHECK_SELFTEST.failed_id : Fld := ⟨0x1c0040, 0, 16, 0x0⟩
/-- rec_lost[31:16] RO, R324. -/
def Reg.CHECK_LOST.rec_lost : Fld := ⟨0x1c0044, 16, 16, 0x0⟩
/-- fallbacks[15:0] RO, R324. -/
def Reg.CHECK_LOST.fallbacks : Fld := ⟨0x1c0044, 0, 16, 0x0⟩
/-- code[31:24] RW, R344. -/
def Reg.CAL_CTRL.code : Fld := ⟨0x1e0000, 24, 8, 0xc0⟩
/-- shots[23:20] RW, R344. -/
def Reg.CAL_CTRL.shots : Fld := ⟨0x1e0000, 20, 4, 0x8⟩
/-- alpha[15:8] RW, R344. -/
def Reg.CAL_CTRL.alpha : Fld := ⟨0x1e0000, 8, 8, 0x20⟩
/-- view_live[1:1] RW, R344. -/
def Reg.CAL_CTRL.view_live : Fld := ⟨0x1e0000, 1, 1, 0x0⟩
/-- enable[0:0] RW, R344. -/
def Reg.CAL_CTRL.enable : Fld := ⟨0x1e0000, 0, 1, 0x1⟩
/-- tau_ns[28:16] RW, R344. -/
def Reg.CAL_WINDOW.tau_ns : Fld := ⟨0x1e0004, 16, 13, 0x1194⟩
/-- window_us[12:0] RW, R344. -/
def Reg.CAL_WINDOW.window_us : Fld := ⟨0x1e0004, 0, 13, 0x960⟩
/-- k[31:0] RW, R344. -/
def Reg.CAL_SCALE.k : Fld := ⟨0x1e0008, 0, 32, 0x0⟩
/-- jump[31:16] RW, R344. -/
def Reg.CAL_LIMITS.jump : Fld := ⟨0x1e000c, 16, 16, 0x1000⟩
/-- dead[15:0] RW, R344. -/
def Reg.CAL_LIMITS.dead : Fld := ⟨0x1e000c, 0, 16, 0x400⟩
/-- warn[15:0] RW, R344. -/
def Reg.CAL_GAIN_WARN.warn : Fld := ⟨0x1e0010, 0, 16, 0x7400⟩
/-- next[11:0] RW, R344. -/
def Reg.CAL_CURSOR.next : Fld := ⟨0x1e0014, 0, 12, 0x0⟩
/-- open[31:31] RW, R344. -/
def Reg.CAL_HOST.open_ : Fld := ⟨0x1e0018, 31, 1, 0x0⟩
/-- dirty[18:0] RO, R344. -/
def Reg.CAL_HOST.dirty : Fld := ⟨0x1e0018, 0, 19, 0x0⟩
/-- abort[1:1] WO, R344. -/
def Reg.CAL_COMMIT.abort : Fld := ⟨0x1e001c, 1, 1, 0x0⟩
/-- commit[0:0] WO, R344. -/
def Reg.CAL_COMMIT.commit : Fld := ⟨0x1e001c, 0, 1, 0x0⟩
/-- window_active[31:31] RO, R344. -/
def Reg.CAL_STATUS.window_active : Fld := ⟨0x1e0020, 31, 1, 0x0⟩
/-- commit_pending[30:30] RO, R344. -/
def Reg.CAL_STATUS.commit_pending : Fld := ⟨0x1e0020, 30, 1, 0x0⟩
/-- snap_loaded[29:29] RO, R344. -/
def Reg.CAL_STATUS.snap_loaded : Fld := ⟨0x1e0020, 29, 1, 0x0⟩
/-- slot[28:28] RO, R344. -/
def Reg.CAL_STATUS.slot : Fld := ⟨0x1e0020, 28, 1, 0x0⟩
/-- seq[23:0] RO, R344. -/
def Reg.CAL_STATUS.seq : Fld := ⟨0x1e0020, 0, 24, 0x0⟩
/-- measured[31:16] RO, R344. -/
def Reg.CAL_MEAS.measured : Fld := ⟨0x1e0024, 16, 16, 0x0⟩
/-- unmeasured[15:0] RO, R344. -/
def Reg.CAL_MEAS.unmeasured : Fld := ⟨0x1e0024, 0, 16, 0x0⟩
/-- stray[31:16] RO, R344. -/
def Reg.CAL_SKIP.stray : Fld := ⟨0x1e0028, 16, 16, 0x0⟩
/-- skips[15:0] RO, R344. -/
def Reg.CAL_SKIP.skips : Fld := ⟨0x1e0028, 0, 16, 0x0⟩
/-- gain[31:16] RO, R344. -/
def Reg.CAL_GAIN_MAX.gain : Fld := ⟨0x1e002c, 16, 16, 0x0⟩
/-- beam[17:0] RO, R344. -/
def Reg.CAL_GAIN_MAX_BEAM.beam : Fld := ⟨0x1e0030, 0, 18, 0x0⟩
/-- gen[31:0] RO, R344. -/
def Reg.CAL_SNAP_GEN.gen : Fld := ⟨0x1e0034, 0, 32, 0x0⟩
/-- holdoff[15:8] RW, R371. -/
def Reg.PAIR_CTRL.holdoff : Fld := ⟨0x200000, 8, 8, 0x3⟩
/-- revert_en[3:3] RW, R371. -/
def Reg.PAIR_CTRL.revert_en : Fld := ⟨0x200000, 3, 1, 0x1⟩
/-- pref_active[2:2] RWS, R371. -/
def Reg.PAIR_CTRL.pref_active : Fld := ⟨0x200000, 2, 1, 0x0⟩
/-- pair[0:0] RWS, R371. -/
def Reg.PAIR_CTRL.pair : Fld := ⟨0x200000, 0, 1, 0x0⟩
/-- strict[0:0] RW, R371. -/
def Reg.PAIR_STRICT.strict : Fld := ⟨0x200004, 0, 1, 0x1⟩
/-- role[31:30] RO, R371. -/
def Reg.PAIR_STATUS.role : Fld := ⟨0x200008, 30, 2, 0x0⟩
/-- halyard_out[29:29] RO, R371. -/
def Reg.PAIR_STATUS.halyard_out : Fld := ⟨0x200008, 29, 1, 0x0⟩
/-- halyard_in[28:28] RO, R371. -/
def Reg.PAIR_STATUS.halyard_in : Fld := ⟨0x200008, 28, 1, 0x0⟩
/-- grant[27:27] RO, R371. -/
def Reg.PAIR_STATUS.grant : Fld := ⟨0x200008, 27, 1, 0x0⟩
/-- link_up[26:26] RO, R371. -/
def Reg.PAIR_STATUS.link_up : Fld := ⟨0x200008, 26, 1, 0x0⟩
/-- synced[25:25] RO, R371. -/
def Reg.PAIR_STATUS.synced : Fld := ⟨0x200008, 25, 1, 0x0⟩
/-- unprotected[24:24] RO, R371. -/
def Reg.PAIR_STATUS.unprotected : Fld := ⟨0x200008, 24, 1, 0x0⟩
/-- revert_pending[23:23] RO, R371. -/
def Reg.PAIR_STATUS.revert_pending : Fld := ⟨0x200008, 23, 1, 0x0⟩
/-- slow_link[22:22] RO, R371. -/
def Reg.PAIR_STATUS.slow_link : Fld := ⟨0x200008, 22, 1, 0x0⟩
/-- epoch[15:0] RO, R371. -/
def Reg.PAIR_STATUS.epoch : Fld := ⟨0x200008, 0, 16, 0x0⟩
/-- half_us[15:8] RW, R371. -/
def Reg.PAIR_HB.half_us : Fld := ⟨0x20000c, 8, 8, 0x32⟩
/-- hkc_ms[7:0] RW, R371. -/
def Reg.PAIR_HB.hkc_ms : Fld := ⟨0x20000c, 0, 8, 0x2⟩
/-- gen[31:0] RO, R371. -/
def Reg.PAIR_GEN_TX.gen : Fld := ⟨0x200010, 0, 32, 0x0⟩
/-- gen[31:0] RO, R371. -/
def Reg.PAIR_GEN_ACK.gen : Fld := ⟨0x200014, 0, 32, 0x0⟩
/-- rtt_ns[15:0] RO, R371. -/
def Reg.PAIR_RTT.rtt_ns : Fld := ⟨0x200018, 0, 16, 0x0⟩
/-- ready[31:31] RO, R371. -/
def Reg.PAIR_TAKEOVER.ready : Fld := ⟨0x200020, 31, 1, 0x0⟩
/-- abandoned[30:30] RO, R371. -/
def Reg.PAIR_TAKEOVER.abandoned : Fld := ⟨0x200020, 30, 1, 0x0⟩
/-- s_resume[24:0] RO, R371. -/
def Reg.PAIR_TAKEOVER.s_resume : Fld := ⟨0x200020, 0, 25, 0x0⟩
/-- seq[23:0] RO, R371. -/
def Reg.PAIR_TAKEOVER_SEQ.seq : Fld := ⟨0x200024, 0, 24, 0x0⟩
/-- stripes[7:0] RO, R371. -/
def Reg.PAIR_HOLD_CNT.stripes : Fld := ⟨0x200028, 0, 8, 0x0⟩
/-- clear[31:31] W1C, R371. -/
def Reg.PAIR_ERR.clear : Fld := ⟨0x200030, 31, 1, 0x0⟩
/-- resends[30:16] RO, R371. -/
def Reg.PAIR_ERR.resends : Fld := ⟨0x200030, 16, 15, 0x0⟩
/-- bad_frames[15:0] RO, R371. -/
def Reg.PAIR_ERR.bad_frames : Fld := ⟨0x200030, 0, 16, 0x0⟩
/-- fw_rev[31:16] RO, R371. -/
def Reg.PAIR_PARTNER.fw_rev : Fld := ⟨0x200034, 16, 16, 0x0⟩
/-- healthy[8:8] RO, R371. -/
def Reg.PAIR_PARTNER.healthy : Fld := ⟨0x200034, 8, 1, 0x0⟩
/-- variant[7:0] RO, R371. -/
def Reg.PAIR_PARTNER.variant : Fld := ⟨0x200034, 0, 8, 0x0⟩
/-- a_good[31:31] RO, R391. -/
def Reg.PWR_FEED.a_good : Fld := ⟨0x220000, 31, 1, 0x0⟩
/-- b_good[30:30] RO, R391. -/
def Reg.PWR_FEED.b_good : Fld := ⟨0x220000, 30, 1, 0x0⟩
/-- a_losses[15:8] RO, R391. -/
def Reg.PWR_FEED.a_losses : Fld := ⟨0x220000, 8, 8, 0x0⟩
/-- b_losses[7:0] RO, R391. -/
def Reg.PWR_FEED.b_losses : Fld := ⟨0x220000, 0, 8, 0x0⟩
/-- a_mv[31:16] RO, R391. -/
def Reg.PWR_FEED_V.a_mv : Fld := ⟨0x220004, 16, 16, 0x0⟩
/-- b_mv[15:0] RO, R391. -/
def Reg.PWR_FEED_V.b_mv : Fld := ⟨0x220004, 0, 16, 0x0⟩
/-- warning[31:31] RO, R391. -/
def Reg.PWR_THERM.warning : Fld := ⟨0x220008, 31, 1, 0x0⟩
/-- warn[23:16] RWS, R391. -/
def Reg.PWR_THERM.warn : Fld := ⟨0x220008, 16, 8, 0x64⟩
/-- tj[15:0] RO, R391. -/
def Reg.PWR_THERM.tj : Fld := ⟨0x220008, 0, 16, 0x0⟩
/-- up_lo[31:0] RO, R425. -/
def Reg.PWR_UPTIME_LO.up_lo : Fld := ⟨0x220010, 0, 32, 0x0⟩
/-- up_hi[7:0] RO, R425. -/
def Reg.PWR_UPTIME_HI.up_hi : Fld := ⟨0x220014, 0, 8, 0x0⟩
/-- value[31:0] RW, R391. -/
def Reg.PWR_BACKUP.value (i : Nat) : Fld := ⟨0x220040 + 0x4 * i, 0, 32, 0x0⟩
/-- alert_mask[31:16] RW, R415. -/
def Reg.EVT_CTRL.alert_mask : Fld := ⟨0x240000, 16, 16, 0x7fe⟩
/-- resend_ms[7:0] RW, R415. -/
def Reg.EVT_CTRL.resend_ms : Fld := ⟨0x240000, 0, 8, 0xa⟩
/-- overflow[31:31] W1C, R415. -/
def Reg.EVT_PENDING.overflow : Fld := ⟨0x240004, 31, 1, 0x0⟩
/-- pending[12:0] RO, R415. -/
def Reg.EVT_PENDING.pending : Fld := ⟨0x240004, 0, 13, 0x0⟩
/-- next[31:0] RO, R415. -/
def Reg.EVT_INDEX.next : Fld := ⟨0x240008, 0, 32, 0x0⟩
/-- ack[0:0] WO, R415. -/
def Reg.EVT_ACK_ALL.ack : Fld := ⟨0x24000c, 0, 1, 0x0⟩
/-- dropped[31:0] RO, R415. -/
def Reg.EVT_DROPPED.dropped : Fld := ⟨0x240010, 0, 32, 0x0⟩
/-- count[1:0] RO, R415. -/
def Reg.EVT_SUBS.count : Fld := ⟨0x240014, 0, 2, 0x0⟩
/-- line[29:0] RO, R425. -/
def Reg.EVT_RING.line : Fld := ⟨0x240018, 0, 30, 0x16400000⟩
/-- done[31:31] RO, R425. -/
def Reg.TEST_ST_RESULT.done : Fld := ⟨0x260000, 31, 1, 0x0⟩
/-- pass[30:30] RO, R425. -/
def Reg.TEST_ST_RESULT.pass : Fld := ⟨0x260000, 30, 1, 0x0⟩
/-- failed_id[15:0] RO, R425. -/
def Reg.TEST_ST_RESULT.failed_id : Fld := ⟨0x260000, 0, 16, 0x0⟩
/-- tested[31:16] RO, R425. -/
def Reg.TEST_ST_COUNT.tested : Fld := ⟨0x260004, 16, 16, 0x0⟩
/-- failed[15:0] RO, R425. -/
def Reg.TEST_ST_COUNT.failed : Fld := ⟨0x260004, 0, 16, 0x0⟩
/-- go[31:31] WO, R425. -/
def Reg.TEST_INJECT.go : Fld := ⟨0x260010, 31, 1, 0x0⟩
/-- refused[30:30] RO, R425. -/
def Reg.TEST_INJECT.refused : Fld := ⟨0x260010, 30, 1, 0x0⟩
/-- target[27:24] RW, R425. -/
def Reg.TEST_INJECT.target : Fld := ⟨0x260010, 24, 4, 0x0⟩
/-- loc[31:0] RW, R425. -/
def Reg.TEST_INJECT_LOC.loc : Fld := ⟨0x260014, 0, 32, 0x0⟩
/-- count[31:0] RO, R425. -/
def Reg.TEST_INJECT_CNT.count : Fld := ⟨0x260018, 0, 32, 0x0⟩

/-- Registers of the map, part 0 (R430). -/
def regDescs0 : List RegDesc := [
  ⟨"GLOBAL_ID", 0x0, [], [⟨31, 16, .ro, .plain, 0x5053⟩, ⟨15, 0, .ro, .plain, 0xda01⟩]⟩,
  ⟨"GLOBAL_VARIANT", 0x4, [], [⟨15, 8, .ro, .fused, 0x40⟩, ⟨7, 0, .ro, .fused, 0x0⟩]⟩,
  ⟨"GLOBAL_REV", 0x8, [], [⟨31, 24, .ro, .fused, 0x0⟩, ⟨23, 16, .ro, .fused, 0x0⟩, ⟨15, 0, .ro, .loaded, 0x0⟩]⟩,
  ⟨"GLOBAL_SERIAL_HI", 0xc, [], [⟨31, 0, .ro, .fused, 0x0⟩]⟩,
  ⟨"GLOBAL_SERIAL_LO", 0x10, [], [⟨31, 0, .ro, .fused, 0x0⟩]⟩,
  ⟨"GLOBAL_STATUS", 0x14, [], [⟨31, 31, .ro, .plain, 0x0⟩, ⟨30, 30, .ro, .plain, 0x0⟩, ⟨29, 29, .ro, .plain, 0x0⟩, ⟨28, 28, .ro, .plain, 0x0⟩, ⟨27, 27, .ro, .plain, 0x0⟩, ⟨26, 26, .ro, .plain, 0x0⟩, ⟨25, 25, .ro, .plain, 0x0⟩, ⟨24, 24, .ro, .plain, 0x0⟩, ⟨23, 22, .ro, .plain, 0x0⟩, ⟨19, 16, .ro, .plain, 0x0⟩, ⟨15, 12, .ro, .plain, 0x0⟩, ⟨6, 0, .ro, .plain, 0x0⟩]⟩,
  ⟨"GLOBAL_SCRATCH", 0x18, [], [⟨31, 0, .rw, .plain, 0x0⟩]⟩,
  ⟨"GLOBAL_JOB_ID", 0x100, [], [⟨31, 0, .ro, .plain, 0x0⟩]⟩,
  ⟨"GLOBAL_JOB", 0x104, [], [⟨31, 28, .ro, .plain, 0x0⟩, ⟨27, 27, .ro, .plain, 0x0⟩, ⟨26, 26, .ro, .plain, 0x0⟩, ⟨23, 0, .ro, .plain, 0x0⟩]⟩,
  ⟨"GLOBAL_MODE", 0x108, [], [⟨1, 0, .rw, .plain, 0x0⟩]⟩,
  ⟨"GLOBAL_MODE_EFF", 0x10c, [], [⟨1, 0, .ro, .plain, 0x0⟩]⟩,
  ⟨"GLOBAL_WDOG", 0x120, [], [⟨15, 0, .rws, .plain, 0x1f4⟩]⟩,
  ⟨"GLOBAL_DMP_STAT", 0x130, [], [⟨31, 16, .ro, .plain, 0x0⟩, ⟨15, 0, .ro, .plain, 0x0⟩]⟩,
  ⟨"GLOBAL_OP_CTRL", 0x200, [(0x8, 8)], [⟨31, 16, .ro, .plain, 0x0⟩, ⟨15, 12, .ro, .plain, 0x0⟩, ⟨11, 8, .ro, .plain, 0x0⟩, ⟨7, 0, .ro, .plain, 0x0⟩]⟩,
  ⟨"GLOBAL_OP_PROG", 0x204, [(0x8, 8)], [⟨9, 0, .ro, .plain, 0x0⟩]⟩,
  ⟨"RCU_RESET_CAUSE", 0x10000, [], [⟨31, 28, .ro, .retained, 0x0⟩, ⟨27, 25, .ro, .retained, 0x0⟩, ⟨24, 24, .ro, .retained, 0x0⟩, ⟨23, 16, .ro, .plain, 0x0⟩, ⟨15, 0, .ro, .retained, 0x0⟩]⟩,
  ⟨"RCU_PHASE", 0x10004, [], [⟨31, 28, .ro, .plain, 0x0⟩, ⟨27, 27, .ro, .plain, 0x0⟩, ⟨26, 0, .ro, .plain, 0x0⟩]⟩,
  ⟨"RCU_FUSE_MAP", 0x10008, [], [⟨29, 0, .ro, .fused, 0x180524dc⟩]⟩,
  ⟨"RCU_STRAPS", 0x1000c, [], [⟨11, 8, .ro, .sampled, 0x0⟩, ⟨7, 6, .ro, .sampled, 0x0⟩, ⟨5, 5, .ro, .sampled, 0x0⟩, ⟨4, 4, .ro, .sampled, 0x0⟩, ⟨2, 0, .ro, .sampled, 0x0⟩]⟩,
  ⟨"RCU_IDENT", 0x10010, [], [⟨2, 0, .rws, .plain, 0x0⟩]⟩,
  ⟨"RCU_RESET_CMD", 0x10020, [], [⟨31, 24, .wo, .plain, 0x0⟩, ⟨1, 0, .wo, .plain, 0x0⟩]⟩,
  ⟨"RCU_BLOCK_RST", 0x10024, [], [⟨31, 31, .wo, .plain, 0x0⟩, ⟨30, 28, .ro, .plain, 0x0⟩, ⟨15, 8, .rw, .plain, 0x0⟩, ⟨5, 0, .rw, .plain, 0x0⟩]⟩,
  ⟨"NVL_STATUS", 0x20000, [], [⟨31, 31, .ro, .plain, 0x0⟩, ⟨30, 30, .ro, .plain, 0x0⟩, ⟨29, 28, .ro, .retained, 0x0⟩, ⟨27, 16, .ro, .plain, 0x0⟩, ⟨15, 0, .ro, .plain, 0x0⟩]⟩,
  ⟨"NVL_GEN_A", 0x20004, [], [⟨31, 0, .ro, .plain, 0x0⟩]⟩,
  ⟨"NVL_GEN_B", 0x20008, [], [⟨31, 0, .ro, .plain, 0x0⟩]⟩,
  ⟨"TIME_NOW_SEC_HI", 0x30000, [], [⟨15, 0, .ro, .plain, 0x0⟩]⟩,
  ⟨"TIME_NOW_SEC_LO", 0x30004, [], [⟨31, 0, .ro, .plain, 0x0⟩]⟩,
  ⟨"TIME_NOW_NS", 0x30008, [], [⟨31, 0, .ro, .plain, 0x0⟩]⟩,
  ⟨"TIME_NOW_FRAC", 0x3000c, [], [⟨31, 0, .ro, .plain, 0x0⟩]⟩,
  ⟨"TIME_INC_HI", 0x30010, [], [⟨31, 0, .rw, .plain, 0x1⟩]⟩]

/-- Registers of the map, part 1 (R430). -/
def regDescs1 : List RegDesc := [
  ⟨"TIME_INC_LO", 0x30014, [], [⟨31, 0, .rw, .plain, 0x0⟩]⟩,
  ⟨"TIME_CTRL", 0x30018, [], [⟨23, 16, .rw, .plain, 0x0⟩, ⟨9, 9, .rw, .plain, 0x1⟩, ⟨8, 8, .rw, .plain, 0x1⟩, ⟨3, 2, .rw, .plain, 0x1⟩, ⟨1, 0, .rw, .plain, 0x1⟩]⟩,
  ⟨"TIME_KP", 0x3001c, [], [⟨31, 0, .rw, .plain, 0x8000⟩]⟩,
  ⟨"TIME_KI", 0x30020, [], [⟨31, 0, .rw, .plain, 0x1000⟩]⟩,
  ⟨"TIME_STATUS", 0x30024, [], [⟨31, 31, .ro, .plain, 0x0⟩, ⟨30, 30, .ro, .plain, 0x0⟩, ⟨29, 29, .ro, .plain, 0x0⟩, ⟨28, 28, .ro, .plain, 0x0⟩, ⟨27, 24, .ro, .plain, 0x1⟩, ⟨7, 0, .ro, .plain, 0x0⟩]⟩,
  ⟨"TIME_OFFSET", 0x30028, [], [⟨31, 0, .ro, .plain, 0x0⟩]⟩,
  ⟨"TIME_PATH_DELAY", 0x3002c, [], [⟨31, 0, .ro, .plain, 0x0⟩]⟩,
  ⟨"TIME_UNLOCK", 0x30030, [], [⟨15, 0, .rw, .plain, 0x1f4⟩]⟩,
  ⟨"TIME_LOCK_STRICT", 0x30034, [], [⟨0, 0, .rw, .plain, 0x1⟩]⟩,
  ⟨"TIME_MASTER_HI", 0x30038, [], [⟨31, 0, .ro, .plain, 0x0⟩]⟩,
  ⟨"TIME_MASTER_LO", 0x3003c, [], [⟨31, 0, .ro, .plain, 0x0⟩]⟩,
  ⟨"TIME_STEPS", 0x30040, [], [⟨31, 16, .ro, .plain, 0x0⟩, ⟨15, 0, .ro, .plain, 0x0⟩]⟩,
  ⟨"TIME_ASYM", 0x30050, [(0x4, 3)], [⟨31, 0, .rws, .plain, 0x0⟩]⟩,
  ⟨"TIME_PHY_LAT", 0x30060, [(0x4, 3)], [⟨31, 16, .ro, .fused, 0x0⟩, ⟨15, 0, .ro, .fused, 0x0⟩]⟩,
  ⟨"TIME_TRIG0_SEC_HI", 0x30100, [], [⟨15, 0, .rw, .plain, 0x0⟩]⟩,
  ⟨"TIME_TRIG0_SEC_LO", 0x30104, [], [⟨31, 0, .rw, .plain, 0x0⟩]⟩,
  ⟨"TIME_TRIG0_NS", 0x30108, [], [⟨31, 0, .rw, .plain, 0x0⟩]⟩,
  ⟨"TIME_TRIG0_CTRL", 0x3010c, [], [⟨31, 31, .wo, .plain, 0x0⟩, ⟨30, 30, .ro, .plain, 0x0⟩, ⟨23, 0, .rw, .plain, 0x0⟩]⟩,
  ⟨"TIME_TRIG1_SEC_HI", 0x3011c, [], [⟨15, 0, .ro, .plain, 0x0⟩]⟩,
  ⟨"TIME_TRIG1_SEC_LO", 0x30120, [], [⟨31, 0, .ro, .plain, 0x0⟩]⟩,
  ⟨"TIME_TRIG1_NS", 0x30124, [], [⟨31, 0, .ro, .plain, 0x0⟩]⟩,
  ⟨"TIME_PULSE2_CTRL", 0x30200, [], [⟨31, 31, .rw, .plain, 0x0⟩, ⟨30, 30, .rw, .plain, 0x0⟩, ⟨29, 28, .rw, .plain, 0x1⟩, ⟨15, 0, .rw, .plain, 0x1⟩]⟩,
  ⟨"TIME_PULSE3_CTRL", 0x30220, [], [⟨31, 31, .rw, .plain, 0x0⟩, ⟨30, 30, .rw, .plain, 0x0⟩, ⟨29, 28, .rw, .plain, 0x2⟩, ⟨15, 0, .rw, .plain, 0x1⟩]⟩,
  ⟨"TIME_PULSE4_CTRL", 0x30240, [], [⟨31, 31, .rw, .plain, 0x0⟩, ⟨30, 30, .rw, .plain, 0x0⟩, ⟨29, 28, .rw, .plain, 0x0⟩, ⟨15, 0, .rw, .plain, 0x1⟩]⟩,
  ⟨"TIME_PULSE5_CTRL", 0x30260, [], [⟨31, 31, .rw, .plain, 0x0⟩, ⟨30, 30, .rw, .plain, 0x0⟩, ⟨29, 28, .rw, .plain, 0x0⟩, ⟨15, 0, .rw, .plain, 0x1⟩]⟩,
  ⟨"TIME_PULSE6_CTRL", 0x30280, [], [⟨31, 31, .rw, .plain, 0x0⟩, ⟨30, 30, .rw, .plain, 0x0⟩, ⟨29, 28, .rw, .plain, 0x0⟩, ⟨15, 0, .rw, .plain, 0x1⟩]⟩,
  ⟨"TIME_PULSE7_CTRL", 0x302a0, [], [⟨31, 31, .rw, .plain, 0x0⟩, ⟨30, 30, .rw, .plain, 0x0⟩, ⟨29, 28, .rw, .plain, 0x0⟩, ⟨15, 0, .rw, .plain, 0x1⟩]⟩,
  ⟨"TIME_PULSE_PERIOD", 0x30204, [(0x20, 6)], [⟨31, 0, .rw, .plain, 0x1388⟩]⟩,
  ⟨"TIME_PULSE_PHASE", 0x30208, [(0x20, 6)], [⟨31, 0, .rw, .plain, 0x0⟩]⟩,
  ⟨"TIME_PULSE_WIDTH", 0x3020c, [(0x20, 6)], [⟨31, 0, .rw, .plain, 0x64⟩]⟩]

/-- Registers of the map, part 2 (R430). -/
def regDescs2 : List RegDesc := [
  ⟨"TIME_TICK_OUT", 0x30300, [], [⟨31, 31, .rw, .plain, 0x1⟩, ⟨30, 30, .rw, .plain, 0x1⟩, ⟨21, 6, .rw, .plain, 0x0⟩, ⟨5, 0, .rw, .plain, 0x0⟩]⟩,
  ⟨"TIME_TICK_OUT_WIDTH", 0x30304, [], [⟨15, 0, .rw, .plain, 0x64⟩]⟩,
  ⟨"TIME_CAP_CTRL", 0x30400, [(0x10, 4)], [⟨31, 31, .w1c, .plain, 0x0⟩, ⟨20, 16, .ro, .plain, 0x0⟩, ⟨8, 8, .rw, .plain, 0x0⟩, ⟨1, 0, .rw, .plain, 0x0⟩]⟩,
  ⟨"TIME_CAP_TAG", 0x30404, [(0x10, 4)], [⟨31, 31, .ro, .plain, 0x0⟩, ⟨30, 30, .ro, .plain, 0x0⟩, ⟨15, 0, .ro, .plain, 0x0⟩]⟩,
  ⟨"TIME_CAP_SEC", 0x30408, [(0x10, 4)], [⟨31, 0, .ro, .plain, 0x0⟩]⟩,
  ⟨"TIME_CAP_NS", 0x3040c, [(0x10, 4)], [⟨31, 0, .ro, .plain, 0x0⟩]⟩,
  ⟨"TIME_TLOG_STAT", 0x30500, [], [⟨31, 16, .ro, .plain, 0x0⟩, ⟨15, 0, .ro, .plain, 0x0⟩]⟩,
  ⟨"ETH0_CTRL", 0x40000, [], [⟨31, 31, .w1c, .plain, 0x0⟩, ⟨4, 4, .rw, .plain, 0x1⟩, ⟨3, 3, .rw, .plain, 0x1⟩, ⟨1, 1, .rw, .plain, 0x1⟩, ⟨0, 0, .rw, .plain, 0x1⟩]⟩,
  ⟨"ETH0_STATUS", 0x40004, [], [⟨31, 31, .ro, .plain, 0x0⟩, ⟨30, 30, .ro, .plain, 0x0⟩, ⟨15, 0, .ro, .plain, 0x0⟩]⟩,
  ⟨"ETH0_MAC_HI", 0x40008, [], [⟨15, 0, .ro, .fused, 0x0⟩]⟩,
  ⟨"ETH0_MAC_LO", 0x4000c, [], [⟨31, 0, .ro, .fused, 0x0⟩]⟩,
  ⟨"ETH0_IPV4", 0x40010, [], [⟨31, 0, .rw, .plain, 0x0⟩]⟩,
  ⟨"ETH0_IPV4_PREFIX", 0x40014, [], [⟨5, 0, .rw, .plain, 0x18⟩]⟩,
  ⟨"ETH0_MCAST4", 0x40018, [], [⟨31, 0, .rw, .plain, 0x0⟩]⟩,
  ⟨"ETH0_IPV6", 0x40020, [(0x4, 4)], [⟨31, 0, .rw, .plain, 0x0⟩]⟩,
  ⟨"ETH0_IPV6_PREFIX", 0x40030, [], [⟨7, 0, .rw, .plain, 0x40⟩]⟩,
  ⟨"ETH0_MCAST6", 0x40040, [(0x4, 4)], [⟨31, 0, .rw, .plain, 0x0⟩]⟩,
  ⟨"ETH0_RX_FRAMES", 0x40060, [], [⟨31, 0, .ro, .plain, 0x0⟩]⟩,
  ⟨"ETH0_RX_FCS", 0x40064, [], [⟨31, 0, .ro, .plain, 0x0⟩]⟩,
  ⟨"ETH0_TX_FRAMES", 0x40068, [], [⟨31, 0, .ro, .plain, 0x0⟩]⟩,
  ⟨"ETH0_RX_DROP", 0x4006c, [], [⟨31, 0, .ro, .plain, 0x0⟩]⟩,
  ⟨"ETH0_DST_CTRL", 0x40200, [], [⟨23, 16, .rw, .plain, 0x10⟩, ⟨15, 8, .rw, .plain, 0x14⟩, ⟨7, 0, .rw, .plain, 0x32⟩]⟩,
  ⟨"ETH0_DST_DROP", 0x40204, [], [⟨31, 16, .ro, .plain, 0x0⟩, ⟨15, 0, .ro, .plain, 0x0⟩]⟩,
  ⟨"ETH1_CTRL", 0x50000, [], [⟨31, 31, .w1c, .plain, 0x0⟩, ⟨4, 4, .rw, .plain, 0x1⟩, ⟨3, 3, .rw, .plain, 0x1⟩, ⟨1, 1, .rw, .plain, 0x1⟩, ⟨0, 0, .rw, .plain, 0x1⟩]⟩,
  ⟨"ETH1_STATUS", 0x50004, [], [⟨31, 31, .ro, .plain, 0x0⟩, ⟨30, 30, .ro, .plain, 0x0⟩, ⟨15, 0, .ro, .plain, 0x0⟩]⟩,
  ⟨"ETH1_MAC_HI", 0x50008, [], [⟨15, 0, .ro, .fused, 0x0⟩]⟩,
  ⟨"ETH1_MAC_LO", 0x5000c, [], [⟨31, 0, .ro, .fused, 0x0⟩]⟩,
  ⟨"ETH1_IPV4", 0x50010, [], [⟨31, 0, .rw, .plain, 0x0⟩]⟩,
  ⟨"ETH1_IPV4_PREFIX", 0x50014, [], [⟨5, 0, .rw, .plain, 0x18⟩]⟩,
  ⟨"ETH1_MCAST4", 0x50018, [], [⟨31, 0, .rw, .plain, 0x0⟩]⟩]

/-- Registers of the map, part 3 (R430). -/
def regDescs3 : List RegDesc := [
  ⟨"ETH1_IPV6", 0x50020, [(0x4, 4)], [⟨31, 0, .rw, .plain, 0x0⟩]⟩,
  ⟨"ETH1_IPV6_PREFIX", 0x50030, [], [⟨7, 0, .rw, .plain, 0x40⟩]⟩,
  ⟨"ETH1_MCAST6", 0x50040, [(0x4, 4)], [⟨31, 0, .rw, .plain, 0x0⟩]⟩,
  ⟨"ETH1_RX_FRAMES", 0x50060, [], [⟨31, 0, .ro, .plain, 0x0⟩]⟩,
  ⟨"ETH1_RX_FCS", 0x50064, [], [⟨31, 0, .ro, .plain, 0x0⟩]⟩,
  ⟨"ETH1_TX_FRAMES", 0x50068, [], [⟨31, 0, .ro, .plain, 0x0⟩]⟩,
  ⟨"ETH1_RX_DROP", 0x5006c, [], [⟨31, 0, .ro, .plain, 0x0⟩]⟩,
  ⟨"ETH1_DST_CTRL", 0x50200, [], [⟨23, 16, .rw, .plain, 0x10⟩, ⟨15, 8, .rw, .plain, 0x14⟩, ⟨7, 0, .rw, .plain, 0x32⟩]⟩,
  ⟨"ETH1_DST_DROP", 0x50204, [], [⟨31, 16, .ro, .plain, 0x0⟩, ⟨15, 0, .ro, .plain, 0x0⟩]⟩,
  ⟨"STG_CTRL", 0x60000, [], [⟨2, 2, .rw, .plain, 0x0⟩, ⟨1, 1, .rw, .plain, 0x0⟩, ⟨0, 0, .rw, .plain, 0x1⟩]⟩,
  ⟨"STG_EXC_LIMIT", 0x60004, [], [⟨6, 0, .rw, .plain, 0x30⟩]⟩,
  ⟨"STG_GAP", 0x60008, [], [⟨31, 16, .rw, .plain, 0x64⟩, ⟨15, 0, .rw, .plain, 0x14⟩]⟩,
  ⟨"STG_STROBE_TOL", 0x6000c, [], [⟨15, 0, .rw, .plain, 0xc8⟩]⟩,
  ⟨"STG_XOFF_HI", 0x60010, [], [⟨15, 0, .rws, .plain, 0x0⟩]⟩,
  ⟨"STG_XOFF_LO", 0x60014, [], [⟨31, 0, .rws, .plain, 0x0⟩]⟩,
  ⟨"STG_YOFF_HI", 0x60018, [], [⟨15, 0, .rws, .plain, 0x0⟩]⟩,
  ⟨"STG_YOFF_LO", 0x6001c, [], [⟨31, 0, .rws, .plain, 0x0⟩]⟩,
  ⟨"STG_STATUS", 0x60020, [], [⟨31, 31, .ro, .plain, 0x0⟩, ⟨30, 30, .ro, .plain, 0x0⟩, ⟨29, 29, .ro, .plain, 0x0⟩, ⟨28, 28, .ro, .plain, 0x0⟩, ⟨15, 0, .ro, .plain, 0x0⟩]⟩,
  ⟨"STG_LAST_OFFSET", 0x60024, [], [⟨15, 8, .ro, .plain, 0x0⟩, ⟨7, 0, .ro, .plain, 0x0⟩]⟩,
  ⟨"STG_DISCARD", 0x60028, [], [⟨31, 0, .ro, .plain, 0x0⟩]⟩,
  ⟨"STG_BLANKED", 0x6002c, [], [⟨31, 16, .ro, .plain, 0x0⟩, ⟨15, 0, .ro, .plain, 0x0⟩]⟩,
  ⟨"STG_AGE_MAX", 0x60030, [], [⟨31, 0, .ro, .plain, 0x0⟩]⟩,
  ⟨"STG_PORT_CTRL", 0x60100, [], [⟨31, 31, .w1c, .plain, 0x0⟩, ⟨4, 4, .rw, .plain, 0x1⟩, ⟨3, 3, .rw, .plain, 0x1⟩, ⟨1, 1, .rw, .plain, 0x1⟩, ⟨0, 0, .rw, .plain, 0x1⟩]⟩,
  ⟨"STG_PORT_STATUS", 0x60104, [], [⟨31, 31, .ro, .plain, 0x0⟩, ⟨30, 30, .ro, .plain, 0x0⟩, ⟨15, 0, .ro, .plain, 0x0⟩]⟩,
  ⟨"STG_PORT_MAC_HI", 0x60108, [], [⟨15, 0, .ro, .fused, 0x0⟩]⟩,
  ⟨"STG_PORT_MAC_LO", 0x6010c, [], [⟨31, 0, .ro, .fused, 0x0⟩]⟩,
  ⟨"STG_PORT_IPV4", 0x60110, [], [⟨31, 0, .rw, .plain, 0x0⟩]⟩,
  ⟨"STG_PORT_IPV4_PREFIX", 0x60114, [], [⟨5, 0, .rw, .plain, 0x18⟩]⟩,
  ⟨"STG_PORT_IPV6", 0x60120, [(0x4, 4)], [⟨31, 0, .rw, .plain, 0x0⟩]⟩,
  ⟨"STG_PORT_IPV6_PREFIX", 0x60130, [], [⟨7, 0, .rw, .plain, 0x40⟩]⟩]

/-- Registers of the map, part 4 (R430). -/
def regDescs4 : List RegDesc := [
  ⟨"STG_PORT_RX_FRAMES", 0x60160, [], [⟨31, 0, .ro, .plain, 0x0⟩]⟩,
  ⟨"STG_PORT_RX_FCS", 0x60164, [], [⟨31, 0, .ro, .plain, 0x0⟩]⟩,
  ⟨"STG_PORT_TX_FRAMES", 0x60168, [], [⟨31, 0, .ro, .plain, 0x0⟩]⟩,
  ⟨"STG_PORT_RX_DROP", 0x6016c, [], [⟨31, 0, .ro, .plain, 0x0⟩]⟩,
  ⟨"DMC_STATUS", 0x80000, [], [⟨31, 31, .ro, .plain, 0x0⟩, ⟨30, 30, .ro, .plain, 0x0⟩, ⟨27, 24, .ro, .plain, 0x0⟩, ⟨23, 20, .ro, .plain, 0x0⟩, ⟨19, 16, .ro, .plain, 0x0⟩]⟩,
  ⟨"DMC_DEGRADE", 0x80004, [], [⟨2, 2, .rws, .plain, 0x0⟩, ⟨1, 0, .rws, .plain, 0x0⟩]⟩,
  ⟨"DMC_REGION1", 0x80010, [], [⟨31, 16, .ro, .plain, 0x5a⟩, ⟨15, 0, .ro, .plain, 0xa6⟩]⟩,
  ⟨"DMC_REGION2", 0x80014, [], [⟨31, 16, .ro, .plain, 0x0⟩, ⟨15, 0, .rw, .plain, 0x8⟩]⟩,
  ⟨"DMC_REGION3", 0x80018, [], [⟨31, 16, .ro, .plain, 0x8⟩, ⟨15, 0, .rw, .plain, 0x4⟩]⟩,
  ⟨"DMC_REGION4", 0x8001c, [], [⟨31, 16, .ro, .plain, 0xc⟩, ⟨15, 0, .rw, .plain, 0x4⟩]⟩,
  ⟨"DMC_REGION5", 0x80020, [], [⟨31, 16, .ro, .plain, 0x10⟩, ⟨15, 0, .rw, .plain, 0x20⟩]⟩,
  ⟨"DMC_REGION6", 0x80024, [], [⟨31, 16, .ro, .plain, 0x30⟩, ⟨15, 0, .rw, .plain, 0x1⟩]⟩,
  ⟨"DMC_REGION7", 0x80028, [], [⟨31, 16, .ro, .plain, 0x31⟩, ⟨15, 0, .rw, .plain, 0x28⟩]⟩,
  ⟨"DMC_REGION8", 0x8002c, [], [⟨31, 16, .ro, .plain, 0x59⟩, ⟨15, 0, .ro, .plain, 0x1⟩]⟩,
  ⟨"DMC_QOS", 0x80040, [], [⟨19, 16, .rw, .plain, 0x8⟩, ⟨15, 12, .rw, .plain, 0x4⟩, ⟨11, 8, .rw, .plain, 0x3⟩, ⟨7, 4, .rw, .plain, 0x1⟩, ⟨3, 0, .rw, .plain, 0x1⟩]⟩,
  ⟨"DMC_PANIC", 0x80044, [], [⟨23, 16, .rw, .plain, 0x19⟩, ⟨15, 0, .ro, .plain, 0x0⟩]⟩,
  ⟨"DMC_ACT", 0x80048, [], [⟨31, 16, .rw, .plain, 0x1000⟩, ⟨7, 0, .rw, .plain, 0x40⟩]⟩,
  ⟨"DMC_ACT_STAT", 0x8004c, [], [⟨31, 16, .ro, .plain, 0x0⟩, ⟨15, 0, .ro, .plain, 0x0⟩]⟩,
  ⟨"DMC_RD_ERR", 0x80060, [], [⟨31, 31, .w1c, .plain, 0x0⟩, ⟨30, 16, .ro, .plain, 0x0⟩, ⟨15, 0, .ro, .plain, 0x0⟩]⟩,
  ⟨"DMC_LAST_BAD", 0x80064, [], [⟨31, 30, .ro, .plain, 0x0⟩, ⟨29, 0, .ro, .plain, 0x0⟩]⟩,
  ⟨"DMC_LAST_BAD_SRC", 0x80068, [], [⟨15, 8, .ro, .plain, 0x0⟩, ⟨2, 0, .ro, .plain, 0x0⟩]⟩,
  ⟨"DMC_LADLE", 0x8006c, [], [⟨31, 16, .ro, .plain, 0x0⟩, ⟨15, 0, .ro, .plain, 0x0⟩]⟩,
  ⟨"DMC_VERIFY", 0x80070, [], [⟨15, 0, .ro, .plain, 0x0⟩]⟩,
  ⟨"DMC_TRAIN_CTRL", 0x80080, [], [⟨31, 16, .rw, .plain, 0x12c⟩, ⟨15, 12, .rw, .plain, 0x4⟩]⟩,
  ⟨"DMC_TRAIN", 0x80090, [(0x4, 4)], [⟨31, 30, .ro, .plain, 0x0⟩, ⟨29, 29, .ro, .plain, 0x0⟩, ⟨23, 16, .ro, .plain, 0x0⟩, ⟨15, 0, .ro, .plain, 0x0⟩]⟩,
  ⟨"DMC_SCRUB", 0x800a0, [], [⟨7, 0, .rw, .plain, 0x6⟩]⟩,
  ⟨"DMC_SCRUB_POS", 0x800a4, [], [⟨29, 0, .ro, .plain, 0x0⟩]⟩,
  ⟨"DMC_SCRUB_ERR", 0x800a8, [], [⟨31, 16, .ro, .plain, 0x0⟩, ⟨15, 0, .ro, .plain, 0x0⟩]⟩,
  ⟨"DMC_REPAIR", 0x800b0, [], [⟨31, 24, .ro, .plain, 0x0⟩, ⟨23, 16, .ro, .plain, 0x0⟩, ⟨15, 8, .ro, .plain, 0x0⟩, ⟨7, 0, .ro, .plain, 0x0⟩]⟩,
  ⟨"CODEC_CTRL", 0xa0000, [], [⟨15, 8, .rw, .plain, 0x40⟩, ⟨0, 0, .rw, .plain, 0x1⟩]⟩]

/-- Registers of the map, part 5 (R430). -/
def regDescs5 : List RegDesc := [
  ⟨"CODEC_STATUS", 0xa0004, [], [⟨31, 16, .ro, .plain, 0x0⟩, ⟨7, 0, .ro, .plain, 0x0⟩]⟩,
  ⟨"CODEC_HIST", 0xa0008, [], [⟨15, 0, .ro, .plain, 0x0⟩]⟩,
  ⟨"CODEC_CTX_OP", 0xa0010, [], [⟨31, 30, .ro, .plain, 0x0⟩, ⟨15, 0, .ro, .plain, 0x0⟩]⟩,
  ⟨"CODEC_DEC_ERR", 0xa0020, [], [⟨31, 28, .ro, .plain, 0x0⟩, ⟨27, 24, .ro, .plain, 0x0⟩, ⟨23, 0, .ro, .plain, 0x0⟩]⟩,
  ⟨"CODEC_DEC_BIT", 0xa0024, [], [⟨31, 0, .ro, .plain, 0x0⟩]⟩,
  ⟨"CODEC_REC_STAT", 0xa0030, [], [⟨31, 16, .ro, .plain, 0x0⟩, ⟨15, 0, .ro, .plain, 0x0⟩]⟩,
  ⟨"SIEVE_EDGE_BUDGET", 0xc0000, [], [⟨7, 0, .rw, .plain, 0x60⟩]⟩,
  ⟨"SIEVE_STRIPE_MAX", 0xc0004, [], [⟨15, 0, .rw, .plain, 0x2000⟩]⟩,
  ⟨"SIEVE_HOLD", 0xc0008, [], [⟨15, 0, .rw, .plain, 0x2710⟩]⟩,
  ⟨"SIEVE_QUEUE", 0xc000c, [], [⟨3, 0, .ro, .plain, 0x0⟩]⟩,
  ⟨"SIEVE_QSEQ", 0xc0010, [], [⟨23, 0, .rw, .plain, 0x0⟩]⟩,
  ⟨"SIEVE_QSTATE", 0xc0014, [], [⟨31, 29, .ro, .plain, 0x0⟩, ⟨28, 28, .ro, .plain, 0x0⟩, ⟨27, 27, .ro, .plain, 0x0⟩, ⟨26, 26, .ro, .plain, 0x0⟩, ⟨25, 25, .ro, .plain, 0x0⟩, ⟨24, 24, .ro, .plain, 0x0⟩, ⟨16, 0, .ro, .plain, 0x0⟩]⟩,
  ⟨"SIEVE_REFUSE_SEQ", 0xc0018, [], [⟨23, 0, .ro, .plain, 0x0⟩]⟩,
  ⟨"SIEVE_REFUSE_INFO", 0xc001c, [], [⟨31, 16, .ro, .plain, 0x0⟩, ⟨15, 0, .ro, .plain, 0x0⟩]⟩,
  ⟨"SIEVE_REFUSE_COUNT", 0xc0020, [], [⟨31, 0, .ro, .plain, 0x0⟩]⟩,
  ⟨"RENDER_STATUS", 0xe0000, [], [⟨31, 31, .ro, .plain, 0x0⟩, ⟨30, 30, .ro, .plain, 0x0⟩, ⟨15, 0, .ro, .plain, 0x0⟩]⟩,
  ⟨"RENDER_LINE", 0xe0004, [], [⟨31, 31, .ro, .plain, 0x0⟩, ⟨23, 0, .ro, .plain, 0x0⟩]⟩,
  ⟨"RENDER_LEAD_MIN", 0xe0008, [], [⟨15, 0, .ro, .plain, 0x0⟩]⟩,
  ⟨"RENDER_LATE", 0xe000c, [], [⟨31, 0, .ro, .plain, 0x0⟩]⟩,
  ⟨"RENDER_RERENDER", 0xe0010, [], [⟨31, 31, .w1c, .plain, 0x0⟩, ⟨30, 16, .ro, .plain, 0x0⟩, ⟨15, 0, .ro, .plain, 0x0⟩]⟩,
  ⟨"RENDER_EDGE_MAX", 0xe0014, [], [⟨7, 0, .ro, .plain, 0x0⟩]⟩,
  ⟨"RENDER_FETCH_ERR", 0xe0018, [], [⟨15, 0, .ro, .plain, 0x0⟩]⟩,
  ⟨"PEC_CTRL", 0x100000, [], [⟨11, 8, .rwc, .plain, 0x0⟩, ⟨4, 4, .rwc, .plain, 0x0⟩, ⟨1, 0, .rwc, .plain, 0x0⟩]⟩,
  ⟨"PEC_F_BASE", 0x100004, [], [⟨15, 0, .rwc, .plain, 0x1000⟩]⟩,
  ⟨"PEC_COMMIT", 0x100008, [], [⟨0, 0, .wo, .plain, 0x0⟩]⟩,
  ⟨"PEC_STATUS", 0x10000c, [], [⟨31, 31, .ro, .plain, 0x0⟩, ⟨30, 30, .ro, .plain, 0x0⟩, ⟨29, 29, .ro, .plain, 0x0⟩, ⟨23, 0, .ro, .plain, 0x0⟩]⟩,
  ⟨"PEC_ROW", 0x100010, [], [⟨17, 0, .ro, .plain, 0x0⟩]⟩,
  ⟨"PEC_WEIGHT", 0x100020, [(0x4, 4)], [⟨15, 0, .rwc, .plain, 0x0⟩]⟩,
  ⟨"PEC_WEIGHT_U", 0x100030, [], [⟨15, 0, .rwc, .plain, 0x0⟩]⟩,
  ⟨"PEC_CLAMP", 0x100040, [], [⟨31, 16, .ro, .plain, 0x0⟩, ⟨15, 0, .ro, .plain, 0x0⟩]⟩]

/-- Registers of the map, part 6 (R430). -/
def regDescs6 : List RegDesc := [
  ⟨"PEC_LATE", 0x100044, [], [⟨31, 0, .ro, .plain, 0x0⟩]⟩,
  ⟨"PEC_ERR", 0x100048, [], [⟨31, 31, .w1c, .plain, 0x0⟩, ⟨30, 16, .ro, .plain, 0x0⟩, ⟨15, 0, .ro, .plain, 0x0⟩]⟩,
  ⟨"PEC_KTAB", 0x101000, [(0x400, 10), (0x4, 129)], [⟨15, 0, .rwc, .plain, 0x0⟩]⟩,
  ⟨"WIN_CHECK_ERR", 0x120000, [], [⟨31, 31, .w1c, .plain, 0x0⟩, ⟨30, 16, .ro, .plain, 0x0⟩, ⟨15, 0, .ro, .plain, 0x0⟩]⟩,
  ⟨"WIN_LAST_BAD", 0x120004, [], [⟨31, 31, .ro, .plain, 0x0⟩, ⟨28, 24, .ro, .plain, 0x0⟩, ⟨23, 0, .ro, .plain, 0x0⟩]⟩,
  ⟨"WIN_SPARE", 0x120010, [], [⟨31, 31, .ro, .plain, 0x0⟩, ⟨12, 0, .ro, .plain, 0x0⟩]⟩,
  ⟨"WIN_SPARE_LAST", 0x120014, [], [⟨24, 16, .ro, .plain, 0x0⟩, ⟨9, 0, .ro, .plain, 0x0⟩]⟩,
  ⟨"SHOT_TICK_LO", 0x140010, [], [⟨31, 0, .ro, .plain, 0x0⟩]⟩,
  ⟨"SHOT_TICK_HI", 0x140014, [], [⟨7, 0, .ro, .plain, 0x0⟩]⟩,
  ⟨"SHOT_STRIPE", 0x140018, [], [⟨31, 31, .ro, .plain, 0x0⟩, ⟨30, 30, .ro, .plain, 0x0⟩, ⟨29, 29, .ro, .plain, 0x0⟩, ⟨23, 0, .ro, .plain, 0x0⟩]⟩,
  ⟨"SHOT_FRONT", 0x14001c, [], [⟨31, 0, .ro, .plain, 0x0⟩]⟩,
  ⟨"SHOT_TURN_REQ", 0x140020, [], [⟨15, 0, .ro, .plain, 0x1518⟩]⟩,
  ⟨"SHOT_RESERVE_PASSES", 0x140040, [], [⟨2, 0, .rw, .plain, 0x2⟩]⟩,
  ⟨"SHOT_DOSE_NOMINAL", 0x140044, [], [⟨7, 0, .rw, .plain, 0xc8⟩]⟩,
  ⟨"SHOT_CTRL", 0x140048, [], [⟨0, 0, .rw, .plain, 0x1⟩]⟩,
  ⟨"SHOT_COLSTAT", 0x14004c, [], [⟨31, 16, .ro, .plain, 0x0⟩, ⟨15, 0, .ro, .plain, 0x0⟩]⟩,
  ⟨"SHOT_MISSED", 0x140050, [], [⟨31, 0, .ro, .plain, 0x0⟩]⟩,
  ⟨"SHOT_MADEUP", 0x140054, [], [⟨31, 0, .ro, .plain, 0x0⟩]⟩,
  ⟨"SHOT_SAT", 0x140058, [], [⟨31, 0, .ro, .plain, 0x0⟩]⟩,
  ⟨"SHOT_REPORTS", 0x14005c, [], [⟨31, 0, .ro, .plain, 0x0⟩]⟩,
  ⟨"SHOT_LOSS_FILL", 0x140060, [], [⟨16, 0, .ro, .plain, 0x0⟩]⟩,
  ⟨"SHOT_UNDO", 0x140064, [], [⟨31, 16, .ro, .plain, 0x0⟩, ⟨15, 0, .ro, .plain, 0x0⟩]⟩,
  ⟨"SHOT_RHO_REBUILD", 0x140068, [], [⟨31, 16, .ro, .plain, 0x0⟩, ⟨15, 0, .ro, .plain, 0x0⟩]⟩,
  ⟨"LANE_CTRL", 0x180000, [(0x400, 64)], [⟨7, 7, .wo, .plain, 0x0⟩, ⟨6, 6, .wo, .plain, 0x0⟩, ⟨1, 1, .rw, .plain, 0x0⟩, ⟨0, 0, .rw, .plain, 0x1⟩]⟩,
  ⟨"LANE_STATE", 0x180004, [(0x400, 64)], [⟨31, 28, .ro, .plain, 0x0⟩, ⟨27, 27, .ro, .plain, 0x0⟩, ⟨26, 26, .ro, .plain, 0x0⟩, ⟨23, 20, .ro, .plain, 0x0⟩, ⟨19, 16, .ro, .plain, 0x0⟩, ⟨15, 0, .ro, .plain, 0x0⟩]⟩,
  ⟨"LANE_FFE", 0x180008, [(0x400, 64)], [⟨31, 24, .ro, .plain, 0x0⟩, ⟨23, 16, .ro, .plain, 0x0⟩, ⟨15, 8, .ro, .plain, 0x0⟩, ⟨7, 0, .ro, .plain, 0x0⟩]⟩,
  ⟨"LANE_MARGIN", 0x18000c, [(0x400, 64)], [⟨31, 24, .ro, .plain, 0xff⟩, ⟨23, 16, .ro, .plain, 0x0⟩, ⟨15, 8, .ro, .plain, 0xff⟩, ⟨7, 0, .ro, .plain, 0x0⟩]⟩,
  ⟨"LANE_TEST", 0x180010, [(0x400, 64)], [⟨31, 28, .rw, .plain, 0x0⟩, ⟨27, 27, .wo, .plain, 0x0⟩, ⟨26, 26, .wo, .plain, 0x0⟩, ⟨25, 25, .wo, .plain, 0x0⟩, ⟨23, 18, .rw, .plain, 0x1⟩, ⟨17, 14, .rw, .plain, 0x1⟩, ⟨1, 1, .ro, .plain, 0x0⟩, ⟨0, 0, .ro, .plain, 0x0⟩]⟩,
  ⟨"LANE_TEST_DUR", 0x180014, [(0x400, 64)], [⟨31, 0, .rw, .plain, 0xf4240⟩]⟩,
  ⟨"LANE_TEST_ERR", 0x180018, [(0x400, 64)], [⟨31, 0, .ro, .plain, 0x0⟩]⟩]

/-- Registers of the map, part 7 (R430). -/
def regDescs7 : List RegDesc := [
  ⟨"LANE_TEST_BITS_LO", 0x18001c, [(0x400, 64)], [⟨31, 0, .ro, .plain, 0x0⟩]⟩,
  ⟨"LANE_TEST_BITS_HI", 0x180020, [(0x400, 64)], [⟨15, 0, .ro, .plain, 0x0⟩]⟩,
  ⟨"LANE_RX_CAPS0", 0x180100, [(0x400, 64)], [⟨31, 16, .ro, .plain, 0x0⟩, ⟨15, 0, .ro, .plain, 0x0⟩]⟩,
  ⟨"LANE_RX_CAPS1", 0x180104, [(0x400, 64)], [⟨31, 16, .ro, .plain, 0x0⟩, ⟨1, 1, .ro, .plain, 0x0⟩, ⟨0, 0, .ro, .plain, 0x0⟩]⟩,
  ⟨"LANE_RX_TICKS", 0x180108, [(0x400, 64)], [⟨28, 16, .ro, .plain, 0x0⟩, ⟨12, 0, .ro, .plain, 0x0⟩]⟩,
  ⟨"LANE_LATENCY", 0x18010c, [(0x400, 64)], [⟨31, 16, .ro, .plain, 0x0⟩, ⟨15, 0, .ro, .plain, 0x0⟩]⟩,
  ⟨"LANE_RX_APPLY", 0x180110, [(0x400, 64)], [⟨15, 0, .ro, .plain, 0x0⟩]⟩,
  ⟨"LANE_SKEW", 0x180114, [(0x400, 64)], [⟨15, 0, .rws, .plain, 0x0⟩]⟩,
  ⟨"LANE_NAKS", 0x180120, [(0x400, 64)], [⟨31, 16, .ro, .plain, 0x0⟩, ⟨15, 0, .ro, .plain, 0x0⟩]⟩,
  ⟨"LANE_RX_BLANK", 0x180124, [(0x400, 64)], [⟨31, 0, .ro, .plain, 0x0⟩]⟩,
  ⟨"LANE_PROTO_ERR", 0x180128, [(0x400, 64)], [⟨31, 24, .ro, .plain, 0x0⟩, ⟨23, 16, .ro, .plain, 0x0⟩, ⟨15, 8, .ro, .plain, 0x0⟩, ⟨7, 0, .ro, .plain, 0x0⟩]⟩,
  ⟨"LANE_CREDIT", 0x18012c, [(0x400, 64)], [⟨31, 16, .ro, .plain, 0x0⟩, ⟨15, 0, .ro, .plain, 0x0⟩]⟩,
  ⟨"LANE_LAST_STATUS", 0x180130, [(0x400, 64)], [⟨31, 0, .ro, .plain, 0x0⟩]⟩,
  ⟨"LANE_BRINGUP", 0x190000, [], [⟨11, 8, .rw, .plain, 0x3⟩, ⟨3, 0, .rw, .plain, 0x1⟩]⟩,
  ⟨"LANE_ADAPT", 0x190004, [], [⟨11, 8, .rw, .plain, 0x4⟩, ⟨7, 0, .rw, .plain, 0x40⟩]⟩,
  ⟨"LANE_ACTIVE_LO", 0x190008, [], [⟨31, 0, .ro, .plain, 0x0⟩]⟩,
  ⟨"LANE_ACTIVE_HI", 0x19000c, [], [⟨31, 0, .ro, .plain, 0x0⟩]⟩,
  ⟨"LANE_GUARD", 0x190100, [], [⟨7, 0, .rw, .plain, 0x50⟩]⟩,
  ⟨"LANE_PROTO_CTRL", 0x190104, [], [⟨31, 31, .w1c, .plain, 0x0⟩, ⟨15, 8, .rw, .plain, 0x64⟩, ⟨1, 0, .rw, .plain, 0x2⟩]⟩,
  ⟨"LANE_REPLAY_CAP", 0x190108, [], [⟨4, 0, .ro, .plain, 0x4⟩]⟩,
  ⟨"CHECK_CTRL", 0x1c0000, [], [⟨7, 6, .rw, .plain, 0x2⟩, ⟨4, 2, .rw, .plain, 0x1⟩, ⟨1, 0, .rw, .plain, 0x1⟩]⟩,
  ⟨"CHECK_STATUS", 0x1c0004, [], [⟨31, 31, .ro, .plain, 0x0⟩, ⟨30, 30, .ro, .plain, 0x0⟩, ⟨29, 29, .ro, .plain, 0x0⟩, ⟨28, 28, .ro, .plain, 0x0⟩, ⟨23, 0, .ro, .plain, 0x0⟩]⟩,
  ⟨"CHECK_BURGEE_HI", 0x1c0008, [], [⟨31, 0, .ro, .plain, 0x0⟩]⟩,
  ⟨"CHECK_BURGEE_LO", 0x1c000c, [], [⟨31, 0, .ro, .plain, 0x0⟩]⟩,
  ⟨"CHECK_RECSIG_HI", 0x1c0010, [], [⟨31, 0, .ro, .plain, 0x0⟩]⟩,
  ⟨"CHECK_RECSIG_LO", 0x1c0014, [], [⟨31, 0, .ro, .plain, 0x0⟩]⟩,
  ⟨"CHECK_TICKS", 0x1c0018, [], [⟨24, 0, .ro, .plain, 0x0⟩]⟩,
  ⟨"CHECK_FLAGS_IN", 0x1c001c, [], [⟨31, 0, .ro, .plain, 0x0⟩]⟩,
  ⟨"CHECK_SPOOL", 0x1c0020, [], [⟨31, 24, .ro, .plain, 0x0⟩, ⟨23, 16, .ro, .plain, 0x0⟩, ⟨3, 0, .ro, .plain, 0x0⟩]⟩,
  ⟨"CHECK_LASTING", 0x1c0030, [], [⟨31, 31, .w1c, .plain, 0x0⟩, ⟨30, 16, .ro, .plain, 0x0⟩, ⟨15, 0, .ro, .plain, 0x0⟩]⟩]

/-- Registers of the map, part 8 (R430). -/
def regDescs8 : List RegDesc := [
  ⟨"CHECK_HIST_FILL", 0x1c0034, [], [⟨8, 0, .ro, .plain, 0x0⟩]⟩,
  ⟨"CHECK_LAST_LOC", 0x1c0038, [], [⟨31, 28, .ro, .plain, 0x0⟩, ⟨27, 0, .ro, .plain, 0x0⟩]⟩,
  ⟨"CHECK_SELFTEST", 0x1c0040, [], [⟨31, 31, .ro, .plain, 0x0⟩, ⟨15, 0, .ro, .plain, 0x0⟩]⟩,
  ⟨"CHECK_LOST", 0x1c0044, [], [⟨31, 16, .ro, .plain, 0x0⟩, ⟨15, 0, .ro, .plain, 0x0⟩]⟩,
  ⟨"CAL_CTRL", 0x1e0000, [], [⟨31, 24, .rw, .plain, 0xc0⟩, ⟨23, 20, .rw, .plain, 0x8⟩, ⟨15, 8, .rw, .plain, 0x20⟩, ⟨1, 1, .rw, .plain, 0x0⟩, ⟨0, 0, .rw, .plain, 0x1⟩]⟩,
  ⟨"CAL_WINDOW", 0x1e0004, [], [⟨28, 16, .rw, .plain, 0x1194⟩, ⟨12, 0, .rw, .plain, 0x960⟩]⟩,
  ⟨"CAL_SCALE", 0x1e0008, [], [⟨31, 0, .rw, .plain, 0x0⟩]⟩,
  ⟨"CAL_LIMITS", 0x1e000c, [], [⟨31, 16, .rw, .plain, 0x1000⟩, ⟨15, 0, .rw, .plain, 0x400⟩]⟩,
  ⟨"CAL_GAIN_WARN", 0x1e0010, [], [⟨15, 0, .rw, .plain, 0x7400⟩]⟩,
  ⟨"CAL_CURSOR", 0x1e0014, [], [⟨11, 0, .rw, .plain, 0x0⟩]⟩,
  ⟨"CAL_HOST", 0x1e0018, [], [⟨31, 31, .rw, .plain, 0x0⟩, ⟨18, 0, .ro, .plain, 0x0⟩]⟩,
  ⟨"CAL_COMMIT", 0x1e001c, [], [⟨1, 1, .wo, .plain, 0x0⟩, ⟨0, 0, .wo, .plain, 0x0⟩]⟩,
  ⟨"CAL_STATUS", 0x1e0020, [], [⟨31, 31, .ro, .plain, 0x0⟩, ⟨30, 30, .ro, .plain, 0x0⟩, ⟨29, 29, .ro, .plain, 0x0⟩, ⟨28, 28, .ro, .plain, 0x0⟩, ⟨23, 0, .ro, .plain, 0x0⟩]⟩,
  ⟨"CAL_MEAS", 0x1e0024, [], [⟨31, 16, .ro, .plain, 0x0⟩, ⟨15, 0, .ro, .plain, 0x0⟩]⟩,
  ⟨"CAL_SKIP", 0x1e0028, [], [⟨31, 16, .ro, .plain, 0x0⟩, ⟨15, 0, .ro, .plain, 0x0⟩]⟩,
  ⟨"CAL_GAIN_MAX", 0x1e002c, [], [⟨31, 16, .ro, .plain, 0x0⟩]⟩,
  ⟨"CAL_GAIN_MAX_BEAM", 0x1e0030, [], [⟨17, 0, .ro, .plain, 0x0⟩]⟩,
  ⟨"CAL_SNAP_GEN", 0x1e0034, [], [⟨31, 0, .ro, .plain, 0x0⟩]⟩,
  ⟨"PAIR_CTRL", 0x200000, [], [⟨15, 8, .rw, .plain, 0x3⟩, ⟨3, 3, .rw, .plain, 0x1⟩, ⟨2, 2, .rws, .sampled, 0x0⟩, ⟨0, 0, .rws, .plain, 0x0⟩]⟩,
  ⟨"PAIR_STRICT", 0x200004, [], [⟨0, 0, .rw, .plain, 0x1⟩]⟩,
  ⟨"PAIR_STATUS", 0x200008, [], [⟨31, 30, .ro, .plain, 0x0⟩, ⟨29, 29, .ro, .plain, 0x0⟩, ⟨28, 28, .ro, .plain, 0x0⟩, ⟨27, 27, .ro, .plain, 0x0⟩, ⟨26, 26, .ro, .plain, 0x0⟩, ⟨25, 25, .ro, .plain, 0x0⟩, ⟨24, 24, .ro, .plain, 0x0⟩, ⟨23, 23, .ro, .plain, 0x0⟩, ⟨22, 22, .ro, .plain, 0x0⟩, ⟨15, 0, .ro, .retained, 0x0⟩]⟩,
  ⟨"PAIR_HB", 0x20000c, [], [⟨15, 8, .rw, .plain, 0x32⟩, ⟨7, 0, .rw, .plain, 0x2⟩]⟩,
  ⟨"PAIR_GEN_TX", 0x200010, [], [⟨31, 0, .ro, .retained, 0x0⟩]⟩,
  ⟨"PAIR_GEN_ACK", 0x200014, [], [⟨31, 0, .ro, .retained, 0x0⟩]⟩,
  ⟨"PAIR_RTT", 0x200018, [], [⟨15, 0, .ro, .plain, 0x0⟩]⟩,
  ⟨"PAIR_TAKEOVER", 0x200020, [], [⟨31, 31, .ro, .plain, 0x0⟩, ⟨30, 30, .ro, .plain, 0x0⟩, ⟨24, 0, .ro, .plain, 0x0⟩]⟩,
  ⟨"PAIR_TAKEOVER_SEQ", 0x200024, [], [⟨23, 0, .ro, .plain, 0x0⟩]⟩,
  ⟨"PAIR_HOLD_CNT", 0x200028, [], [⟨7, 0, .ro, .plain, 0x0⟩]⟩,
  ⟨"PAIR_ERR", 0x200030, [], [⟨31, 31, .w1c, .plain, 0x0⟩, ⟨30, 16, .ro, .plain, 0x0⟩, ⟨15, 0, .ro, .plain, 0x0⟩]⟩,
  ⟨"PAIR_PARTNER", 0x200034, [], [⟨31, 16, .ro, .plain, 0x0⟩, ⟨8, 8, .ro, .plain, 0x0⟩, ⟨7, 0, .ro, .plain, 0x0⟩]⟩]

/-- Registers of the map, part 9 (R430). -/
def regDescs9 : List RegDesc := [
  ⟨"PWR_FEED", 0x220000, [], [⟨31, 31, .ro, .plain, 0x0⟩, ⟨30, 30, .ro, .plain, 0x0⟩, ⟨15, 8, .ro, .retained, 0x0⟩, ⟨7, 0, .ro, .retained, 0x0⟩]⟩,
  ⟨"PWR_FEED_V", 0x220004, [], [⟨31, 16, .ro, .plain, 0x0⟩, ⟨15, 0, .ro, .plain, 0x0⟩]⟩,
  ⟨"PWR_THERM", 0x220008, [], [⟨31, 31, .ro, .plain, 0x0⟩, ⟨23, 16, .rws, .plain, 0x64⟩, ⟨15, 0, .ro, .plain, 0x0⟩]⟩,
  ⟨"PWR_UPTIME_LO", 0x220010, [], [⟨31, 0, .ro, .retained, 0x0⟩]⟩,
  ⟨"PWR_UPTIME_HI", 0x220014, [], [⟨7, 0, .ro, .retained, 0x0⟩]⟩,
  ⟨"PWR_BACKUP", 0x220040, [(0x4, 16)], [⟨31, 0, .rw, .retained, 0x0⟩]⟩,
  ⟨"EVT_CTRL", 0x240000, [], [⟨31, 16, .rw, .plain, 0x7fe⟩, ⟨7, 0, .rw, .plain, 0xa⟩]⟩,
  ⟨"EVT_PENDING", 0x240004, [], [⟨31, 31, .w1c, .plain, 0x0⟩, ⟨12, 0, .ro, .plain, 0x0⟩]⟩,
  ⟨"EVT_INDEX", 0x240008, [], [⟨31, 0, .ro, .retained, 0x0⟩]⟩,
  ⟨"EVT_ACK_ALL", 0x24000c, [], [⟨0, 0, .wo, .plain, 0x0⟩]⟩,
  ⟨"EVT_DROPPED", 0x240010, [], [⟨31, 0, .ro, .plain, 0x0⟩]⟩,
  ⟨"EVT_SUBS", 0x240014, [], [⟨1, 0, .ro, .plain, 0x0⟩]⟩,
  ⟨"EVT_RING", 0x240018, [], [⟨29, 0, .ro, .plain, 0x16400000⟩]⟩,
  ⟨"TEST_ST_RESULT", 0x260000, [], [⟨31, 31, .ro, .plain, 0x0⟩, ⟨30, 30, .ro, .plain, 0x0⟩, ⟨15, 0, .ro, .plain, 0x0⟩]⟩,
  ⟨"TEST_ST_COUNT", 0x260004, [], [⟨31, 16, .ro, .plain, 0x0⟩, ⟨15, 0, .ro, .plain, 0x0⟩]⟩,
  ⟨"TEST_INJECT", 0x260010, [], [⟨31, 31, .wo, .plain, 0x0⟩, ⟨30, 30, .ro, .plain, 0x0⟩, ⟨27, 24, .rw, .plain, 0x0⟩]⟩,
  ⟨"TEST_INJECT_LOC", 0x260014, [], [⟨31, 0, .rw, .plain, 0x0⟩]⟩,
  ⟨"TEST_INJECT_CNT", 0x260018, [], [⟨31, 0, .ro, .plain, 0x0⟩]⟩]

/-- R430: all the registers of the DK1. -/
def regDescs : List RegDesc :=
  regDescs0 ++ regDescs1 ++ regDescs2 ++ regDescs3 ++ regDescs4 ++ regDescs5 ++ regDescs6 ++ regDescs7 ++ regDescs8 ++ regDescs9

end Sys2Proof.Machine
end

