-- ==== Sys2Proof/Machine/Bits.lean ====
section
/-! DEFINITION. The checks of the spec (R73, R114, R313) and small bit helpers. -/

namespace Sys2Proof.Machine

/-- R73: one bit of the reflected Castagnoli CRC. -/
def crc32cBit (c : Nat) : Nat := if c % 2 = 1 then (c >>> 1) ^^^ 0x82F63B78 else c >>> 1

/-- R73: one byte of the reflected Castagnoli CRC. -/
def crc32cByte (c : Nat) (b : Byte) : Nat :=
  crc32cBit (crc32cBit (crc32cBit (crc32cBit (crc32cBit (crc32cBit (crc32cBit (crc32cBit (c ^^^ b.toNat))))))))

/-- R73: the running CRC-32C over a byte string, before the final XOR; the match makes the kernel compute each step before the next. -/
def crc32cRun : Nat → Bytes → Nat
  | c, [] => c
  | c, x :: xs =>
    match crc32cByte c x with
    | 0 => crc32cRun 0 xs
    | n + 1 => crc32cRun (n + 1) xs

/-- R73: CRC-32C of a byte string. -/
def crc32c (b : Bytes) : Nat := crc32cRun 0xFFFFFFFF b ^^^ 0xFFFFFFFF

/-- One bit of a most-significant-bit-first CRC of width w. -/
def crcMsbBit (w poly c : Nat) : Nat :=
  if (c >>> (w - 1)) % 2 = 1 then ((c <<< 1) ^^^ poly) % 2 ^ w else (c <<< 1) % 2 ^ w

/-- One byte of a most-significant-bit-first CRC of width w. -/
def crcMsbByte (w poly c : Nat) (b : Byte) : Nat :=
  let f := crcMsbBit w poly
  f (f (f (f (f (f (f (f (c ^^^ (b.toNat <<< (w - 8))))))))))

/-- R114: CRC-16, polynomial 0x1021, initial value 0xFFFF, no final XOR. -/
def crc16 (b : Bytes) : Nat := b.foldl (crcMsbByte 16 0x1021) 0xFFFF

/-- R313: the running CRC-64 of the signatures, before the final XOR. -/
def crc64Run (c : Nat) (b : Bytes) : Nat := b.foldl (crcMsbByte 64 0x42F0E1EBA9EA3693) c

/-- R313: initial value and final XOR of the CRC-64. -/
def crc64Ones : Nat := 0xFFFFFFFFFFFFFFFF

/-- R313: CRC-64 of a byte string. -/
def crc64 (b : Bytes) : Nat := crc64Run crc64Ones b ^^^ crc64Ones

/-- R448: one byte of CRC-8 with polynomial 0x07 (SMBus PEC). -/
def crc8 (b : Bytes) : Nat := b.foldl (crcMsbByte 8 0x07) 0

/-- A byte string of n zeros. -/
def zeros (n : Nat) : Bytes := List.replicate n 0#8

/-- R45: sequence a precedes sequence b in w-bit serial arithmetic. -/
def serialBefore (w a b : Nat) : Bool :=
  let d := (b + 2 ^ w - a % 2 ^ w) % 2 ^ w
  0 < d && d < 2 ^ (w - 1)

/-- (b − a) mod 2^w. -/
def serialDiff (w a b : Nat) : Nat := (b % 2 ^ w + 2 ^ w - a % 2 ^ w) % 2 ^ w

/-- Bits of a mask, lowest first, as the list of set positions below n. -/
def setBits (mask n : Nat) : List Nat := (List.range n).filter (fun i => mask.testBit i)

/-- The mask with bit i set. -/
def withBit (mask i : Nat) : Nat := mask ||| (1 <<< i)

/-- The mask with bit i clear. -/
def withoutBit (mask i : Nat) : Nat := if mask.testBit i then mask ^^^ (1 <<< i) else mask

/-- A Bool as 0 or 1. -/
def b2n (b : Bool) : Nat := if b then 1 else 0

/-- Ceiling division. -/
def cdiv (a b : Nat) : Nat := (a + b - 1) / b

/-- Nat subtraction as an integer. -/
def isub (a b : Nat) : Int := (a : Int) - (b : Int)

/-- Elements of a list that are the last with their key, newest kept: replace or append the element whose key agrees. -/
def upsert {α : Type} (key : α → Nat) (x : α) : List α → List α
  | [] => [x]
  | y :: ys => if key y = key x then x :: ys else y :: upsert key x ys

/-- Update every element whose key agrees. -/
def updWhere {α : Type} (p : α → Bool) (f : α → α) (l : List α) : List α :=
  l.map (fun x => if p x then f x else x)

/-- Replace element i of a list. -/
def setAt {α : Type} : List α → Nat → α → List α
  | [], _, _ => []
  | _ :: xs, 0, v => v :: xs
  | x :: xs, n + 1, v => x :: setAt xs n v

end Sys2Proof.Machine
end

