-- ==== Sys2Proof/Machine/Geo.lean ====
section
/-! DEFINITION. The exposure geometry of ch. 1: beams, pixels, passes, tiles, bands, segments and slots. The variant
is 0 for the DK1-262 and 1 for the DK1-131 (R1, GLOBAL_VARIANT.variant). -/

namespace Sys2Proof.Machine

/-- R9: columns of the array. -/
def colsOf (v : Nat) : Nat := if v = 0 then 512 else 256

/-- Table 0.1: lanes fitted. -/
def lanesOf (v : Nat) : Nat := if v = 0 then 64 else 32

/-- Table 0.1: stripe width in pixels. -/
def widthOf (v : Nat) : Nat := 16 * colsOf v

/-- Table 0.1: beams fitted. -/
def beamsOf (v : Nat) : Nat := 512 * colsOf v

/-- R24: segments of a line. -/
def segsOf (v : Nat) : Nat := widthOf v / 256

/-- Render slices that render (ch. 4). -/
def slicesOf (v : Nat) : Nat := widthOf v / 512

/-- R127: cells across a stripe. -/
def cellsOf (v : Nat) : Nat := widthOf v / 64

/-- R9: beam index of row r, column c. -/
def beamIx (v r c : Nat) : Nat := colsOf v * r + c

/-- R10: pixel column of beam (r, c). -/
def pixelX (r c : Nat) : Nat := 16 * c + r % 16

/-- R16: ticks of a stripe of L lines. -/
def stripeTicks (len : Nat) : Nat := len + 8176

/-- R16: the array front at stripe tick s. -/
def frontOf (dir len s : Nat) : Int := if dir = 0 then (s : Int) else (len : Int) - 1 - (s : Int)

/-- R17: nominal line of row r at stripe tick s. -/
def nominalY (dir len s r : Nat) : Int :=
  if dir = 0 then frontOf dir len s - 16 * (r : Int) else frontOf dir len s + 16 * (511 - (r : Int))

/-- R17: pass index of row r. -/
def passOf (dir r : Nat) : Nat := if dir = 0 then r / 16 else 31 - r / 16

/-- R19: the nominal line lies in the stripe. -/
def inStripe (len : Nat) (y : Int) : Bool := decide (0 ≤ y) && decide (y < (len : Int))

/-- R20: the row of pass k of pixel column x. -/
def passRow (dir x k : Nat) : Nat := if dir = 0 then 16 * k + x % 16 else 16 * (31 - k) + x % 16

/-- R20: the stripe tick of pass k of pixel (x, y). -/
def passTick (dir len x y k : Nat) : Nat :=
  if dir = 0 then y + 16 * (x % 16) + 256 * k else (len - 1 - y) + 16 * (15 - x % 16) + 256 * k

/-- R20: the beam of pass k of pixel column x. -/
def passBeam (v dir x k : Nat) : Nat := beamIx v (passRow dir x k) (x / 16)

/-- R21: tile (lane) of a beam. -/
def tileOf (b : Nat) : Nat := b / 4096

/-- R21: block ID of a beam, 16·t + j. -/
def blockOf (b : Nat) : Nat := b / 256

/-- Table 1.2: row of a block of the array. -/
def blockRow (v blk : Nat) : Nat := if v = 0 then blk / 2 else blk

/-- Table 1.2: first column of a block. -/
def blockCol (v blk : Nat) : Nat := if v = 0 then 256 * (blk % 2) else 0

/-- Blocks of the array (R314). -/
def blocksOf (v : Nat) : Nat := 16 * lanesOf v

/-- R23: band index of a line. -/
def bandOf (y : Nat) : Nat := y / 256

/-- R23: bands of a stripe of len_m1 + 1 lines. -/
def bandsOf (lenM1 : Nat) : Nat := lenM1 / 256 + 1

/-- R23, R61: lines of band β. -/
def bandLines (lenM1 band : Nat) : Nat := Nat.min 256 (lenM1 + 1 - 256 * band)

/-- R23: band ID. -/
def bandId (seq band : Nat) : Nat := seq * 65536 + band

/-- R25: window slot of a line. -/
def slotOf (y : Nat) : Nat := y % 8704

/-- R127: cell rows of a stripe of L lines. -/
def cellRows (len : Nat) : Nat := (len + 63) / 64

end Sys2Proof.Machine
end

