-- ==== Sys2Proof/Machine/RenderMath.lean ====
section
/-! DEFINITION. DGF primitives and their rendering: edges and flattening (R105 to R109), pattern dose (R110), density
(R130), and Sieve's edge events (R63 to R65). -/

namespace Sys2Proof.Machine

/-- One piece of a PATH (Table 2.6), in DGF units. -/
inductive PathSeg where
  | lineTo (x y : Nat)
  | quadTo (cx cy x y : Nat)
  | moveTo (x y : Nat)
deriving DecidableEq, Repr

/-- A DGF primitive (Table 2.6), in 1/16 pixel. -/
inductive Prim where
  | rect (x0 x1 y0 y1 : Nat)
  | trap (y0 y1 xl0 xr0 xl1 xr1 : Nat)
  | poly (pts : List (Nat × Nat))
  | path (start : Nat × Nat) (segs : List PathSeg)
deriving DecidableEq, Repr

/-- A primitive with its dose class (R104). -/
structure Shape where
  cls : Nat
  prim : Prim
deriving DecidableEq, Repr

/-- An oriented straight edge: (xa, ya) to (xb, yb), ya < yb. -/
structure Edge where
  xa : Int
  ya : Int
  xb : Int
  yb : Int
deriving DecidableEq, Repr

/-- R63, R107: an edge oriented so that ya < yb; none when the end y values are equal. -/
def orient (x0 y0 x1 y1 : Int) : List Edge :=
  if y0 = y1 then [] else if y0 < y1 then [⟨x0, y0, x1, y1⟩] else [⟨x1, y1, x0, y0⟩]

/-- R109: N, the number of straight edges of a QUAD: smallest power of two with N² ≥ 4d, 1 when d = 0. -/
def quadStepsFrom (d : Nat) : Nat → Nat → Nat
  | 0, n => n
  | fuel + 1, n => if 4 * d ≤ n * n then n else quadStepsFrom d fuel (2 * n)

/-- R109: the number of flattened edges. -/
def quadSteps (d : Nat) : Nat := quadStepsFrom d 24 1

/-- R109: fine coordinate of flattened point i on one axis. -/
def quadPoint (n : Nat) (a0 a1 a2 : Int) (i : Nat) : Int :=
  let nn : Int := (n : Int) * n
  (16 * (a0 * nn + 2 * (i : Int) * n * (a1 - a0) + (i : Int) * i * (a0 - 2 * a1 + a2)) + nn / 2) / nn

/-- R109: max(|Dx|, |Dy|). -/
def quadD (x0 y0 x1 y1 x2 y2 : Int) : Nat :=
  Nat.max (x0 - 2 * x1 + x2).natAbs (y0 - 2 * y1 + y2).natAbs

/-- R109: the flattened edges of a QUAD, fine units. -/
def quadEdges (x0 y0 x1 y1 x2 y2 : Int) : List Edge :=
  let n := quadSteps (quadD x0 y0 x1 y1 x2 y2)
  (List.range n).flatMap fun i =>
    orient (quadPoint n x0 x1 x2 i) (quadPoint n y0 y1 y2 i)
      (quadPoint n x0 x1 x2 (i + 1)) (quadPoint n y0 y1 y2 (i + 1))

/-- Straight edges between successive points, closing to the first. -/
def ringEdges (f : Int) (first : Nat × Nat) : List (Nat × Nat) → List Edge
  | [] => []
  | [p] => orient (f * p.1) (f * p.2) (f * first.1) (f * first.2)
  | p :: q :: rest => orient (f * p.1) (f * p.2) (f * q.1) (f * q.2) ++ ringEdges f first (q :: rest)

/-- Table 4.1: edges of a PATH: current loop start, current point, remaining pieces; `quad` gives a QUAD's edges. -/
def pathEdges (f : Int) (quad : Int → Int → Int → Int → Int → Int → List Edge)
    (start cur : Nat × Nat) : List PathSeg → List Edge
  | [] => orient (f * cur.1) (f * cur.2) (f * start.1) (f * start.2)
  | .lineTo x y :: rest =>
    orient (f * cur.1) (f * cur.2) (f * x) (f * y) ++ pathEdges f quad start (x, y) rest
  | .quadTo cx cy x y :: rest =>
    quad cur.1 cur.2 cx cy x y ++ pathEdges f quad start (x, y) rest
  | .moveTo x y :: rest =>
    orient (f * cur.1) (f * cur.2) (f * start.1) (f * start.2) ++ pathEdges f quad (x, y) (x, y) rest

/-- Table 4.1: the edges of a primitive, fine units. -/
def primEdges : Prim → List Edge
  | .rect x0 x1 y0 y1 =>
    orient (16 * x0) (16 * y0) (16 * x0) (16 * y1) ++ orient (16 * x1) (16 * y0) (16 * x1) (16 * y1)
  | .trap y0 y1 xl0 xr0 xl1 xr1 =>
    orient (16 * xl0) (16 * y0) (16 * xl1) (16 * y1) ++ orient (16 * xr0) (16 * y0) (16 * xr1) (16 * y1)
  | .poly pts => match pts with
    | [] => []
    | p :: rest => ringEdges 16 p (p :: rest)
  | .path start segs => pathEdges 16 quadEdges start start segs

/-- R108: edge crosses sample (sx, sy). -/
def crosses (e : Edge) (sx sy : Int) : Bool :=
  decide (e.ya ≤ sy) && decide (sy < e.yb) &&
    decide (e.xa * (e.yb - e.ya) + (e.xb - e.xa) * (sy - e.ya) < sx * (e.yb - e.ya))

/-- R108: sample covered by a primitive with these edges. -/
def covered (es : List Edge) (sx sy : Int) : Bool := (es.countP (fun e => crosses e sx sy)) % 2 = 1

/-- R110: the class of sample (sx, sy): greatest class of the primitives covering it, else 0. -/
def sampleClass (shapes : List (Nat × List Edge)) (sx sy : Int) : Nat :=
  shapes.foldl (fun m s => if covered s.2 sx sy then Nat.max m s.1 else m) 0

/-- The shapes of a band with their edges worked out. -/
def shapeEdges (shapes : List Shape) : List (Nat × List Edge) := shapes.map (fun s => (s.cls, primEdges s.prim))

/-- R110: Σ of pixel column px on band line l, over its 256 samples (R106). -/
def pixelSum (shapes : List (Nat × List Edge)) (px l : Nat) : Nat :=
  ((List.range 16).map fun (u : Nat) => ((List.range 16).map fun (w : Nat) =>
    sampleClass shapes ((256 * px + 16 * u + 8 : Nat) : Int) ((256 * l + 16 * w + 8 : Nat) : Int)).sum).sum

/-- R110: pattern dose of a pixel. -/
def patternDose (sum : Nat) : Nat := Nat.min 255 ((sum + 128) >>> 8)

/-- R104, R112: the 256 P values of segment σ of line y, from the shapes of the line's band. -/
def renderSegment (shapes : List Shape) (y seg : Nat) : List Nat :=
  let es := shapeEdges shapes
  (List.range 256).map fun k => patternDose (pixelSum es (256 * seg + k) (y % 256))

/-- R130: density of cell (X, row r of the band, 0 to 3), over the lines of the stripe. -/
def cellDensity (shapes : List Shape) (lines x r : Nat) : Nat :=
  let es := shapeEdges shapes
  (((List.range 64).map fun dy => ((List.range 64).map fun dx =>
    if 64 * r + dy < lines then pixelSum es (64 * x + dx) (64 * r + dy) else 0).sum).sum + 2048) >>> 12

/-- R63: the y-extremum of a QUAD as a rational num / den when it falls strictly inside the segment. -/
def quadExtremum (y0 y1 y2 : Int) : Option (Int × Int) :=
  let a := y0 - 2 * y1 + y2
  let b := y0 - y1
  -- the parameter is b / a; strictly inside when 0 < b / a < 1
  if (0 < a ∧ 0 < b ∧ b < a) ∨ (a < 0 ∧ b < 0 ∧ a < b) then
    -- y = y0 - b² / a
    some (y0 * a - b * b, a)
  else none

/-- A band-line edge of Sieve's recount: x range source and y span as rationals over den > 0. -/
inductive EvEdge where
  /-- straight edge, R64 pseudocode -/
  | line (e : Edge)
  /-- QUAD piece: x range of the whole segment, y span lo/den to hi/den (R64) -/
  | piece (xlo xhi lo hi den : Int)
deriving DecidableEq, Repr

/-- R63, R64: the pieces of a QUAD for edge events. -/
def quadPieces (x0 y0 x1 y1 x2 y2 : Int) : List EvEdge :=
  let xlo := min x0 (min x1 x2)
  let xhi := max x0 (max x1 x2)
  match quadExtremum y0 y1 y2 with
  | none => if y0 = y2 then [] else [.piece xlo xhi (min y0 y2) (max y0 y2) 1]
  | some (n, d) =>
    let num := if d < 0 then -n else n
    let den := if d < 0 then -d else d
    let mk (y : Int) : List EvEdge :=
      if y * den = num then [] else [.piece xlo xhi (min (y * den) num) (max (y * den) num) den]
    mk y0 ++ mk y2

/-- R63: edges of a PATH for edge events. -/
def pathEvEdges (start cur : Nat × Nat) : List PathSeg → List EvEdge
  | [] => (orient cur.1 cur.2 start.1 start.2).map .line
  | .lineTo x y :: rest => (orient cur.1 cur.2 x y).map .line ++ pathEvEdges start (x, y) rest
  | .quadTo cx cy x y :: rest => quadPieces cur.1 cur.2 cx cy x y ++ pathEvEdges start (x, y) rest
  | .moveTo x y :: rest => (orient cur.1 cur.2 start.1 start.2).map .line ++ pathEvEdges (x, y) (x, y) rest

/-- R63: edges of a primitive for edge events, DGF units. -/
def primEvEdges : Prim → List EvEdge
  | .rect x0 x1 y0 y1 => (orient x0 y0 x0 y1 ++ orient x1 y0 x1 y1).map .line
  | .trap y0 y1 xl0 xr0 xl1 xr1 => (orient xl0 y0 xl1 y1 ++ orient xr0 y0 xr1 y1).map .line
  | .poly pts => match pts with
    | [] => []
    | p :: rest => (ringEdges 1 p (p :: rest)).map .line
  | .path start segs => pathEvEdges start start segs

/-- Ceiling division of integers by a positive divisor. -/
def ceilDiv (a d : Int) : Int := -((-a) / d)

/-- R64: the slices (first, last) in which an edge has an event on band line l; none when it has none. -/
def edgeSlices (v : Nat) (e : EvEdge) (l : Nat) : Option (Nat × Nat) :=
  let top := slicesOf v - 1
  let q (x : Int) : Nat := Nat.min top (x / 8192).toNat
  match e with
  | .line e =>
    let ylo := max e.ya (16 * l)
    let yhi := min e.yb (16 * l + 16)
    if ylo < yhi then
      let d := e.yb - e.ya
      let nlo := (e.xb - e.xa) * (ylo - e.ya)
      let nhi := (e.xb - e.xa) * (yhi - e.ya)
      some (q (e.xa + min (nlo / d) (nhi / d)), q (e.xa + max (ceilDiv nlo d) (ceilDiv nhi d)))
    else none
  | .piece xlo xhi lo hi den =>
    if max lo (16 * l * den) < min hi ((16 * l + 16) * den) then some (q xlo, q xhi) else none

/-- R65: edge events of slice q on band line l. -/
def edgeCount (v : Nat) (es : List EvEdge) (l q : Nat) : Nat :=
  es.countP fun e => match edgeSlices v e l with
    | some (a, b) => decide (a ≤ q) && decide (q ≤ b)
    | none => false

/-- R65: per-slice (maximum over lines, total) of a band. -/
def edgeStats (v : Nat) (shapes : List Shape) (lines : Nat) : List (Nat × Nat) :=
  let es := shapes.flatMap (fun s => primEvEdges s.prim)
  (List.range 16).map fun q =>
    if q < slicesOf v then
      let cs := (List.range lines).map fun l => edgeCount v es l q
      (cs.foldl Nat.max 0, cs.sum)
    else (0, 0)

end Sys2Proof.Machine
end

