-- ==== Sys2Proof/Machine/Dgf.lean ====
section
/-! DEFINITION. Parsing a geometry band's DGF records and Sieve's band checks, rows 8 to 12 of Table 2.7 (R61, R62,
R65, R67). -/

namespace Sys2Proof.Machine

/-- Fields of a BAND_HEADER (Table 2.6). -/
structure BandHeader where
  bandId : Nat
  count : Nat
  lines : Nat
  maxima : List Nat
  totals : List Nat
deriving DecidableEq, Repr

/-- An admitted band: shapes in record order, edge figures per slice, raw size in bytes. -/
structure Band where
  shapes : List Shape
  lines : Nat
  maxima : List Nat
  rawSize : Nat
deriving DecidableEq, Repr

/-- The whole 32-bit words of a byte string, most significant byte first (R40). -/
def words32 : Bytes → List Nat
  | a :: b :: c :: d :: rest => beNat [a, b, c, d] :: words32 rest
  | _ => []

/-- Word 0 of a record: opcode, flags, count. -/
def recOp (w : Nat) : Nat × Nat × Nat := (w >>> 24, (w >>> 16) % 256, w % 65536)

/-- A y word: y in [15:0], the rest 0 (R62). -/
def yWordOk (w : Nat) : Bool := w < 65536

/-- Table 2.6: n vertices. -/
def takePoints : Nat → List Nat → Option (List (Nat × Nat) × Bool × List Nat)
  | 0, ws => some ([], true, ws)
  | n + 1, x :: y :: ws => (takePoints n ws).map (fun (ps, ok, r) => ((x, y % 65536) :: ps, yWordOk y && ok, r))
  | _ + 1, _ => none

/-- Table 2.6: the pieces of a PATH; the Bool says that every reserved bit is 0 and every kind is known. -/
def takePath : Nat → List Nat → Option (List PathSeg × Bool × List Nat)
  | 0, ws => some ([], true, ws)
  | n + 1, k :: ws =>
    let kind := k >>> 24
    let kok := k % 2 ^ 24 = 0
    if kind = 0 then
      match ws with
      | x :: y :: ws => (takePath n ws).map (fun (ps, ok, r) => (.lineTo x (y % 65536) :: ps, kok && yWordOk y && ok, r))
      | _ => none
    else if kind = 1 then
      match ws with
      | cx :: cy :: x :: y :: ws =>
        (takePath n ws).map (fun (ps, ok, r) =>
          (.quadTo cx (cy % 65536) x (y % 65536) :: ps, kok && yWordOk cy && yWordOk y && ok, r))
      | _ => none
    else if kind = 2 then
      match ws with
      | x :: y :: ws => (takePath n ws).map (fun (ps, ok, r) => (.moveTo x (y % 65536) :: ps, kok && yWordOk y && ok, r))
      | _ => none
    else none
  | _ + 1, [] => none

/-- One record: its words after word 0 and what follows. -/
inductive DgfRec where
  | prim (p : Prim)
  | cls (c : Nat)
  | end_
deriving DecidableEq, Repr

/-- R61, Table 2.6: one record other than BAND_HEADER; none when malformed (row 9). A PATH whose first segment is a MOVE is malformed in
this sense (R67 names no row, log 97). -/
def takeRecord : List Nat → Option (DgfRec × List Nat)
  | [] => none
  | w :: ws =>
    let (op, flags, cnt) := recOp w
    if flags ≠ 0 then none
    else if op = 1 then
      match ws with
      | x0 :: x1 :: yp :: ws => if cnt = 0 then some (.prim (.rect x0 x1 (yp >>> 16) (yp % 65536)), ws) else none
      | _ => none
    else if op = 2 then
      match ws with
      | yp :: a :: b :: c :: d :: ws =>
        if cnt = 0 then some (.prim (.trap (yp >>> 16) (yp % 65536) a b c d), ws) else none
      | _ => none
    else if op = 3 then
      if 3 ≤ cnt ∧ cnt ≤ 64 then
        match takePoints cnt ws with
        | some (ps, true, r) => some (.prim (.poly ps), r)
        | _ => none
      else none
    else if op = 4 then
      if 1 ≤ cnt ∧ cnt ≤ 256 then
        match ws with
        | x :: y :: ws =>
          match takePath cnt ws with
          | some (.moveTo _ _ :: _, _, _) => none
          | some (ps, true, r) => if yWordOk y then some (.prim (.path (x, y) ps), r) else none
          | _ => none
        | _ => none
      else none
    else if op = 5 then
      match ws with
      | c :: ws => if cnt = 0 ∧ c < 256 then some (.cls c, ws) else none
      | _ => none
    else if op = 7 then if cnt = 0 then some (.end_, ws) else none
    else none

/-- R61: the records after BAND_HEADER: shapes with their class, and how many records; none when malformed. -/
def takeRecords : Nat → Nat → Nat → List Nat → Option (List Shape × Nat)
  | 0, _, _, _ => none
  | fuel + 1, cls, n, ws =>
    match takeRecord ws with
    | none => none
    | some (.end_, rest) => if rest = [] then some ([], n + 1) else none
    | some (.cls c, rest) => takeRecords fuel c (n + 1) rest
    | some (.prim p, rest) => (takeRecords fuel cls (n + 1) rest).map (fun (ss, k) => (⟨cls, p⟩ :: ss, k))

/-- Bytes of four words, most significant first: the per-slice maxima of a BAND_HEADER. -/
def wordBytes (ws : List Nat) : List Nat :=
  ws.flatMap fun w => [(w >>> 24) % 256, (w >>> 16) % 256, (w >>> 8) % 256, w % 256]

/-- Table 2.6: BAND_HEADER, 25 words, or none when missing or incomplete (row 8). Its flags, its count and the reserved bits of the
band ID are row 9's (headerClean). -/
def takeHeader (ws : List Nat) : Option (BandHeader × List Nat) :=
  if ws.length < 25 then none
  else
    let w (i : Nat) : Nat := ws.getD i 0
    if w 0 / 2 ^ 24 ≠ 6 then none
    else some (⟨w 1 % 256 * 2 ^ 32 + w 2, w 3, w 4, wordBytes ((ws.drop 5).take 4), (ws.drop 9).take 16⟩, ws.drop 25)

/-- Table 2.7 row 9: flags, count and reserved bits of the BAND_HEADER are 0. -/
def headerClean (ws : List Nat) : Bool := ws.getD 0 0 % 2 ^ 24 = 0 && ws.getD 1 0 < 256

/-- R62: a point lies within the stripe and the band. -/
def pointOk (v lines : Nat) (p : Nat × Nat) : Bool := p.1 ≤ 16 * widthOf v && p.2 ≤ 16 * lines

/-- R62: points of a PATH piece. -/
def segPoints : PathSeg → List (Nat × Nat)
  | .lineTo x y => [(x, y)]
  | .quadTo cx cy x y => [(cx, cy), (x, y)]
  | .moveTo x y => [(x, y)]

/-- R62: every point of a primitive. -/
def primPoints : Prim → List (Nat × Nat)
  | .rect x0 x1 y0 y1 => [(x0, y0), (x1, y1)]
  | .trap y0 y1 xl0 xr0 xl1 xr1 => [(xl0, y0), (xr0, y0), (xl1, y1), (xr1, y1)]
  | .poly pts => pts
  | .path start segs => start :: segs.flatMap segPoints

/-- R62, Table 2.6: row 10, coordinates and conditions. -/
def primOk (v lines : Nat) (p : Prim) : Bool :=
  (primPoints p).all (pointOk v lines) &&
  match p with
  | .rect x0 x1 y0 y1 => decide (x0 < x1) && decide (y0 < y1)
  | .trap y0 y1 xl0 xr0 xl1 xr1 => decide (y0 < y1) && decide (xl0 ≤ xr0) && decide (xl1 ≤ xr1)
  | .poly _ => true
  | .path _ _ => true

/-- R67: rows 8 to 12 of Table 2.7 on the raw payload of band (seq, band); the event code of the first failure. -/
def checkBand (v lenM1 seq band budget : Nat) (raw : Bytes) : Except Nat Band :=
  match takeHeader (words32 raw) with
  | none => .error 0x0606
  | some (h, rest) =>
    let lines := bandLines lenM1 band
    if h.bandId ≠ bandId seq band ∨ h.lines ≠ lines then .error 0x0606
    else if raw.length % 4 ≠ 0 ∨ headerClean (words32 raw) = false then .error 0x0607
    else
        match takeRecords (rest.length + 1) 255 1 rest with
        | none => .error 0x0607
        | some (shapes, n) =>
          if n ≠ h.count then .error 0x0607
          else if shapes.any (fun s => !primOk v lines s.prim) then .error 0x0608
          else
            let st := edgeStats v shapes lines
            if st.map Prod.fst ≠ h.maxima ∨ st.map Prod.snd ≠ h.totals then .error 0x0609
            else if st.any (fun e => budget < e.1) then .error 0x060A
            else .ok ⟨shapes, lines, h.maxima, raw.length⟩

end Sys2Proof.Machine
end

