-- ==== Sys2Proof/Machine/Inflate.lean ====
section
/-! DEFINITION. The resumable chunk decoder of ch. 3: the DEFLATE subset judged element by element (R79 to R82), the
history (R84, R85), and the context a suspended stream keeps (R89, Table 3.5). The block format, the code construction
and the length and distance tables are those of RFC 1951, which R80 names. -/

namespace Sys2Proof.Machine

/-- Table 3.1: a DCF header. -/
structure DcfHdr where
  magic : Nat
  seq : Nat
  stream : Nat
  typ : Nat
  final : Bool
  histReset : Bool
  dyn : Bool
  fixed : Bool
  raw : Bool
  rawSize : Nat
  compSize : Nat
  bandId : Nat
  crc : Nat
  reservedOk : Bool
deriving DecidableEq, Repr

/-- R74: the DCF header in 32 bytes. -/
def parseDcf (b : Bytes) : DcfHdr :=
  let f := byteAt b 10
  { magic := beAt b 0 4, seq := beAt b 4 4, stream := byteAt b 8 % 16, typ := byteAt b 9,
    final := f.testBit 4, histReset := f.testBit 3, dyn := f.testBit 2, fixed := f.testBit 1, raw := f.testBit 0,
    rawSize := beAt b 12 4, compSize := beAt b 16 4, bandId := beAt b 20 8 % 2 ^ 40, crc := beAt b 28 4,
    reservedOk := byteAt b 8 / 16 = 0 && f / 32 = 0 && byteAt b 11 = 0 && beAt b 20 3 = 0 }

/-- R74: the DK1 writes its own chunks in the same layout. -/
def dcfBytes (h : DcfHdr) : Bytes :=
  toBE 4 0x44434631 ++ toBE 4 h.seq ++ toBE 1 h.stream ++ toBE 1 h.typ ++
    toBE 1 (b2n h.final * 16 + b2n h.histReset * 8 + b2n h.dyn * 4 + b2n h.fixed * 2 + b2n h.raw) ++ toBE 1 0 ++
    toBE 4 h.rawSize ++ toBE 4 h.compSize ++ toBE 8 h.bandId ++ toBE 4 h.crc

/-- R75: the envelope is valid for a stream that expects chunk sequence `next`. -/
def envelopeOk (h : DcfHdr) (stream next : Nat) : Bool :=
  h.magic = 0x44434631 && h.reservedOk && h.stream = stream && (1 ≤ h.typ && h.typ ≤ 7) &&
    (1 ≤ h.rawSize && h.rawSize ≤ 1048576) &&
    (if h.raw then !h.fixed && !h.dyn && h.compSize = h.rawSize
     else 1 ≤ h.compSize && h.compSize ≤ h.rawSize + 64) &&
    h.seq = next

/-- Table 3.5: decoder phase. -/
inductive DecPhase where
  | between | header | blockHdr | dynHdr | stored | coded | matchCopy | finished
deriving DecidableEq, Repr

/-- Table 3.5: the context of a stream, with the output staged for the chunk in progress (newest byte first). -/
structure Ctx where
  phase : DecPhase
  bfinal : Bool
  dynBlk : Bool
  histAvail : Bool
  rawCopy : Bool
  bitBuf : Nat
  bitCount : Nat
  nextSeq : Nat
  /-- history, newest byte first, at most 32,768 (R84) -/
  hist : Bytes
  chunkOut : Nat
  chunkIn : Nat
  crcRun : Nat
  pendLen : Nat
  pendDist : Nat
  storedLeft : Nat
  hlit : Nat
  hdist : Nat
  hclen : Nat
  dcfHdr : Bytes
  /-- code-length-code lengths read, in RFC 1951 order -/
  clLens : List Nat
  /-- literal/length then distance code lengths read -/
  lens : List Nat
  /-- staged output of the chunk, newest byte first (R83) -/
  staged : Bytes
deriving DecidableEq, Repr

/-- R51, R76, R85: a context right after its stream opens. -/
def Ctx.fresh : Ctx :=
  { phase := .between, bfinal := false, dynBlk := false, histAvail := true, rawCopy := false, bitBuf := 0,
    bitCount := 0, nextSeq := 0, hist := [], chunkOut := 0, chunkIn := 0, crcRun := 0xFFFFFFFF, pendLen := 0,
    pendDist := 0, storedLeft := 0, hlit := 0, hdist := 0, hclen := 0, dcfHdr := [], clLens := [], lens := [],
    staged := [] }

/-- RFC 1951 3.2.5: length base and extra bits of symbol 257 + i. -/
def lenBase (i : Nat) : Nat :=
  [3, 4, 5, 6, 7, 8, 9, 10, 11, 13, 15, 17, 19, 23, 27, 31, 35, 43, 51, 59, 67, 83, 99, 115, 131, 163, 195, 227,
    258].getD i 0
def lenExtra (i : Nat) : Nat :=
  [0, 0, 0, 0, 0, 0, 0, 0, 1, 1, 1, 1, 2, 2, 2, 2, 3, 3, 3, 3, 4, 4, 4, 4, 5, 5, 5, 5, 0].getD i 0

/-- RFC 1951 3.2.5: distance base and extra bits. -/
def distBase (i : Nat) : Nat :=
  [1, 2, 3, 4, 5, 7, 9, 13, 17, 25, 33, 49, 65, 97, 129, 193, 257, 385, 513, 769, 1025, 1537, 2049, 3073, 4097, 6145,
    8193, 12289, 16385, 24577].getD i 0
def distExtra (i : Nat) : Nat := if i < 4 then 0 else (i - 2) / 2

/-- RFC 1951 3.2.7: order of the code-length-code lengths. -/
def clOrder : List Nat := [16, 17, 18, 0, 8, 7, 9, 6, 10, 5, 11, 4, 12, 3, 13, 2, 14, 1, 15]

/-- RFC 1951 3.2.6: the fixed codes. -/
def fixedLit : List Nat :=
  List.replicate 144 8 ++ List.replicate 112 9 ++ List.replicate 24 7 ++ List.replicate 8 8
def fixedDist : List Nat := List.replicate 32 5

/-- How many symbols have code length l. -/
def lenCount (lens : List Nat) (l : Nat) : Nat := lens.countP (fun x => x = l)

/-- Symbols with code length l, rising. -/
def symsOfLen (lens : List Nat) (l : Nat) : List Nat :=
  ((List.range lens.length).filter (fun i => lens.getD i 0 = l))

/-- The code space left after lengths 1 … 15, in units of 2^-15; negative when over-subscribed. -/
def codeSpace (lens : List Nat) : Int :=
  (32768 : Int) - (((List.range 15).map fun i => lenCount lens (i + 1) * 2 ^ (14 - i)).sum : Nat)

def overSubscribed (lens : List Nat) : Bool := codeSpace lens < 0
def incompleteCode (lens : List Nat) : Bool := 0 < codeSpace lens

/-- Outcome of reading one Huffman symbol from n bits. -/
inductive SymRes where
  | sym (s used : Nat)
  /-- the bits read can begin no code (R81) -/
  | bad
  /-- the bits present are a proper beginning of a code -/
  | more
deriving DecidableEq, Repr

/-- Read a canonical code bit by bit: l bits done give `code`, `first` is the first code of length l + 1. `fill` is
the code space used so far in units of 2^-15. -/
def huffFrom (lens : List Nat) (v n : Nat) : Nat → Nat → Nat → Nat → Nat → SymRes
  | 0, _, _, _, _ => .bad
  | fuel + 1, l, code, first, endc =>
    if n ≤ l then .more
    else
      let code := code * 2 + bitOf v l
      let cnt := lenCount lens (l + 1)
      if code < first + cnt then .sym ((symsOfLen lens (l + 1)).getD (code - first) 0) (l + 1)
      else if endc ≤ code * 2 ^ (14 - l) then .bad
      else huffFrom lens v n fuel (l + 1) code ((first + cnt) * 2) endc

/-- One symbol of the canonical code with these lengths (RFC 1951 3.2.2); v holds n bits, next in bit 0. -/
def huffSym (lens : List Nat) (v n : Nat) : SymRes :=
  huffFrom lens v n 15 0 0 0 (32768 - codeSpace lens).toNat

/-- What one element of the stream does (R81). -/
inductive ElRes where
  | more
  | fail (reason bit : Nat)
  | ok (used : Nat) (c : Ctx)
deriving DecidableEq, Repr

/-- Short of bits: suspend (R89), or reason 9 once the payload is all there (R81). -/
def short (ended : Bool) (bit : Nat) : ElRes := if ended then .fail 9 bit else .more

/-- Produce one byte: history, staged output, count and running CRC. -/
def Ctx.emit (c : Ctx) (b : Byte) : Ctx :=
  { c with hist := (b :: c.hist).take 32768, staged := b :: c.staged, chunkOut := c.chunkOut + 1,
           crcRun := crc32cByte c.crcRun b }

/-- The block in progress ends at `next`; `lastBit` is its last element (reason 9 when the output is short, R81). -/
def endBlock (h : DcfHdr) (c : Ctx) (used lastBit next : Nat) : ElRes :=
  if c.bfinal then
    if c.chunkOut < h.rawSize then .fail 9 lastBit
    else if (next + 7) / 8 < h.compSize then .fail 7 ((next + 7) / 8 * 8)
    else .ok used { c with phase := .finished }
  else .ok used { c with phase := .blockHdr }

/-- R80, phase 2: BFINAL, BTYPE and, for a stored block, LEN and NLEN after the byte boundary. -/
def elBlockHdr (h : DcfHdr) (ended : Bool) (c : Ctx) (v n pos : Nat) : ElRes :=
  if n < 1 then short ended pos
  else if n < 3 then short ended (pos + 1)
  else
    let bt := bitsOf v 1 2
    let c := { c with bfinal := v % 2 = 1 }
    if bt = 3 then .fail 1 (pos + 1)
    else if (bt = 1 ∧ h.fixed = false) ∨ (bt = 2 ∧ h.dyn = false) then .fail 6 (pos + 1)
    else if bt = 0 then
      let pad := (8 - (pos + 3) % 8) % 8
      let k := 3 + pad
      if n < k + 16 then short ended (pos + k)
      else if n < k + 32 then short ended (pos + k + 16)
      else
        let len := bitsOf v k 16
        if bitsOf v (k + 16) 16 ≠ 65535 - len then .fail 2 (pos + k + 16)
        else if len = 0 then endBlock h c (k + 32) (pos + k + 16) (pos + k + 32)
        else .ok (k + 32) { c with phase := .stored, storedLeft := len }
    else if bt = 1 then .ok 3 { c with phase := .coded, dynBlk := false }
    else .ok 3 { c with phase := .dynHdr, dynBlk := true, hlit := 0, hdist := 0, hclen := 0, clLens := [], lens := [] }

/-- R81, phase 4: one stored byte. -/
def elStored (h : DcfHdr) (ended : Bool) (c : Ctx) (v n pos : Nat) : ElRes :=
  if n < 8 then short ended pos
  else if h.rawSize ≤ c.chunkOut then .fail 8 pos
  else
    let c := { c.emit (BitVec.ofNat 8 v) with storedLeft := c.storedLeft - 1 }
    if c.storedLeft = 0 then endBlock h c 8 pos (pos + 8) else .ok 8 c

/-- The code-length code lengths of a dynamic header, by symbol. -/
def clCode (cl : List Nat) : List Nat :=
  (List.range 19).map fun s => cl.getD ((clOrder.findIdx? (fun x => x = s)).getD 19) 0

/-- R81: reason 3 tests of the literal/length code once its last length is known, and of both when all are. -/
def dynBad (c : Ctx) (lens : List Nat) : Bool :=
  (decide (c.hlit ≤ lens.length) &&
    (overSubscribed (lens.take c.hlit) || incompleteCode (lens.take c.hlit))) ||
  (decide (c.hlit + c.hdist ≤ lens.length) &&
    (let d := lens.drop c.hlit
     overSubscribed d ||
       (incompleteCode d && !(d.all (fun x => x = 0)) && !(lenCount d 1 = 1 && d.countP (fun x => x ≠ 0) = 1))))

/-- Code lengths appended to a dynamic header. -/
def addLens (c : Ctx) (used bit : Nat) (xs : List Nat) : ElRes :=
  let lens := c.lens ++ xs
  if c.hlit + c.hdist < lens.length then .fail 3 bit
  else if dynBad c lens then .fail 3 bit
  else if lens.length = c.hlit + c.hdist then .ok used { c with lens := lens, phase := .coded }
  else .ok used { c with lens := lens }

/-- R81, phase 3: one element of a dynamic header; a repeat at fault is named by the first bit of its code (log 15). -/
def elDynHdr (ended : Bool) (c : Ctx) (v n pos : Nat) : ElRes :=
  if c.hlit = 0 then
    if n < 5 then short ended pos
    else if 286 < v % 32 + 257 then .fail 3 pos else .ok 5 { c with hlit := v % 32 + 257 }
  else if c.hdist = 0 then
    if n < 5 then short ended pos
    else if 30 < v % 32 + 1 then .fail 3 pos else .ok 5 { c with hdist := v % 32 + 1 }
  else if c.hclen = 0 then
    if n < 4 then short ended pos else .ok 4 { c with hclen := v % 16 + 4 }
  else if c.clLens.length < c.hclen then
    if n < 3 then short ended pos
    else
      let cl := c.clLens ++ [v % 8]
      if cl.length = c.hclen ∧ codeSpace (clCode cl) ≠ 0 then .fail 3 pos else .ok 3 { c with clLens := cl }
  else
    match huffSym (clCode c.clLens) v n with
    | .bad => .fail 3 pos
    | .more => short ended pos
    | .sym s used =>
      if s < 16 then addLens c used pos [s]
      else if s = 16 ∧ c.lens = [] then .fail 3 pos
      else
        let eb := if s = 16 then 2 else if s = 17 then 3 else 7
        if n < used + eb then short ended (pos + used)
        else
          let rep := (if s = 18 then 11 else 3) + bitsOf v used eb
          addLens c (used + eb) pos (List.replicate rep (if s = 16 then c.lens.getLastD 0 else 0))

/-- Literal/length and distance code lengths of the block in progress. -/
def litLens (c : Ctx) : List Nat := if c.dynBlk then c.lens.take c.hlit else fixedLit
def distLens (c : Ctx) : List Nat := if c.dynBlk then c.lens.drop c.hlit else fixedDist

/-- R81, phase 5: one literal, end of block, or length and distance pair. Reasons 4, 5 and 8 name the first bit of the code, reason 9 the
first bit of the code or of the extra bits that are cut off (log 15). -/
def elCoded (h : DcfHdr) (ended : Bool) (c : Ctx) (v n pos : Nat) : ElRes :=
  match huffSym (litLens c) v n with
  | .bad => .fail 4 pos
  | .more => short ended pos
  | .sym s used =>
    if s < 256 then
      if h.rawSize ≤ c.chunkOut then .fail 8 pos else .ok used (c.emit (BitVec.ofNat 8 s))
    else if s = 256 then endBlock h c used pos (pos + used)
    else if 285 < s then .fail 4 pos
    else
      let eb := lenExtra (s - 257)
      if n < used + eb then short ended (pos + used)
      else
        let len := lenBase (s - 257) + bitsOf v used eb
        let u := used + eb
        if h.rawSize < c.chunkOut + len then .fail 8 pos
        else
          match huffSym (distLens c) (v >>> u) (n - u) with
          | .bad => .fail 4 (pos + u)
          | .more => short ended (pos + u)
          | .sym d du =>
            if 29 < d then .fail 4 (pos + u)
            else if n < u + du + distExtra d then short ended (pos + u + du)
            else
              let dist := distBase d + bitsOf v (u + du) (distExtra d)
              if c.hist.length < dist then .fail 5 (pos + u)
              else .ok (u + du + distExtra d) { c with phase := .matchCopy, pendLen := len, pendDist := dist }

/-- R89, phase 6: one byte of a match. -/
def elMatch (c : Ctx) : ElRes :=
  let c' := c.emit (c.hist.getD (c.pendDist - 1) 0)
  if c.pendLen ≤ 1 then .ok 0 { c' with phase := .coded, pendLen := 0, pendDist := 0 }
  else .ok 0 { c' with pendLen := c.pendLen - 1 }

/-- R82: one byte of a raw copy. -/
def elRaw (h : DcfHdr) (ended : Bool) (c : Ctx) (v n pos : Nat) : ElRes :=
  if n < 8 then short ended pos
  else
    let c := c.emit (BitVec.ofNat 8 v)
    .ok 8 (if c.chunkOut = h.rawSize then { c with phase := .finished } else c)

/-- R81: one element of the chunk in progress; v holds n bits present, the next in bit 0; pos is its payload bit. -/
def element (h : DcfHdr) (ended : Bool) (c : Ctx) (v n pos : Nat) : ElRes :=
  match c.phase with
  | .between => .more
  | .header => .more
  | .blockHdr => elBlockHdr h ended c v n pos
  | .dynHdr => elDynHdr ended c v n pos
  | .stored => if c.rawCopy then elRaw h ended c v n pos else elStored h ended c v n pos
  | .coded => elCoded h ended c v n pos
  | .matchCopy => elMatch c
  | .finished => .more

/-- Why the decoder stopped. -/
inductive DecStop where
  /-- input runs out (R88) -/
  | input
  /-- the output buffer is full (R88) -/
  | full
  /-- end of the chunk -/
  | done
  | failed (reason bit : Nat)
deriving DecidableEq, Repr

/-- R88, R89: elements are taken until input runs out, `room` bytes have been produced, or the chunk ends. Returns
the context, the bits left (value, count) and why it stopped. -/
def decodeRun (h : DcfHdr) (ended : Bool) (limit : Nat) : Nat → Ctx → Nat → Nat → Nat → Ctx × Nat × Nat × DecStop
  | 0, c, v, n, _ => (c, v, n, .full)
  | fuel + 1, c, v, n, pos =>
    if c.phase = .finished then (c, v, n, .done)
    else if limit ≤ c.chunkOut then (c, v, n, .full)
    else
      match element h ended c v n pos with
      | .more => (c, v, n, .input)
      | .fail r b => (c, v, n, .failed r b)
      | .ok used c' => decodeRun h ended limit fuel c' (v >>> used) (n - used) (pos + used)

end Sys2Proof.Machine
end

