-- ==== Sys2Proof/Machine/Line.lean ====
section
/-! DEFINITION. The Pennant link's wire formats (ch. 7: ordered sets, tick frames, block frames, back-channel messages)
and the line code of ch. 8 (R214 to R216, R233, R234). -/

namespace Sys2Proof.Machine

/-! ### Ordered sets and messages (R182, R194) -/

/-- A byte string cut or filled with zeros to n bytes. -/
def padTo (n : Nat) (b : Bytes) : Bytes := (b ++ zeros n).take n

/-- R182, R194: an ordered set or back-channel message: type, 13 bytes, CRC-16 of bytes 0 to 13. -/
def orderedSet (typ : Nat) (body : Bytes) : Bytes :=
  let m := toBE 1 typ ++ padTo 13 body
  m ++ toBE 2 (crc16 m)

/-- R182, R194: 16 bytes whose CRC-16 holds. -/
def setGood (b : Bytes) : Bool := decide (b.length = 16) && decide (beAt b 14 2 = crc16 (b.take 14))

/-- R183: data blocks of a tick frame with z ZERO blocks. -/
def frameBlocks (z : Nat) : Nat := cdiv (32 + 268 * (16 - z) + 12 * z) 16

/-- Number of set bits of a mask below n. -/
def popcount (m n : Nat) : Nat := (setBits m n).length

/-- Table 7.1: SOF. -/
def sofSet (n zeroMap : Nat) : Bytes :=
  orderedSet 0x02 (toBE 5 n ++ toBE 2 (frameBlocks (popcount zeroMap 16)) ++ toBE 2 zeroMap)

/-- Table 7.1: data blocks that follow an RPL. -/
def rplBlocks (hdr : Bool) (unitMap : Nat) : Nat := cdiv (32 * b2n hdr + 268 * popcount unitMap 16) 16

/-- Table 7.1: RPL. -/
def rplSet (n unitMap : Nat) (hdr : Bool) : Bytes := orderedSet 0x03 (toBE 5 n ++ toBE 2 unitMap ++ toBE 1 (b2n hdr))

/-- Table 7.1: TICK. -/
def tickSet (n delay tau : Nat) (first last cal : Bool) : Bytes :=
  orderedSet 0x04 (toBE 5 n ++ toBE 2 delay ++ toBE 2 (tau % 8192) ++ toBE 1 (b2n first + 2 * b2n last + 4 * b2n cal))

/-- Table 7.1: CONFIG. -/
def configSet (t variant guard_ fw : Nat) : Bytes :=
  orderedSet 0x05 (toBE 1 (t % 64) ++ toBE 1 variant ++ toBE 1 guard_ ++ toBE 2 800 ++ toBE 2 6400 ++ toBE 2 fw)

/-- Table 7.1: STATUS_REQ. -/
def statusReqSet : Bytes := orderedSet 0x06 []

/-- Table 7.1: LAT_PROBE. -/
def latProbeSet (id : Nat) : Bytes := orderedSet 0x07 (toBE 1 id)

/-- Table 8.1: ADAPT_CHECK. -/
def adaptCheckSet (no : Nat) (freeze : Bool) : Bytes := orderedSet 0x08 (toBE 2 no ++ toBE 1 (b2n freeze))

/-- Table 8.1: TRAIN_START. -/
def trainStartSet (reason : Nat) : Bytes := orderedSet 0x10 (toBE 1 reason)

/-- Table 8.1: TEST_START. -/
def testStartSet (code durUs : Nat) : Bytes := orderedSet 0x11 (toBE 1 code ++ toBE 4 durUs)

/-! ### Tick frames (R183 to R186) -/

/-- Table 7.2: the tick header. -/
def tickHeader (n seq t dir : Nat) (cal last first resync : Bool) : Bytes :=
  let m := toBE 5 n ++ toBE 3 seq ++ toBE 1 (t % 64) ++
    toBE 1 (dir % 2 * 16 + b2n cal * 8 + b2n last * 4 + b2n first * 2 + b2n resync) ++ zeros 18
  m ++ toBE 4 (crc32c m)

/-- Table 7.4: block kinds. -/
inductive BlkKind where
  | dose | zero | replay | cal
deriving DecidableEq, Repr

def kindCode : BlkKind → Nat
  | .dose => 1 | .zero => 2 | .replay => 3 | .cal => 4

/-- Table 7.3: a block frame's header. -/
def blockHeader (blk n : Nat) (kind : BlkKind) (dk1 monitor origCal : Bool) (attempt : Nat) : Bytes :=
  toBE 2 (blk * 64 + kindCode kind * 4) ++ toBE 1 (n % 256) ++
    toBE 1 (b2n dk1 * 128 + b2n monitor * 64 + b2n origCal * 32 + attempt % 4 * 8) ++ zeros 4

/-- R184, R185: a block frame: header, codes (none for ZERO), CRC-32C over the tick number and both. -/
def blockFrame (blk n : Nat) (kind : BlkKind) (dk1 monitor origCal : Bool) (attempt : Nat) (codes : List Nat) : Bytes :=
  let body := blockHeader blk n kind dk1 monitor origCal attempt ++
    (if kind = .zero then [] else codes.map (fun c => BitVec.ofNat 8 c))
  body ++ toBE 4 (crc32c (toBE 5 n ++ body))

/-- R236: a block frame whose crc is inverted. -/
def corruptCrc (f : Bytes) : Bytes :=
  f.take (f.length - 4) ++ (f.drop (f.length - 4)).map (fun b => b ^^^ 0xFF#8)

/-! ### The line code (R214 to R216) -/

/-- The eight bits of a byte, least significant first. -/
def byteBits (b : Byte) : List Bool := (List.range 8).map (fun i => b.toNat.testBit i)

/-- R214: a block of 130 bits: sync header (control 1 0, data 0 1) and 128 payload bits. -/
def lineBlock (control : Bool) (b : Bytes) : List Bool × List Bool :=
  ([control, !control], (padTo 16 b).flatMap byteBits)

/-- R215: one step of the self-synchronising scrambler 1 + x^39 + x^58; `h` holds the last 58 line bits, newest first. -/
def scrambleBit (h : List Bool) (d : Bool) : Bool := xor d (xor (h.getD 38 false) (h.getD 57 false))

/-- R215: scramble payload bits; the history of line bits goes on across blocks. -/
def scramble : List Bool → List Bool → List Bool
  | _, [] => []
  | h, d :: ds => scrambleBit h d :: scramble ((scrambleBit h d :: h).take 58) ds

/-- R215: descramble line bits. -/
def descramble : List Bool → List Bool → List Bool
  | _, [] => []
  | h, x :: xs => xor x (xor (h.getD 38 false) (h.getD 57 false)) :: descramble ((x :: h).take 58) xs

/-- R216: Gray mapping of a bit pair, first bit most significant, to a PAM4 level. -/
def gray (a b : Bool) : Nat := if a then (if b then 2 else 3) else (if b then 1 else 0)

/-- R216: the outbound bit stream in PAM4 symbols. -/
def symbols : List Bool → List Nat
  | a :: b :: rest => gray a b :: symbols rest
  | _ => []

/-- R215: the last 58 line bits after a run of them, newest first. -/
def lineTail (h bits : List Bool) : List Bool := (bits.reverse ++ h).take 58

/-- R214 to R216: a block on the outbound pair after line bits `h`: its PAM4 levels, and the line bits to go on from. -/
def encodeBlock (h : List Bool) (control : Bool) (b : Bytes) : List Nat × List Bool :=
  let blk := lineBlock control b
  let bits := scramble h blk.2
  (symbols (blk.1 ++ bits), lineTail h bits)

/-- R217: n idle data blocks, 16 zero bytes each. -/
def encodeIdle : Nat → List Bool → List Nat × List Bool
  | 0, h => ([], h)
  | n + 1, h =>
    let a := encodeBlock h false (zeros 16)
    let r := encodeIdle n a.2
    (a.1 ++ r.1, r.2)

/-- R233: one step of the PRBS31 generator x^31 + x^28 + 1; the last 31 bits, newest first. -/
def prbs31Next (h : List Bool) : Bool := xor (h.getD 30 false) (h.getD 27 false)

/-- R233: one step of the PRBS13 generator x^13 + x^12 + x^2 + x + 1. -/
def prbs13Next (h : List Bool) : Bool :=
  xor (xor (h.getD 12 false) (h.getD 11 false)) (xor (h.getD 1 false) (h.getD 0 false))

/-- R234: a checker: bits to load still, generator bits (newest first), whether synced, errorless run, errors in the
running window of 1,024 bits, errors and bits counted. -/
structure Checker where
  loading : Nat
  gen : List Bool
  synced : Bool
  good : Nat
  window : List Bool
  errors : Nat
  bits : Nat
deriving DecidableEq, Repr

/-- R234: a checker starting to synchronise on a generator of n bits. -/
def Checker.start (n errors bits : Nat) : Checker := ⟨n, [], false, 0, [], errors, bits⟩

/-- R234: one received bit. `n` is the generator length, `next` its feedback. -/
def Checker.bit (n : Nat) (next : List Bool → Bool) (c : Checker) (b : Bool) : Checker :=
  if 0 < c.loading then { c with loading := c.loading - 1, gen := (b :: c.gen).take n }
  else
    let p := next c.gen
    let err := b != p
    let g := (p :: c.gen).take n
    if !c.synced then
      if err then Checker.start n c.errors c.bits
      else { c with gen := g, good := c.good + 1, synced := decide (1024 ≤ c.good + 1) }
    else
      let win := (err :: c.window).take 1024
      let c := { c with
        gen := g, window := win, errors := Nat.min (c.errors + b2n err) 0xFFFFFFFF, bits := c.bits + 1 }
      if 64 ≤ win.countP (fun e => e) then Checker.start n c.errors c.bits else c

/-- R234: a checker over a run of bits. -/
def Checker.run (n : Nat) (next : List Bool → Bool) (c : Checker) (bs : List Bool) : Checker := bs.foldl (Checker.bit n next) c

/-- n bits of a value that are not all 0, newest first: the state a transmitter sets (R215). -/
def seedBits (n v : Nat) : List Bool := (List.range n).map (fun i => (v % (2 ^ n - 1) + 1).testBit i)

/-- R233: the first bits of a pattern: PRBS31, or PRBS13. -/
def patternBits (prbs31 : Bool) : Nat → List Bool → List Bool
  | 0, _ => []
  | k + 1, h =>
    let b := if prbs31 then prbs31Next h else prbs13Next h
    b :: patternBits prbs31 k ((b :: h).take (if prbs31 then 31 else 13))

/-- R216, R233: the levels of a pattern on the outbound pair: unscrambled, without sync headers, Gray-mapped. -/
def patternLevels (prbs31 : Bool) (k : Nat) (h : List Bool) : List Nat := symbols (patternBits prbs31 (2 * k) h)

/-- R236: a bit string with runs of bits (first, how many) inverted. -/
def invertRuns (runs : List (Nat × Nat)) (bits : List Bool) : List Bool :=
  (List.range bits.length).map (fun i =>
    runs.foldl (fun b r => xor b (decide (r.1 ≤ i) && decide (i < r.1 + r.2))) (bits.getD i false))

/-! ### What a lane's outbound pair carries (R180, R181, R214 to R217, R219) -/

/-- R180, R181: a block planned for the pair of a lane: the instant at which it begins to arrive at the receiver, in ninths of a ps (a
block lasts 20,800 of them, R216), whether it is a control block, its 16 bytes, and whether its instant is fixed (a TICK, R204). -/
structure LineBlk where
  at9 : Nat
  control : Bool
  body : Bytes
  fixed : Bool
deriving DecidableEq, Repr

/-- What the pair has carried. -/
inductive LineRun where
  /-- idle data blocks and then a block, as PAM4 levels -/
  | blocks (levels : List Nat)
  /-- from here on a pattern: PRBS31 or PRBS13Q, the generator's bits, newest first -/
  | pattern (prbs31 : Bool) (gen : List Bool)
  /-- bits of the running pattern inverted: the first one's number, how many (R236) -/
  | inverted (first count : Nat)
  /-- electrical idle -/
  | quiet
deriving DecidableEq, Repr

/-- The outbound pair of a lane, and what the DK1 sees of its back channel: the scrambler (the last 58 payload bits on the line, newest
first), the end of the last block (ninths of a ps, at the receiver), blocks planned in order of time, the end of the replay run on the
line, what has been carried (newest first), the magnitude of the main tap (R223), and the last 64 sync headers of the back channel,
true for a valid one (R225). (log 17) -/
structure TxLine where
  scr : List Bool
  end9 : Nat
  plan : List LineBlk
  runEnd9 : Nat
  carried : List LineRun
  main : Nat
  heads : List Bool
deriving DecidableEq, Repr

def TxLine.init : TxLine := ⟨[], 0, [], 0, [], 64, []⟩

/-- A block lasts 20,800 ninths of a ps (R216). -/
abbrev blk9 : Nat := 20800

/-- R214 to R217: a block goes onto the line after as many idle data blocks as the time before it holds. -/
def TxLine.carry (l : TxLine) (x : LineBlk) : TxLine :=
  let idle := encodeIdle ((x.at9 - l.end9) / blk9) l.scr
  let blk := encodeBlock idle.2 x.control x.body
  { l with scr := blk.2, end9 := x.at9 + blk9, carried := .blocks (idle.1 ++ blk.1) :: l.carried }

/-- The planned blocks that have begun by an instant go onto the line. -/
def TxLine.commit (l : TxLine) (now9 : Nat) : TxLine :=
  (l.plan.takeWhile (fun x => decide (x.at9 < now9))).foldl TxLine.carry
    { l with plan := l.plan.dropWhile (fun x => decide (x.at9 < now9)) }

/-- R181: the blocks with a fixed instant that come before a block which could begin at `want`, those left, and when the line is free. -/
def flowFixed (cur want : Nat) : List LineBlk → List LineBlk × List LineBlk × Nat
  | [] => ([], [], cur)
  | f :: fs =>
    if f.at9 < Nat.max cur want + blk9 then
      let a := Nat.max cur f.at9
      let r := flowFixed (a + blk9) want fs
      ({ f with at9 := a } :: r.1, r.2)
    else ([], f :: fs, cur)

/-- R181: blocks in their order, each no earlier than planned, around the blocks with a fixed instant. -/
def flow (cur : Nat) (fs : List LineBlk) : List LineBlk → List LineBlk
  | [] => fs
  | m :: ms =>
    let r := flowFixed cur m.at9 fs
    let a := Nat.max r.2.2 m.at9
    r.1 ++ { m with at9 := a } :: flow (a + blk9) r.2.1 ms

/-- R181: where blocks are put: ahead of the data blocks still to come (a replay run, an ordered set), after everything planned (a
frame), or at their own instants (a TICK). -/
inductive LinePlace where
  | front | back | fixed
deriving DecidableEq, Repr

/-- R181: put blocks on the line: the line after it, and (old, new) instants of the planned blocks that have moved. -/
def TxLine.put (l : TxLine) (place : LinePlace) (bs : List LineBlk) : TxLine × List (Nat × Nat) :=
  let fs := l.plan.filter (fun x => x.fixed)
  let ms := l.plan.filter (fun x => !x.fixed)
  let plan := match place with
    | .front => flow l.end9 fs (bs ++ ms)
    | .back => flow l.end9 fs (ms ++ bs)
    | .fixed => flow l.end9 (fs ++ bs) ms
  let now := plan.filter (fun x => !x.fixed)
  let mine := match place with
    | .front => now.drop bs.length
    | _ => now.take ms.length
  ({ l with plan := plan }, ((ms.zip mine).map (fun q => (q.1.at9, q.2.at9))).filter (fun q => decide (q.1 ≠ q.2)))

/-- A new instant, where the list of moves names the old one. -/
def moved (moves : List (Nat × Nat)) (end9 : Nat) : Nat :=
  ((moves.find? (fun q => q.1 + blk9 = end9)).map (fun q => q.2 + blk9)).getD end9

/-- The blocks of a unit's bytes, the first one at an instant. -/
def dataBlocks (at9 : Nat) (b : Bytes) : List LineBlk :=
  (List.range (cdiv b.length 16)).map (fun i => ⟨at9 + i * blk9, false, padTo 16 (b.drop (16 * i)), false⟩)

end Sys2Proof.Machine
end

