-- ==== Sys2Proof/Machine/State.lean ====
section
/-! DEFINITION. The state of the DK1 as plain data (every piece the spec names; INVENTORY.md lists the rule of each),
the reasons a step could stop, and the state right after power-on. -/

namespace Sys2Proof.Machine

/-- No command of the model ends in a fault: the block has no exception and nothing in the spec stops it. The one
constructor is raised by nobody (safe). -/
inductive Fault where
  /-- Raised by no command (safe). -/
  | none
deriving DecidableEq, Repr

/-- A command without a meaning. -/
inductive Refusal where
  /-- Raised by the arms of exec whose meaning is not written (safe). -/
  | notModelled (mnemonic : String)
deriving DecidableEq, Repr

/-- R409: one data item of an event: a 4-byte word, or an 8-byte word when wide. -/
structure EvWord where
  wide : Bool
  val : Nat
deriving DecidableEq, Repr

/-- Table 15.9: an event entry. -/
structure EvtEntry where
  index : Nat
  sec : Nat
  ns : Nat
  code : Nat
  tick : Nat
  seq : Nat
  data : List EvWord
deriving DecidableEq, Repr

/-- R410: a subscriber: its source, the index up to which it has acknowledged (exclusive), the time it last did, and
the DK1's own count of EVENT messages to it. -/
structure Subscriber where
  src : Src
  acked : Nat
  lastAck : Nat
  count : Nat
deriving DecidableEq, Repr

/-- R409, R410: the event ring (newest first), the retained tail (newest first) and the subscribers. -/
structure EvtState where
  ring : List EvtEntry
  tail : List EvtEntry
  ackedAll : Nat
  subs : List Subscriber
  lastSend : Nat
deriving DecidableEq, Repr

/-- R413: the values the HKC holds, by register address, and the changes the data path made that it has not told. -/
structure Hkc where
  held : Tab Nat
  late : List (Nat × List EvWord)
  alive : Nat
deriving DecidableEq, Repr

/-- R394: the responses kept for one source, newest first: request seq and response message. -/
structure DmpKept where
  src : Src
  kept : List (Nat × Bytes)
deriving DecidableEq, Repr

/-- Table 15.6, R402: operation states. -/
inductive OpSt where
  | running | suspending | suspended | done | failed | cancelled | waiting
deriving DecidableEq, Repr

/-- R401, R402: a long operation. Its slot (0 to 7), operands, how far it is, whether a cancel is under way, and the bytes
it programs into NVM (R340, R405) or the context image it stores (R94). -/
structure LongOp where
  handle : Nat
  kind : Nat
  st : OpSt
  result : Nat
  permille : Nat
  slot : Nat
  arg : Nat
  pos : Nat
  cancelling : Bool
  image : Bytes
deriving DecidableEq, Repr

/-- R401: operations in slots, and the finished operations still readable (newest first, 64). -/
structure OpState where
  slots : List LongOp
  done : List LongOp
  next : Nat
deriving DecidableEq, Repr

/-- R29, R30, R396 to R400: what the job keeps besides its registers. -/
structure JobState where
  /-- last number consumed plus one (R29) -/
  nextSeq : Nat
  lastLayer : Option Nat
  firstLayer : Option Nat
  /-- slots_m1 by layer (R60) -/
  slotsM1 : List (Nat × Nat)
  /-- the tick number of the next tick launched (R30) -/
  nextTick : Nat
  suspendPending : Bool
  cancelPending : Bool
  /-- 0x0801 already raised for the job (R328) -/
  noWindowTold : Bool
deriving DecidableEq, Repr

/-- R422, R429: by port, the IPv6 address in force (0: none), and the multicast groups joined (0: none). -/
structure NetState where
  ip6 : List Nat
  group4 : List Nat
  group6 : List Nat
deriving DecidableEq, Repr


/-- What has arrived on a stream, in order, and is not yet decoded. -/
inductive InItem where
  /-- the SYNC that opened the stream, with its stream type -/
  | opened (typ : Nat)
  /-- a DATA payload with its chunk_start flag -/
  | seg (start : Bool) (data : Bytes)
  /-- the FIN that closed it -/
  | fin
deriving DecidableEq, Repr

/-- The fate of one chunk: its raw payload, or the event that refused it. -/
inductive ChunkRes where
  | pass (raw : Bytes)
  | fail (code : Nat)
deriving DecidableEq, Repr

/-- R94: a save slot: the type 0x07 chunk of the image, the output of the chunk in progress that lies in the spool beside it, and
whether it is valid. -/
structure SaveSlot where
  chunk : Bytes
  staged : Bytes
  good : Bool
deriving DecidableEq, Repr

/-- R46 to R55, R76 to R95: one of the 16 stream contexts. -/
structure DstStream where
  opened : Bool
  typ : Nat
  /-- stream type of what the decoder takes now -/
  decTyp : Nat
  job : Nat
  synSeq : Nat
  /-- ack base A -/
  ackA : Nat
  /-- window last advertised -/
  win : Nat
  /-- segments accepted beyond A: sequence, chunk_start, payload -/
  held : List (Nat × Bool × Bytes)
  sinceAck : Nat
  oldestUnacked : Option Nat
  reorder : Option Nat
  lastNak : Option (Nat × Nat)
  finSeq : Option Nat
  closedBy : Option (Nat × Nat)
  peer : Src
  echo : Nat
  lastJobDrop : Option Nat
  rx : List InItem
  cur : Bytes
  got : Nat
  ctx : Ctx
  skipping : Bool
  finalSeen : Bool
  /-- a chunk judged behind the one in progress has been refused: the history is unavailable when that one ends (R86) -/
  lost : Bool
  frozen : Bool
  lastDesc : Option Nat
  holding : Bool
  heldChunks : List (DcfHdr × ChunkRes)
  saveOut : Option SaveSlot
  checkpoint : Option SaveSlot
deriving DecidableEq, Repr

def noSrc : Src := ⟨0, false, 0, 0, 0⟩

/-- R54: a closed stream. -/
def DstStream.closed : DstStream :=
  { opened := false, typ := 0, decTyp := 0, job := 0, synSeq := 0, ackA := 0, win := 128, held := [], sinceAck := 0,
    oldestUnacked := none, reorder := none, lastNak := none, finSeq := none, closedBy := none, peer := noSrc, echo := 0,
    lastJobDrop := none, rx := [], cur := [], got := 0, ctx := Ctx.fresh, skipping := false, finalSeen := false,
    lost := false, frozen := false, lastDesc := none, holding := false, heldChunks := [], saveOut := none, checkpoint := none }

/-- The streams; the stream served last (R88); streams whose image is being written a second time (R94); firmware bytes staged
by stream, and the streams whose image is complete (R405). -/
structure CodecState where
  streams : List DstStream
  lastServed : Nat
  ctxRetry : List Nat
  fwStage : Tab Bytes
  fwFull : List Nat
deriving DecidableEq, Repr

/-- Table 5.3: one admitted part of a seed. -/
structure SeedPart where
  use : Nat
  part : Nat
  parts : Nat
  x0 : Int
  cols : Nat
  y0 : Int
  rows : Nat
  cells : List Nat
deriving DecidableEq, Repr

/-- Table 2.9: stripe states. -/
inductive StripeSt where
  | pending | admitted | armed | exposing | done | refused
deriving DecidableEq, Repr

/-- Table 2.5: the descriptor of a stripe. -/
structure Desc where
  seq : Nat
  layer : Nat
  slot : Nat
  slotsM1 : Nat
  yOrigin : Int
  dir : Nat
  lenM1 : Nat
  tau : Nat
  geomKib : Nat
  seedUnder : Bool
  seedRight : Bool
  seedLeft : Bool
deriving DecidableEq, Repr

/-- R144: a set of PEC parameters: mode, iterations, enabled kernels, F_base, weights (4 and under), 10 tables of 129. -/
structure PecParams where
  mode : Nat
  iter : Nat
  kEn : Nat
  fBase : Nat
  weights : List Nat
  weightU : Nat
  tabs : Tab Nat
deriving DecidableEq, Repr

/-- R157: the column table entry of one pixel column. -/
structure ColEntry where
  /-- beam state of each pass, 0 live, 1 dead, 2 stuck-open, 3 masked (R155, R156) -/
  states : List Nat
  gains : List Nat
  live : Nat
  stuck : Int
deriving DecidableEq, Repr

/-- R177, R320, R324, R406: what a stripe latches at its arm point. -/
structure ArmLatch where
  rp : Nat
  nominal : Nat
  posComp : Bool
  expose : Nat
  recMode : Nat
  shift : Nat
  tlogMode : Nat
  cols : List ColEntry
  trims : Tab Nat
deriving DecidableEq, Repr

/-- A stripe the DK1 knows: queue, layer memory and results (R57 to R71, R130 to R151, R252, R314 to R320). -/
structure Stripe where
  d : Desc
  st : StripeSt
  stream : Nat
  budget : Nat
  bands : Tab Band
  rawSum : Nat
  /-- density by cell row (R130) -/
  dens : Tab (List Nat)
  /-- bands whose density is stored (R131) -/
  densDone : List Nat
  /-- bands whose fetch failed, with the time of the retry (R134) -/
  densRetry : List (Nat × Nat)
  seeds : List SeedPart
  /-- pending first_tick (ns), R252 -/
  firstTick : Option Nat
  /-- latched PEC parameters once the F map has started (R144) -/
  fParams : Option PecParams
  /-- F by cell row + 1; each row holds cells −1 to W_c (R129); then cells substituted by zero (under-layer, column, row) from a row
  of the map on, by its number (R151) -/
  fRows : Tab (List Nat)
  fSubst : List (Bool × Int × Int × Nat)
  latch : Option ArmLatch
  nFirst : Nat
  fixed : Nat
  computed : Nat
  launched : Nat
  /-- time of stripe tick 0 in ns, once armed -/
  t0 : Nat
  truncated : Bool
  recFallback : Bool
  /-- dynamic codec effort latched at the first tick (R100, R103) -/
  dynRec : Bool
  told : List Nat
  sigDone : Bool
deriving DecidableEq, Repr

/-- R58, R59: a descriptor waiting: its stream, its descriptor, and the time its hold ends (none: it waits for queue
room). -/
structure HeldDesc where
  stream : Nat
  raw : Bytes
  hdr : DcfHdr
  seq : Nat
  due : Option Nat
deriving DecidableEq, Repr

/-- Admission (ch. 2): stripes known, waiting descriptors, held seed chunks (stream, band ID, payload; oldest first), bands
waiting for the coarse renderer in order of admission (R131). -/
structure SieveState where
  stripes : List Stripe
  held : List HeldDesc
  seeds : List (Nat × Nat × Bytes)
  densQ : List (Nat × Nat)
deriving DecidableEq, Repr

/-- R112: a window segment: 256 values (P as 0 to 255, ρ as −8 to 7) and the stored CRC-16. -/
structure WinSeg where
  data : List Int
  crc : Nat
deriving DecidableEq, Repr

/-- R25, R112, R271, R272: the dose window by slot, plane and segment; spare rows used per bank, remapped and waiting
rows; segments whose failure has been told (R122, R174). -/
structure Window where
  segs : Tab WinSeg
  sparesUsed : Tab Nat
  waiting : List (Nat × Nat)
  toldP : List (Nat × Nat × Nat)
  /-- segments whose stored check an injection has inverted (R427), by window key -/
  injected : List Nat
deriving DecidableEq, Repr

/-- R116 to R125: the render: stripe, lines gone over in scan order, re-render requests (line, segment, lines that may be complete
before it is served) per order of arrival, band flattened per slice. -/
structure RenderState where
  stripe : Option Nat
  lines : Nat
  rerender : List (Nat × Nat × Nat)
  flattened : List (Nat × Nat)
  /-- segments whose band records could not be fetched (R125) -/
  missing : List (Nat × Nat)
  /-- largest E of the lines rendered so far of the stripe -/
  edge : Nat
deriving DecidableEq, Repr

/-- Nothing is rendered. -/
def RenderState.init : RenderState := ⟨none, 0, [], [], [], 0⟩

/-- R144 to R150: the PEC engine: live parameter set, stripe whose map runs, rows done, rows to recompute. -/
structure PecState where
  live : PecParams
  stripe : Option Nat
  rows : Nat
  redo : List (Nat × Int)
deriving DecidableEq, Repr

/-- R166: the pre-shot ρ of one shot, the loss it added, and its pixel. -/
structure UndoEnt where
  x : Nat
  y : Nat
  rho : Int
  loss : Int
deriving DecidableEq, Repr

/-- Table 9.6: a tick log entry, with what the model keeps beside it: the time and period of the tick, whether the tick is
computed, launched and its TICK sent, lanes whose frame was withheld (R203), lanes that have resolved it, codes and
undo entries by block ID, calibration beams fired (lane, beam), blocks whose fate cannot be read (R268, R363). -/
structure TickEntry where
  n : Nat
  seq : Nat
  s : Nat
  excursion : Bool
  coast : Bool
  gapBlank : Bool
  fault : Bool
  cal : Bool
  final : Bool
  posComp : Bool
  dx : Int
  dy : Int
  rseq : Nat
  unconf : Nat
  dk1 : Nat
  rx : Nat
  time : Nat
  tau : Nat
  computed : Bool
  launched : Bool
  sent : Nat
  tickSent : Bool
  resolved : Nat
  codes : Tab (List Nat)
  undo : Tab (List UndoEnt)
  fired : List (Nat × Nat)
  unknown : Nat
  /-- blocks whose undo entry no longer passes its check (Table 10.1) -/
  badUndo : Nat
deriving DecidableEq, Repr

/-- R172: a loss-table entry: Λ and the report reasons gathered (bits of Table 6.3, byte 3). -/
structure LossEnt where
  lam : Int
  reasons : Nat
  /-- the entry's stored check no longer holds (Table 10.1) -/
  bad : Bool
deriving DecidableEq, Repr

/-- R174: a queued ρ rebuild: stripe, line, segment, the failing tick, and whether it runs. -/
structure Rebuild where
  seq : Nat
  y : Nat
  seg : Nat
  failTick : Nat
  started : Bool
deriving DecidableEq, Repr

/-- Tick log (newest first, R267), loss table by pixel key (R172), pixels reported early, rebuild queue (R174), record
values of the stripe (R318), flag bytes of its signature (R314). -/
structure ShotState where
  tlog : List TickEntry
  loss : Tab LossEnt
  early : List Nat
  rebuilds : List Rebuild
  vals : Tab Nat
  reports : List Bytes
  /-- pixel reports issued for the stripe in progress -/
  reportNo : Nat
  /-- cells of the stripe already counted in PEC_LATE (R147) -/
  lateCells : List (Int × Int)
  /-- segments of the stripe already counted in RENDER_LATE (R121) -/
  lateSegs : List (Nat × Nat)
deriving DecidableEq, Repr

/-- R259, R260: an accepted stage report with its arrival time (2^-16 ns, R244). -/
structure StageRep where
  seq : Nat
  time : Nat
  arrived : Nat
  xs : Int
  ys : Int
  vx : Int
  vy : Int
  fault : Bool
deriving DecidableEq, Repr

/-- R253, R259 to R263: reports accepted (newest first), the oldest of the eight that made the stage ready, and when
0x0216 was last raised; the offsets in force (R422). -/
structure StageState where
  reps : List StageRep
  readyFrom : Nat
  lastTold : Option Nat
  xoff : Int
  yoff : Int
deriving DecidableEq, Repr

/-- R258: a captured edge: local time in ns, rising. -/
structure CapEdge where
  time : Nat
  rising : Bool
deriving DecidableEq, Repr

/-- R256: a pulse unit: the settings in force and the time of its last rising edge. -/
structure PulseUnit where
  enable : Bool
  mode : Nat
  route : Nat
  everyK : Nat
  period : Nat
  phase : Nat
  width : Nat
  last : Option Nat
deriving DecidableEq, Repr

/-- Trigger and capture units (ch. 9). -/
structure TrigState where
  /-- FIFO of capture unit c, oldest first -/
  caps : List (List CapEdge)
  capTold : List (Option Nat)
  pulses : List PulseUnit
  /-- end of the dwell of the last stripe tick (ns), while a turnaround runs -/
  dwellEnd : Nat
  /-- stripe whose end starts the turnaround in progress -/
  endedStripe : Option Nat
  /-- start of the calibration window due (ns), R327 -/
  calStart : Option Nat
  /-- retraining slot of the turnaround: 0 none, 1 due, 2 running, 3 over (R231) -/
  slot : Nat
  /-- number of the next tick whose TICK_OUT pulse is to come (R254) -/
  tickOut : Nat
  /-- times of the edges unit 0 captured, newest first (R259) -/
  strobes : List Nat
  /-- the last step of the clock: its core cycle and the local time before it, in ns (Table 9.4) -/
  stepFrom : Option (Nat × Nat)
deriving DecidableEq, Repr

/-- R243 to R249: a foreign master. -/
structure Master where
  id : Nat
  prio1 : Nat
  cls : Nat
  acc : Nat
  variance : Nat
  prio2 : Nat
  steps : Nat
  sender : Nat
  times : List Nat
  interval : Int
deriving DecidableEq, Repr

/-- R245: an outstanding Delay_Req: sequence, t3, and the Sync that preceded it: complete (`pair`: t1, t2, cS) or waiting for its
Follow_Up (`sync`: sequence, t2, correction); `resp`: t4 and cD of the Delay_Resp that has come. Times in 2^-16 ns. -/
structure DelayReq where
  seq : Nat
  t3 : Int
  sync : Option (Nat × Int × Int)
  pair : Option (Int × Int × Int)
  resp : Option (Int × Int)
deriving DecidableEq, Repr

/-- R243 to R249: the PTP slave. -/
structure PtpState where
  masters : List Master
  master : Option Nat
  /-- Sync waiting for its Follow_Up: sequence, t2 in 2^-16 ns, correction -/
  sync : Option (Nat × Int × Int)
  /-- t1, t2, cS of the last complete Sync, 2^-16 ns -/
  lastPair : Option (Int × Int × Int)
  /-- outstanding Delay_Req -/
  req : Option DelayReq
  reqSeq : Nat
  reqLog : Int
  mpd : Option Int
  lastOffset : Option (Int × Nat)
  integ : Int
  badRun : Nat
  lastSync : Nat
  syncLog : Int
  /-- TIME_INC_HI value last written by the host (R242) -/
  incHi : Nat
deriving DecidableEq, Repr

/-- A spooled chunk of a record stream (R320 to R322): the segment of a record chunk and the line of the record part where it begins
(log 90), and the tick log entries a chunk of stream 2 carries, by ring key (R281). -/
structure Chunk where
  hdr : DcfHdr
  raw : Bytes
  payload : Bytes
  seg : Nat
  at_ : Nat
  keys : List Nat
deriving DecidableEq, Repr

/-- R267, R281: an entry of the tick-log spool in region 7: the number of the job it belongs to, its slot of 288 bytes, whether its
write still waits (R289), whether stream 2 still owes it to the host, whether its lines were lost. -/
structure RingEnt where
  load : Nat
  slot : Nat
  ent : TickEntry
  waits : Bool
  owed : Bool
  lost : Bool
deriving DecidableEq, Repr

/-- R322: one record stream: chunks not yet acknowledged, destination, sequence state as a DST sender. -/
structure RecStream where
  spool : List Chunk
  peer : Option Src
  ackA : Nat
  nextSeq : Nat
  window : Nat
  /-- segments sent and not acknowledged: sequence, send time, bytes, last of its chunk -/
  sent : List (Nat × Nat × Bytes × Bool)
  /-- segments of spooled chunks not yet sent: bytes, first of chunk, last of chunk -/
  queue : List (Bytes × Bool × Bool)
  chunkSeq : Nat
  lastAck : Nat
deriving DecidableEq, Repr

/-- Ch. 11: fault history, record streams, tick log spool, self-tests outstanding. -/
structure CheckState where
  hist : List (Location × Nat)
  faultClock : Nat
  /-- local time since the last tick launched, below 800 ns, in 2^-32 ns (R309) -/
  faultRest : Nat
  tests : List Location
  recs : List RecStream
  /-- final entries of stripes whose signatures are still to come, oldest first (R314) -/
  tlogSpool : List TickEntry
  /-- entries of stream 2 not yet in a chunk, oldest first -/
  tlogPart : List TickEntry
  /-- pixel reports not yet in a chunk, oldest first; chunk numbers of streams 1 and 2 in the stripe -/
  reportPart : List Bytes
  reportChunk : Nat
  tlogChunk : Nat
  /-- record mode dropped to signature-only until the record part is below half full (R320) -/
  fellBack : Bool
  /-- record chunks done of the stripe: (stripe, band · 32 + segment) -/
  recDone : List (Nat × Nat)
  /-- the tick-log spool of region 7, in order of writing (R281); jobs loaded so far, which tell its entries apart -/
  ring : List RingEnt
  loads : Nat
  /-- CHECK_CTRL.tlog_mode at the last arm point (R324) -/
  tlogMode : Nat
  /-- line of the record part at which the next record chunk begins -/
  recAt : Nat
deriving DecidableEq, Repr

/-- R327 to R330: a running calibration window. -/
structure CalWindow where
  start : Nat
  tau : Nat
  windowUs : Nat
  shots : Nat
  code : Nat
  alpha : Nat
  k : Nat
  jump : Nat
  dead : Nat
  bw : Nat
  cursor : Nat
  /-- calibration ticks launched -/
  fired : Nat
  /-- beams of the window: lane, rank position, beam, readings valid -/
  readings : List (Nat × Nat)
  seen : List (Nat × Nat)
  sweep : Bool
  cutAt : Option Nat
deriving DecidableEq, Repr

/-- Ch. 12: trim banks by beam (R334; absent entries read 0x3000_7000), the mirror, groups whose stored check is wrong,
session entries, prev_low and suspect per beam. -/
structure CalState where
  live : Tab Nat
  shadow : Tab Nat
  mirror : Tab Nat
  badGroups : List Nat
  badShadow : List Nat
  toldBad : List Nat
  badMirror : List Nat
  /-- live groups whose check an injection has inverted (R427) -/
  injected : List Nat
  session : List Nat
  prevLow : List Nat
  suspect : Tab Int
  window : Option CalWindow
  sweepLeft : Nat
  snapGen : Nat
deriving DecidableEq, Repr

/-- R199, R200: what a lane's replay buffer keeps of one tick: units acknowledged, waiting as candidates, and refused
(bits 0 to 15 blocks, bit 16 header), replays per unit, arrival (ps) of each unit's latest copy, arrival of the frame's
end (ps), whether an ACK has arrived or its timeout has passed, and the tick header sent. -/
structure ReplayTick where
  n : Nat
  acked : Nat
  cand : Nat
  refused : Nat
  counts : List Nat
  copies : List Nat
  frameEnd : Nat
  acks : Bool
  hdr : Bytes
deriving DecidableEq, Repr

/-- R233 to R239: a lane test: code, the core cycles at which its pattern begins and it ends, duration left (µs) for later turnarounds,
whether it was clipped, bits of the running pattern inverted (first, how many; R236). -/
structure LaneTest where
  code : Nat
  from_ : Nat
  endsAt : Nat
  leftUs : Nat
  clipped : Bool
  flips : List (Nat × Nat)
deriving DecidableEq, Repr

/-- R199 to R240: a lane, beside its registers. Times are core cycles (`now`). -/
structure Lane where
  /-- load sensed on how many consecutive probes (R219) -/
  hits : Nat
  /-- entry to the present state, or the first LAT_PROBE -/
  since : Nat
  /-- CONFIG sends, time of the last -/
  sends : Nat
  lastSend : Nat
  /-- end of the electrical-idle hold (R220, R226) -/
  hold : Option Nat
  /-- back-channel block lock held (Table 8.2) -/
  blockLock : Bool
  /-- last req_id applied (R222) -/
  lastReq : Option Nat
  /-- LAT_PROBEs sent: ID, time of the last symbol (ps) -/
  probes : List (Nat × Nat)
  /-- answers: round trip and loop flight (ps) (R207) -/
  flights : List (Nat × Nat)
  /-- loop flight and d_fwd in force (ps) -/
  loop : Nat
  dfwd : Nat
  /-- first tick number whose computation began after entry to ACTIVE belongs to service (R227) -/
  resync : Bool
  /-- credits consumed since ACTIVE (R202) -/
  spent : Nat
  replay : List ReplayTick
  /-- replays of each tick so far (R200) -/
  replays : List (Nat × Nat)
  /-- ADAPT_CHECK: next number, time of the last, answered, unanswered in a row, low seen (R228, R229) -/
  checkNo : Nat
  lastCheck : Nat
  answered : Bool
  misses : Nat
  lowSeen : Bool
  /-- retraining in the slot (R231) -/
  slot : Bool
  /-- times of unknown message types (R226) -/
  unknown : List Nat
  test : Option LaneTest
  /-- block frames still to corrupt (R236) -/
  corrupt : Nat
  /-- awaiting the STATUS reply of a takeover (R362) -/
  lastStatus : Option (Nat × Nat × Nat × Nat × Nat)
  /-- monitor-absent event raised for the job (R198) -/
  noMonTold : Bool
  /-- far_loop of the last CAPS accepted (R238) -/
  farLoop : Bool
  /-- guard of the last CONFIG (ns) (R205) -/
  guardNs : Nat
  /-- past the P6 limit in this start-up (R221) -/
  p6Told : Bool
deriving DecidableEq, Repr

/-- R276: a DRAM line: data (64 bytes, first byte most significant), region, generation, poison flag, stored CRC. -/
structure DramLine where
  data : Nat
  region : Nat
  gen : Nat
  poison : Bool
  crc : Nat
deriving DecidableEq, Repr

/-- R282: a Ladle entry: line, byte mask (bit i: byte i), data, time of its first write, the request that opened it with the
other requesters whose writes merged into it. -/
structure LadleEnt where
  line : Nat
  mask : Nat
  data : Nat
  since : Nat
  req : DramReq
deriving DecidableEq, Repr

/-- R294, R295: a training in progress on a subchannel: widened, whether an operation asked for it, the device temperature (°C) as it
began. -/
structure DramTrain where
  sc : Nat
  wide : Bool
  op : Bool
  temp : Int
deriving DecidableEq, Repr

/-- Ch. 10: DRAM contents and the scheduler. -/
structure DramState where
  /-- lines by λ; a line not listed is free: zero data, region 0, gen 0, good (log 6) -/
  lines : Tab DramLine
  /-- bank queues, oldest first, by 32·subchannel + bank (R286) -/
  queues : Tab (List DramReq)
  /-- requests waiting at their ports, oldest first (R286) -/
  ports : List DramReq
  /-- Ladle entries, oldest first (R282) -/
  ladle : List LadleEnt
  /-- open row + 1 by 32·subchannel + bank -/
  openRow : Tab Nat
  /-- bank last activated + 1 by subchannel (R287) -/
  lastAct : Tab Nat
  /-- slots used by class in the present rotation (R288) -/
  slots : Tab Nat
  /-- activate counts by bank: (row, count), newest first, at most 32 (R292) -/
  acts : Tab (List (Nat × Nat))
  /-- activates in the window by 16·subchannel + requester (R291) -/
  budget : Tab Nat
  /-- time 0x0308, 0x0301 was last raised -/
  toldAct : Option Nat
  toldRd : Option Nat
  /-- refreshes postponed by subchannel (R290) -/
  debt : Tab Nat
  /-- generation counters by region (R278) -/
  gens : Tab Nat
  /-- retired blocks: values of u[27:11] with their subchannel map (R302) -/
  retired : List Nat
  /-- the layout of the contents: none normal, some e degraded without subchannel e (R297) -/
  layout : Option Nat
  /-- lines whose stored check an injection has inverted (R427) -/
  injected : List Nat
  /-- rows waiting for repair, as Table 11.2 locations, oldest first (R301) -/
  repairs : List Nat
  /-- rows in the repair list of NVM (R301) -/
  listed : List Nat
  /-- a repair or a widened sweep already done in this turnaround -/
  repaired : Bool
  widened : Bool
  /-- time of the last training by subchannel (R294) -/
  trained : Tab Nat
  train : Option DramTrain
  /-- subchannels due -/
  due : List Nat
  /-- consecutive failed refetches by subchannel (R296) -/
  streak : Tab Nat
  /-- reads whose first check failed, oldest first: their refetch is at the head of its queue (R279) -/
  refetch : List DramReq
  /-- what each line of an allocation must read as: region and generation (R278); a line not listed is free -/
  allocs : Tab (Nat × Nat)
  /-- number of the next request (the model's own) -/
  nextTag : Nat
  /-- delay step and Vref step in force, by 10·subchannel + 2·byte lane + (0 read DQS, 1 write DQ) (R293) -/
  settings : Tab (Nat × Nat)
  /-- device temperature at the last training (°C), by subchannel (R294) -/
  temps : Tab Int
  /-- the layout that the next training puts in force (R297) -/
  chosen : Option Nat
  /-- requesters throttled in the present window, as 16·subchannel + requester (R291) -/
  throttled : List Nat
  /-- subchannels swept in the present turnaround (R294, R295) -/
  swept : List Nat
  /-- fences outstanding, oldest first: requester, numbers of its writes that were not yet in DRAM (R283) -/
  fences : List (Nat × List Nat)
  /-- Whisk: lines still to do of a full scrub operation; time of the last line -/
  scrubOp : Bool
  lastLine : Nat
  /-- Whisk's next trim check: bank in bit 0 (0 live), group above it (R299); time of the last check -/
  trimPos : Nat
  lastTrim : Nat
  /-- 0x0307 raised for the stripe -/
  panicTold : Bool
  /-- end of the activate window, time the tables were cleared -/
  actWindow : Nat
  actClear : Nat
deriving DecidableEq, Repr

/-- Ch. 13: the pair, beside its registers. -/
structure PairState where
  /-- 64b/66b block lock; a HELLO accepted since the link last went down (R353) -/
  lock : Bool
  hello : Bool
  /-- time of the last good frame, of the last HELLO sent -/
  lastGood : Nat
  lastHello : Nat
  /-- frames outstanding, oldest first: generation, frame (R355) -/
  store : List (Nat × PairFrame)
  /-- time of the last commit progress while frames are outstanding; start of resending without progress -/
  progress : Nat
  resending : Option Nat
  /-- link down for mirroring (R355) -/
  mirrorDown : Bool
  /-- standby: last generation committed, good frames waiting for earlier ones -/
  committed : Nat
  waiting : List PairFrame
  /-- last epoch received from the partner (R356) -/
  partnerEpoch : Nat
  /-- the partner's HELLO: synced, role, job, committed generation -/
  partnerSynced : Bool
  partnerRole : Nat
  /-- the module requests the active role (R347) -/
  request : Bool
  /-- no role again before the grant is removed (R370) -/
  lockout : Bool
  /-- a grant that found HALYARD_IN high, and since when (R362) -/
  refusedAt : Option Nat
  /-- takeover in progress: stripe interrupted -/
  takeover : Option Nat
  /-- standby: last TLOG_FIX and TLOG_FINAL committed, as stripe and stripe tick (R363) -/
  lastFix : Option (Nat × Nat)
  lastFinal : Option (Nat × Nat)
  /-- standby: trim pieces received and not yet installed; bank to install with its stripe (R357) -/
  trimIn : Tab Nat
  trimDue : Option (Nat × Tab Nat)
  trimHeld : Bool
  /-- standby: last POINTERS; checkpoint images mirrored, by stream -/
  pointers : Option Pointers
  ctx : Tab Bytes
  /-- synced when the link last went down, or at the grant: the stripe in progress can be resumed (R364, log 95) -/
  resumable : Bool
  /-- stripe from whose first tick every TLOG_FIX was committed (R367) -/
  syncFrom : Option Nat
  /-- revert: requested by this module, received from the partner; handover sent: stripe and time; release done at (R368) -/
  revertAsked : Bool
  revertGot : Bool
  handover : Option (Nat × Nat)
  released : Option Nat
  /-- unprotected until the next stripe's first tick (R359) -/
  protectFrom : Option Nat
  /-- lost the role with a stripe in progress, which runs on with its lanes idle (Table 13.5) -/
  runsOn : Bool
  /-- live bank and density maps sent to the partner since the link came up (R367) -/
  copied : Bool
  /-- probe for the round trip sent at (ps) (R360) -/
  probeAt : Option Nat
deriving DecidableEq, Repr

/-- Table 14.4: a reset history entry. -/
structure ResetEnt where
  upMs : Nat
  source : Nat
  reach : Nat
  phase : Nat
  merged : Bool
  inStartup : Bool
  tick : Nat
  seq : Nat
deriving DecidableEq, Repr

/-- Ch. 14: feeds, resets, start-up, the retained domain, NVM and the output contacts. -/
structure PowerState where
  /-- standby 3.3 V supply holds (R373); time it became good -/
  standby : Bool
  upFrom : Nat
  /-- hot-swap stages turned off by PG (R440) -/
  pgA : Bool
  pgB : Bool
  /-- reset sources asserted now, with their reach; deepest reach since ready; module held (R379) -/
  sources : List (Nat × Nat)
  deepest : Nat
  /-- level sources asserted since the module was last released (R379) -/
  seen : List Nat
  /-- P3 has begun: SVC_NVM_EN_N was high (R449) -/
  p3Begun : Bool
  /-- reach whose phases the start-up runs (R379, R380) -/
  running : Nat
  /-- start of the present phase and of the start-up -/
  phaseAt : Nat
  startAt : Nat
  /-- reset history, newest first (32) -/
  history : List ResetEnt
  /-- last stripe area (R374): job, stripe, tick, stripe tick, exposing -/
  lastJob : Nat
  lastSeq : Nat
  lastTick : Nat
  lastS : Nat
  exposing : Bool
  /-- lane counters: tick number of the last frame launched, by lane -/
  laneTicks : Tab Nat
  /-- checker that failed in P4 (retained) -/
  checkerId : Nat
  /-- boot record: slot of the last load, start-ups in a row without P8 -/
  bootSlot : Nat
  noReady : Nat
  /-- host scratch of the retained SRAM, by offset from 0x5000 -/
  scratch : Tab Byte
  /-- SPI NOR content; a byte not listed reads 0xFF (log 7) -/
  nvm : Tab Byte
  /-- SVC_NVM_EN_N held low (R449) -/
  svcLow : Bool
  /-- BLANK_ALL_N and HEARTBEAT_OUT levels, time of the last heartbeat edge -/
  blankHigh : Bool
  hbHigh : Bool
  hbEdge : Nat
  /-- the housekeeping controller no longer refreshes the heartbeat (R350) -/
  hbStale : Bool
  /-- fuse options of TICK_OUT (bits 1:0), CYCLE_OUT (3:2), ALERT_N (5:4): 0 low, 1 high impedance, 2 weak pull-down (Table 14.11) -/
  fusePins : Nat
  /-- refused block resets and bad keys seen (counts the spec gives no register) -/
  badKeys : Nat
deriving DecidableEq, Repr

/-- What the DK1 sends or drives; the state keeps the trace, newest first. -/
inductive Out where
  /-- a UDP datagram from a port of the DK1 -/
  | udp (srcPort : Nat) (dest : Src) (payload : Bytes)
  /-- another Ethernet frame: port, EtherType or IP protocol, link-layer destination, content -/
  | frame (port kind dest : Nat) (payload : Bytes)
  /-- bytes on the forward pair of a lane, with the local time of their arrival at the receiver (ps) -/
  | lane (t time : Nat) (payload : Bytes)
  /-- a frame on the pair link -/
  | pair (b : Bytes)
  /-- a pulse on a contact: contact, local time in 2^-6 ns, width in ns -/
  | pulse (contact time width : Nat)
  /-- a PTP Delay_Req: port, transport (Table 9.1), domain, sequence -/
  | delayReq (port transport domain seq : Nat)
  /-- an SMBus read answer -/
  | smbus (payload : Bytes)
deriving DecidableEq, Repr

/-- The whole state of the DK1. -/
structure State where
  /-- commands waiting, first in first out -/
  pending : List Instr
  /-- what the DK1 has sent, newest first (the model's own, log 4) -/
  out : List Out
  /-- core cycles (ns) since the standby supply became good (R373) -/
  now : Nat
  /-- local clock in 2^-32 ns (R241) -/
  clk : Nat
  /-- counter behind the free values (the model's own, log 3) -/
  freeCnt : Nat
  /-- register fields that differ from their reset value, by field key (R430) -/
  regs : Tab Nat
  /-- latched register groups per reader (R421) -/
  latches : List (Src × Tab Nat)
  /-- events (R409, R410) -/
  evt : EvtState
  /-- the housekeeping controller's view (R413) -/
  hkc : Hkc
  /-- kept responses (R394), most recent source first -/
  dmp : List DmpKept
  /-- long operations (R401) -/
  ops : OpState
  /-- network addresses and groups in force (R422, R429) -/
  net : NetState
  /-- the job (R29, R30, R396) -/
  job : JobState
  /-- streams and decode engines (ch. 2, 3) -/
  codec : CodecState
  /-- admission (ch. 2) -/
  sieve : SieveState
  /-- the dose window (ch. 4) -/
  win : Window
  /-- rendering (ch. 4) -/
  render : RenderState
  /-- dose correction (ch. 5) -/
  pec : PecState
  /-- tick log, loss table, rebuilds, record values (ch. 6, 9, 11) -/
  shot : ShotState
  /-- stage reports (ch. 9) -/
  stage : StageState
  /-- triggers, captures, turnaround (ch. 9) -/
  trig : TrigState
  /-- the PTP slave (ch. 9) -/
  ptp : PtpState
  /-- integrity (ch. 11) -/
  check : CheckState
  /-- calibration and trims (ch. 12) -/
  cal : CalState
  /-- lanes by number (ch. 7, 8); a lane not listed is as Lane.init -/
  lanes : Tab Lane
  /-- outbound pairs of the lanes by number (R214 to R217) -/
  tx : Tab TxLine
  /-- DRAM and its scheduler (ch. 10) -/
  dram : DramState
  /-- the pair (ch. 13) -/
  pair : PairState
  /-- feeds, resets, start-up, retained domain, NVM, contacts (ch. 14) -/
  power : PowerState
deriving DecidableEq, Repr

def EvtState.init : EvtState := ⟨[], [], 0, [], 0⟩

def NetState.init : NetState := ⟨[0, 0, 0], [0, 0, 0], [0, 0, 0]⟩

def JobState.init : JobState := ⟨0, none, none, [], 0, false, false, false⟩

def CodecState.init : CodecState := ⟨List.replicate 16 DstStream.closed, 15, [], [], []⟩

/-- Table 5.7: the reset values of the PEC parameters. -/
def PecParams.init : PecParams := ⟨0, 0, 0, 0x1000, [0, 0, 0, 0], 0, []⟩

/-- Table 9.8: the reset settings of pulse unit u (2 to 7). -/
def PulseUnit.init (u : Nat) : PulseUnit :=
  ⟨false, 0, if u = 2 then 1 else if u = 3 then 2 else 0, 1, 0x1388, 0, 0x64, none⟩

def TrigState.init : TrigState :=
  ⟨[[], [], [], []], [none, none, none, none], (List.range 6).map (fun i => PulseUnit.init (i + 2)), 0, none, none, 0, 0, [], none⟩

def PtpState.init : PtpState := ⟨[], none, none, none, none, 0, 0, none, none, 0, 0, 0, 0, 1⟩

def RecStream.init : RecStream := ⟨[], none, 0, 0, 0, [], [], 0, 0⟩

def CheckState.init : CheckState :=
  { hist := [], faultClock := 0, faultRest := 0, tests := [], recs := List.replicate 4 RecStream.init, tlogSpool := [], tlogPart := [],
    reportPart := [], reportChunk := 0, tlogChunk := 0, fellBack := false, recDone := [], ring := [], loads := 0, tlogMode := 2,
    recAt := 0 }

def CalState.init : CalState := ⟨[], [], [], [], [], [], [], [], [], [], [], none, 0, 0⟩

/-- A lane at reset. -/
def Lane.init : Lane :=
  { hits := 0, since := 0, sends := 0, lastSend := 0, hold := none, blockLock := false, lastReq := none, probes := [],
    flights := [], loop := 0, dfwd := 0, resync := false, spent := 0, replay := [], replays := [],
    checkNo := 0, lastCheck := 0, answered := true, misses := 0, lowSeen := false, slot := false, unknown := [],
    test := none, corrupt := 0, lastStatus := none, noMonTold := false,
    farLoop := false, guardNs := 80, p6Told := false }

def DramState.init : DramState :=
  { lines := [], queues := [], ports := [], ladle := [], openRow := [], lastAct := [], slots := [], acts := [],
    budget := [], toldAct := none, toldRd := none, debt := [], gens := [], retired := [], layout := none, injected := [], repairs := [], listed := [],
    repaired := false, widened := false, trained := [], train := none, due := [], streak := [], fences := [],
    scrubOp := false, refetch := [], allocs := [], nextTag := 0, settings := [], temps := [], chosen := none, throttled := [], swept := [], lastLine := 0, trimPos := 0, lastTrim := 0, panicTold := false, actWindow := 0, actClear := 0 }

def PairState.init : PairState :=
  { lock := false, hello := false, lastGood := 0, lastHello := 0, store := [], progress := 0, resending := none,
    mirrorDown := false, committed := 0, waiting := [], partnerEpoch := 0, partnerSynced := false, partnerRole := 0,
    request := false, lockout := false, refusedAt := none, takeover := none, lastFix := none, lastFinal := none,
    trimIn := [], trimDue := none, trimHeld := false, pointers := none, ctx := [], resumable := false, syncFrom := none,
    revertAsked := false, revertGot := false, handover := none, released := none, protectFrom := none,
    runsOn := false, copied := false, probeAt := none }

/-- The module before its first feed becomes good (log 1). -/
def PowerState.init : PowerState :=
  { standby := false, upFrom := 0, pgA := false, pgB := false, sources := [], deepest := 0, seen := [], p3Begun := false, running := 4,
    phaseAt := 0, startAt := 0, history := [], lastJob := 0, lastSeq := 0, lastTick := 0, lastS := 0,
    exposing := false, laneTicks := [], checkerId := 0, bootSlot := 0, noReady := 0, scratch := [], nvm := [],
    svcLow := false, blankHigh := false, hbHigh := false, hbEdge := 0, hbStale := false,
    fusePins := 0, badKeys := 0 }

/-- The machine before its first feed becomes good, at the start of phase P0 (log 1): every register at its reset value. -/
def State.reset : State :=
  { pending := [],
    out := [],
    now := 0,
    clk := 0,
    freeCnt := 0,
    regs := [],
    latches := [],
    evt := EvtState.init,
    hkc := ⟨[], [], 0⟩,
    dmp := [],
    ops := ⟨[], [], 1⟩,
    net := NetState.init,
    job := JobState.init,
    codec := CodecState.init,
    sieve := ⟨[], [], [], []⟩,
    win := ⟨[], [], [], [], []⟩,
    render := RenderState.init,
    pec := ⟨PecParams.init, none, 0, []⟩,
    shot := ⟨[], [], [], [], [], [], 0, [], []⟩,
    stage := ⟨[], 0, none, 0, 0⟩,
    trig := TrigState.init,
    ptp := PtpState.init,
    check := CheckState.init,
    cal := CalState.init,
    lanes := [],
    tx := [],
    dram := DramState.init,
    pair := PairState.init,
    power := PowerState.init }

end Sys2Proof.Machine
end

