-- ==== Sys2Proof/Machine/Table.lean ====
section
/-! DEFINITION. Sparse tables in one canonical form: keys strictly rising, no entry equal to the default. Memory,
trim banks, lanes and the loss table are all of this form. -/

namespace Sys2Proof.Machine

/-- The entry stored at a key, if any. -/
def tabFind {α : Type} : Tab α → Nat → Option α
  | [], _ => none
  | (k, v) :: t, a => if k = a then some v else tabFind t a

/-- The value a table has at a key; an unlisted key has the default d. -/
def tabGet {α : Type} (d : α) (t : Tab α) (a : Nat) : α := (tabFind t a).getD d

/-- Remove a key. -/
def tabErase {α : Type} : Tab α → Nat → Tab α
  | [], _ => []
  | (k, v) :: t, a => if k = a then tabErase t a else (k, v) :: tabErase t a

/-- Insert or replace a key, whatever the value. -/
def tabPut {α : Type} : Tab α → Nat → α → Tab α
  | [], a, x => [(a, x)]
  | (k, v) :: t, a, x =>
    if k = a then (a, x) :: t else if a < k then (a, x) :: (k, v) :: t else (k, v) :: tabPut t a x

/-- Write a value; writing the default removes the entry. -/
def tabSet {α : Type} [DecidableEq α] (d : α) (t : Tab α) (a : Nat) (x : α) : Tab α :=
  if x = d then tabErase t a else tabPut t a x

/-- Keys of a table rise strictly and lie above a bound. -/
def tabSorted {α : Type} : Option Nat → Tab α → Bool
  | _, [] => true
  | none, (k, _) :: t => tabSorted (some k) t
  | some b, (k, _) :: t => decide (b < k) && tabSorted (some k) t

/-- The canonical form of a table with default d. -/
def tabWf {α : Type} [DecidableEq α] (d : α) (t : Tab α) : Bool :=
  tabSorted none t && t.all (fun e => decide (e.2 ≠ d))

/-- Keep the entries whose key satisfies p. -/
def tabKeep {α : Type} (p : Nat → Bool) (t : Tab α) : Tab α := t.filter (fun e => p e.1)

/-- Write consecutive keys from a. -/
def tabSetRange {α : Type} [DecidableEq α] (d : α) : Tab α → Nat → List α → Tab α
  | t, _, [] => t
  | t, a, x :: xs => tabSetRange d (tabSet d t a x) (a + 1) xs

/-- Read n consecutive keys from a. -/
def tabGetRange {α : Type} (d : α) (t : Tab α) (a : Nat) : Nat → List α
  | 0 => []
  | n + 1 => tabGet d t a :: tabGetRange d t (a + 1) n

end Sys2Proof.Machine
end

