-- ==== Sys2Proof/Machine/Ops.lean ====
section
/-! DEFINITION. The named operations every family uses: register fields, the output trace, local time, events, the job
state and the HKC's view, and access to streams and stripes. -/

namespace Sys2Proof.Machine

/-! ### Registers -/

/-- The key of a field in the register file. -/
def fldKey (f : Fld) : Nat := f.addr * 32 + f.lo

/-- The value of a register field; a field not listed holds its reset value. -/
def State.rd (s : State) (f : Fld) : Nat := (tabFind s.regs (fldKey f)).getD f.rst

/-- The register file with a field written. -/
def regsWr (r : Tab Nat) (f : Fld) (v : Nat) : Tab Nat :=
  if v % 2 ^ f.width = f.rst then tabErase r (fldKey f) else tabPut r (fldKey f) (v % 2 ^ f.width)

/-- Write a register field. -/
def State.wr (s : State) (f : Fld) (v : Nat) : State := { s with regs := regsWr s.regs f v }

/-- A counter field, up by n and saturating at all ones. -/
def State.incBy (s : State) (f : Fld) (n : Nat) : State := s.wr f (Nat.min (s.rd f + n) (2 ^ f.width - 1))

/-- A counter field, up by one and saturating. -/
def State.inc (s : State) (f : Fld) : State := s.incBy f 1

/-- Write several fields in order. -/
def State.wrs (s : State) (l : List (Fld × Nat)) : State := l.foldl (fun s e => s.wr e.1 e.2) s

/-! ### The trace, time, the variant -/

/-- Send something: the trace grows at its head. -/
def State.send (s : State) (o : Out) : State := { s with out := o :: s.out }

/-- Local time in whole ns (R241). -/
def State.ns (s : State) : Nat := s.clk / 2 ^ 32

/-- R309: 800 ns of local time, in 2^-32 ns. -/
abbrev restUnit : Nat := 800 * 2 ^ 32

/-- R309: the fault clock while no tick is launched: one count for each 800 ns of local time; `inc`: what the clock adds (2^-32 ns). -/
def CheckState.rest (inc : Nat) (c : CheckState) : CheckState :=
  { c with
    faultRest := (c.faultRest + inc) % restUnit
    faultClock := (c.faultClock + (c.faultRest + inc) / restUnit) % 2 ^ 48 }

/-- R241: TIME_INC, in 2^-32 ns. -/
def State.timeInc (s : State) : Nat := s.rd Reg.TIME_INC_HI.inc_ns * 2 ^ 32 + s.rd Reg.TIME_INC_LO.inc_frac

/-- R241: the local clock counts 48-bit seconds; in 2^-32 ns. -/
abbrev clkSpan : Nat := 2 ^ 48 * 1000000000 * 2 ^ 32

/-- R241, R309: one core cycle: the local clock adds TIME_INC. -/
def State.cycle (s : State) : State :=
  { s with
    now := s.now + 1
    clk := (s.clk + s.timeInc) % clkSpan
    check := s.check.rest s.timeInc }

/-- Send a UDP datagram from a port and count the frame (Table 16.7). -/
def State.sendUdp (s : State) (srcPort : Nat) (dest : Src) (payload : Bytes) : State :=
  (s.inc (Reg.PORT_TX_FRAMES.frames dest.iface)).send (.udp srcPort dest payload)

/-- 10^9 ns. -/
def giga : Nat := 1000000000

/-- GLOBAL_VARIANT.variant: 0 DK1-262, 1 DK1-131 (R1). (log 5) -/
def State.variant (s : State) : Nat := s.rd Reg.GLOBAL_VARIANT.variant

/-- The next free value's index, and the state with the counter advanced. -/
def State.bumpFree (s : State) : State := { s with freeCnt := s.freeCnt + 1 }

/-- R27: tick number of the last tick launched. -/
def State.lastTick (s : State) : Nat := s.rd Reg.SHOT_TICK_HI.tick_hi * 2 ^ 32 + s.rd Reg.SHOT_TICK_LO.tick_lo

/-! ### Messages of DMP and events -/

/-- Table 15.1: a DMP message with its CRC-32C. -/
def dmpMsg (op seq handle flags status : Nat) (payload : Bytes) : Bytes :=
  let m := toBE 1 1 ++ toBE 1 op ++ toBE 4 seq ++ toBE 4 payload.length ++ toBE 2 handle ++ toBE 2 flags ++
    toBE 2 status ++ payload
  m ++ toBE 4 (crc32c m)

/-- A 4-byte data item. -/
def w (v : Nat) : EvWord := ⟨false, v⟩

/-- An 8-byte data item. -/
def wd (v : Nat) : EvWord := ⟨true, v⟩

/-- Table 15.9: bytes of the data items. -/
def evData (l : List EvWord) : Bytes := l.flatMap fun e => if e.wide then toBE 8 e.val else toBE 4 e.val

/-- Table 15.9: the 64 bytes of an event entry. -/
def evBytes (e : EvtEntry) : Bytes :=
  let m := toBE 4 e.index ++ toBE 6 e.sec ++ toBE 4 e.ns ++ toBE 2 e.code ++ toBE 5 e.tick ++ toBE 3 e.seq ++
    ((evData e.data ++ zeros 36).take 36)
  m ++ toBE 4 (crc32c m)

/-- R410: an entry is pending until every subscriber has acknowledged it; with no subscriber none is (log 8). -/
def evtPending (ev : EvtState) (e : EvtEntry) : Bool :=
  decide (ev.ackedAll ≤ e.index) && ev.subs.any (fun u => decide (u.acked ≤ e.index))

/-- R410: how many entries are pending. -/
def State.pendingCount (s : State) : Nat := s.evt.ring.countP (evtPending s.evt)

/-- R410: the EVENT message that carries entries to a subscriber. -/
def eventMsg (u : Subscriber) (es : List EvtEntry) : Bytes := dmpMsg 0x0A u.count 0 0 0 (es.flatMap evBytes)

/-- One new entry sent to every subscriber. -/
def State.sendEvt (s : State) (e : EvtEntry) : State :=
  s.evt.subs.foldl (fun s u => s.sendUdp 47101 u.src (eventMsg u [e])) s

/-- One more EVENT message counted for a subscriber; the time in which it must acknowledge something starts when it had nothing
left to acknowledge (R410, log 47). -/
def subCount (now index : Nat) (u : Subscriber) : Subscriber :=
  { u with count := u.count + 1, lastAck := if u.acked = index then now else u.lastAck }

/-- R409, R410: append one entry: ring of 4,096, retained tail of 256, message to each subscriber. -/
def State.pushEvt (s : State) (code : Nat) (data : List EvWord) : State :=
  let e : EvtEntry :=
    { index := s.rd Reg.EVT_INDEX.next, sec := s.ns / giga, ns := s.ns % giga, code := code, tick := s.lastTick,
      seq := s.rd Reg.SHOT_STRIPE.seq, data := data }
  let s := { s.sendEvt e with evt := { s.evt with
    ring := (e :: s.evt.ring).take 4096, tail := (e :: s.evt.tail).take 256, subs := s.evt.subs.map (subCount s.now e.index) } }
  s.wr Reg.EVT_INDEX.next (e.index + 1)

/-- The entry that the next event overwrites while it is pending (R410). -/
def State.overwritten (s : State) : Option EvtEntry :=
  if s.evt.ring.length < 4096 then none
  else match s.evt.ring.getLast? with
    | some e => if evtPending s.evt e then some e else none
    | none => none

/-- R409, R410: raise an event. Overwriting a pending entry sets overflow, counts it, and the first time tells it by
0x0A09 (log 9). -/
def State.raise (s : State) (code : Nat) (data : List EvWord) : State :=
  match s.overwritten with
  | none => s.pushEvt code data
  | some old =>
    let was := s.rd Reg.EVT_PENDING.overflow
    let s := ((s.wr Reg.EVT_PENDING.overflow 1).inc Reg.EVT_DROPPED.dropped).pushEvt code data
    if was = 0 then (s.inc Reg.EVT_DROPPED.dropped).pushEvt 0x0A09 [w 0, w old.index] else s

/-- Raise an event once per stripe: `told` lists the codes already raised for it. -/
def raiseOnce (told : List Nat) (code : Nat) (data : List EvWord) (s : State) : State :=
  if told.contains code then s else s.raise code data

/-! ### The end of a start-up (R381, Table 14.5) -/

/-- P8: the module is ready (event 0x010A). -/
def State.becomeReady (s : State) : State :=
  let s := { s with power := { s.power with deepest := 0, noReady := 0, sources := [], phaseAt := s.now } }.wr Reg.RCU_PHASE.phase 8
  s.raise 0x010A [w (s.rd Reg.RCU_RESET_CAUSE.source), w s.power.running]

/-- R381: P7 ends at lock, or at once when TIME_LOCK_STRICT.strict is 0. -/
def State.endP7 (s : State) : State :=
  if s.rd Reg.RCU_PHASE.phase = 7 ∧ (s.rd Reg.TIME_LOCK_STRICT.strict = 0 ∨ s.rd Reg.TIME_STATUS.locked = 1) then s.becomeReady else s

/-! ### The job and the operations (R396, R401, R413) -/

/-- Table 15.13: job state codes. -/
abbrev jobIdle : Nat := 0
abbrev jobLoading : Nat := 1
abbrev jobArmed : Nat := 2
abbrev jobExposing : Nat := 3
abbrev jobTurnaround : Nat := 4
abbrev jobSuspended : Nat := 5
abbrev jobDone : Nat := 6
abbrev jobFault : Nat := 7

/-- The job state as the data path holds it. -/
def State.jobSt (s : State) : Nat := s.rd Reg.GLOBAL_JOB.state

/-- Table 15.13: operation state codes. -/
def opCode : OpSt → Nat
  | .running => 1 | .suspending => 2 | .suspended => 3 | .done => 4 | .failed => 5 | .cancelled => 6 | .waiting => 7

/-- GLOBAL_JOB as one word. -/
def State.jobWord (s : State) : Nat :=
  s.jobSt * 2 ^ 28 + s.rd Reg.GLOBAL_JOB.cancelled * 2 ^ 27 + s.rd Reg.GLOBAL_JOB.end_given * 2 ^ 26 +
    s.rd Reg.GLOBAL_JOB.last_seq

/-- GLOBAL_OPi_CTRL and GLOBAL_OPi_PROG from the operation in slot i. -/
def State.opWord (s : State) (i : Nat) : Nat × Nat :=
  match s.ops.slots.find? (fun o => o.slot = i) with
  | none => (0, 0)
  | some o => (o.handle * 65536 + o.kind * 4096 + opCode o.st * 256 + o.result, o.permille)

/-- R413: the registers the HKC holds whose value the data path may change, with the data path's own values. EVT_PENDING is not
among them: the HKC itself enters events and takes their acknowledgements (log 34). -/
def State.hkcOwn (s : State) : List (Nat × Nat) :=
  (0x104, s.jobWord) ::
    (List.range 8).flatMap (fun i => [(0x200 + 8 * i, (s.opWord i).1), (0x204 + 8 * i, (s.opWord i).2)])

/-- R413: the HKC takes over the data path's values of the registers p selects. -/
def State.hold (s : State) (p : Nat → Bool) : State :=
  { s with hkc := { s.hkc with
      held := (s.hkcOwn.filter (fun e => p e.1)).foldl (fun t e => tabSet 0 t e.1 e.2) s.hkc.held } }

/-- R413: the changes the data path made are told. -/
def State.tellLate (s : State) : State :=
  s.hkc.late.foldl (fun s e => s.raise e.1 e.2) { s with hkc := { s.hkc with late := [] } }

/-- An event about a change that the HKC made itself is raised at once, after the ones it has not told; one about a change
of the data path waits for the reconciliation (R413, Table 15.11). -/
def State.tell (s : State) (hkc : Bool) (code : Nat) (data : List EvWord) : State :=
  if hkc then s.tellLate.raise code data
  else { s with hkc := { s.hkc with late := s.hkc.late ++ [(code, data)] } }

/-- R396: change the job state, with event 0x0A02. -/
def State.setJob (s : State) (hkc : Bool) (new : Nat) : State :=
  if new = s.jobSt then s
  else
    let old := s.jobSt
    let s := (s.wr Reg.GLOBAL_JOB.state new).tell hkc 0x0A02 [w old, w new]
    if hkc then s.hold (fun a => a = 0x104) else s

/-- R401: a finished operation. -/
def opFinished (o : LongOp) : Bool := decide (o.st = .done) || decide (o.st = .failed) || decide (o.st = .cancelled)

/-- R401, R402: change an operation, found by handle, with event 0x0A03 when its state or result changes. -/
def State.setOp (s : State) (hkc : Bool) (handle : Nat) (f : LongOp → LongOp) : State :=
  match s.ops.slots.find? (fun o => o.handle = handle) with
  | none => s
  | some o =>
    let o' := f o
    let s := { s with ops := { s.ops with
      slots := updWhere (fun x => x.handle = handle) (fun _ => o') s.ops.slots
      done := if opFinished o' && !opFinished o then (o' :: s.ops.done).take 64 else s.ops.done } }
    if o'.st = o.st ∧ o'.result = o.result then s
    else
      let s := s.tell hkc 0x0A03 [w o'.handle, w o'.kind, w (opCode o'.st), w o'.result]
      if hkc then s.hold (fun a => a = 0x200 + 8 * o'.slot || a = 0x204 + 8 * o'.slot) else s

/-- The unfinished operation of a kind, if any (R401: at most one). -/
def State.opOfKind (s : State) (kind : Nat) : Option LongOp :=
  s.ops.slots.find? (fun o => o.kind = kind && !opFinished o)

/-- End an operation of a kind with a state and a result. -/
def State.endOp (s : State) (hkc : Bool) (kind : Nat) (st : OpSt) (result : Nat) : State :=
  match s.opOfKind kind with
  | none => s
  | some o => s.setOp hkc o.handle (fun o => { o with st := st, result := result, permille := if st = .done then 1000 else o.permille })

/-! ### Streams and stripes -/

def State.stream (s : State) (i : Nat) : DstStream := s.codec.streams.getD i DstStream.closed

def State.setStream (s : State) (i : Nat) (x : DstStream) : State :=
  { s with codec := { s.codec with streams := setAt s.codec.streams i x } }

def State.updStream (s : State) (i : Nat) (f : DstStream → DstStream) : State := s.setStream i (f (s.stream i))

def State.stripe (s : State) (seq : Nat) : Option Stripe := s.sieve.stripes.find? (fun x => x.d.seq = seq)

def State.updStripe (s : State) (seq : Nat) (f : Stripe → Stripe) : State :=
  { s with sieve := { s.sieve with stripes := updWhere (fun x => x.d.seq = seq) f s.sieve.stripes } }

/-- The stripe's state, none when the stripe is not known. -/
def State.stripeSt (s : State) (seq : Nat) : Option StripeSt := (s.stripe seq).map (·.st)

/-- R59: in the stripe queue: taken, and neither refused nor past its last tick. -/
def inQueue (x : Stripe) : Bool := decide (x.st ≠ .done) && decide (x.st ≠ .refused)

/-- R59: the stripe queue, lowest number first. -/
def State.queue (s : State) : List Stripe := s.sieve.stripes.filter inQueue

/-- A stripe between its arm point and the end of its last tick. -/
def running (x : Stripe) : Bool := decide (x.st = .armed) || decide (x.st = .exposing)

/-- The stripe armed or exposing, if any. -/
def State.current (s : State) : Option Stripe := s.sieve.stripes.find? running

/-- Lines of a stripe. -/
def Desc.len (d : Desc) : Nat := d.lenM1 + 1

/-- Note that an event of a stripe has been told. -/
def State.noteTold (s : State) (seq code : Nat) : State :=
  s.updStripe seq (fun x => { x with told := code :: x.told })

/-- Raise an event at most once for a stripe. -/
def State.raiseFor (s : State) (seq code : Nat) (data : List EvWord) : State :=
  match s.stripe seq with
  | none => s.raise code data
  | some x => if x.told.contains code then s else (s.raise code data).noteTold seq code

/-- R117, R126: nothing is rendered any more. -/
def State.stopRender (s : State) : State :=
  { s with render := RenderState.init }.wrs [(Reg.RENDER_STATUS.active, 0), (Reg.RENDER_STATUS.prerolled, 0)]

/-- R146, R152: the PEC engine has no map in hand and no row to compute again. -/
def State.stopPec (s : State) : State :=
  { s with pec := { s.pec with stripe := none, rows := 0, redo := [] } }.wr Reg.PEC_STATUS.busy 0

/-- The render and the PEC engine leave a stripe that is refused. -/
def State.leaveEngines (s : State) (seq : Nat) : State :=
  let s := if s.render.stripe = some seq then s.stopRender else s
  if s.pec.stripe = some seq then
    { s with pec := { s.pec with stripe := none, rows := 0, redo := s.pec.redo.filter (fun e => e.1 ≠ seq) } }.wr Reg.PEC_STATUS.busy 0
  else s

end Sys2Proof.Machine
end

