-- ==== Sys2Proof/Machine/Dst.lean ====
section
/-! DEFINITION. Network ports and the DST job stream: segments, window, ACK, NAK, and the life of a stream (ch. 2, R40
to R55; ch. 16, R428, R429). -/

namespace Sys2Proof.Machine

/-! ### Ports (R428, R429) -/

/-- A port that carries traffic: enabled, link up. -/
def State.portUp (s : State) (p : Nat) : Bool := s.rd (Reg.PORT_CTRL.enable p) = 1 && s.rd (Reg.PORT_STATUS.link_up p) = 1

/-- Length on the wire of a frame that carries a UDP payload: headers and frame check sequence included. -/
def udpFrameLen (v6 : Bool) (len : Nat) : Nat := len + (if v6 then 48 else 28) + 18

/-- R428: the frame is no longer than the jumbo setting allows. -/
def State.frameFits (s : State) (p len : Nat) : Bool := decide (len ≤ if s.rd (Reg.PORT_CTRL.jumbo p) = 1 then 9216 else 1518)

/-- R428: the IP version of the peer is enabled on its port. -/
def State.ipOn (s : State) (src : Src) : Bool :=
  if src.v6 then s.rd (Reg.PORT_CTRL.ipv6_en src.iface) = 1 else s.rd (Reg.PORT_CTRL.ipv4_en src.iface) = 1

/-- A UDP datagram arrives: the frame is counted, and dropped when it is too long or its IP version is off. The Bool says
that its content goes on to its function. A port that is down receives nothing. -/
def State.rxUdp (s : State) (src : Src) (len : Nat) : State × Bool :=
  if s.portUp src.iface = false then (s, false)
  else
    let s := s.inc (Reg.PORT_RX_FRAMES.frames src.iface)
    if s.frameFits src.iface (udpFrameLen src.v6 len) && s.ipOn src then (s, true)
    else (s.inc (Reg.PORT_RX_DROP.drops src.iface), false)

/-- R429: a datagram to one of the ports of the host ports; the stage port drops it. -/
def State.rxHost (s : State) (src : Src) (len : Nat) : State × Bool :=
  let (s, ok) := s.rxUdp src len
  if ok && decide (2 ≤ src.iface) then (s.inc (Reg.PORT_RX_DROP.drops src.iface), false) else (s, ok)

/-! ### Segments (R42 to R45) -/

/-- Table 2.2: a DST segment. -/
structure DstSeg where
  typ : Nat
  stream : Nat
  flags : Nat
  seq : Nat
  ackLen : Nat
  job : Nat
  window : Nat
  echo : Nat
  payload : Bytes
deriving DecidableEq, Repr

/-- What a datagram on a DST port is. -/
inductive DstIn where
  /-- version or type unknown: discarded (Table 2.2) -/
  | unknown
  /-- malformed (R44) -/
  | malformed
  | seg (x : DstSeg)
deriving DecidableEq, Repr

/-- Table 2.2: the fields of a datagram long enough to have them. -/
def dstFields (b : Bytes) : DstSeg :=
  { typ := byteAt b 1, stream := byteAt b 2, flags := byteAt b 3, seq := beAt b 4 4, ackLen := beAt b 8 4,
    job := beAt b 12 4, window := beAt b 16 2, echo := beAt b 20 4, payload := sub b 24 (b.length - 28) }

/-- R44: the reserved bits and field of the header are 0, whatever the segment's type. -/
def dstReservedOk (x : DstSeg) (reserved : Nat) : Bool := x.stream < 16 && x.flags < 16 && reserved = 0

/-- R44: the conditions on a segment of a known type; `types` are the stream types a SYNC may carry. -/
def dstWellFormed (types : List Nat) (x : DstSeg) : Bool :=
    (if x.typ = 1 then x.payload.length = x.ackLen && x.payload.length ≤ 8960 && x.window = 0
     else if x.typ = 4 then x.ackLen = 0 && x.window = 0 && x.payload.length = 4 &&
       (x.payload.drop 1).all (fun b => b = 0#8) && types.contains (byteAt x.payload 0)
     else if x.typ = 5 then x.ackLen = 0 && x.window = 0 && x.payload = []
     else x.payload.length = 16)

/-- R42 to R44: judge a datagram. -/
def parseDst (types : List Nat) (b : Bytes) : DstIn :=
  if b.length < 28 then .malformed
  else if beAt b (b.length - 4) 4 ≠ crc32c (b.take (b.length - 4)) then .malformed
  else if dstReservedOk (dstFields b) (beAt b 18 2) = false then .malformed
  else if byteAt b 0 ≠ 1 ∨ byteAt b 1 = 0 ∨ 5 < byteAt b 1 then .unknown
  else if dstWellFormed types (dstFields b) then .seg (dstFields b)
  else .malformed

/-- Table 2.3: stream types of the job stream. -/
def jobTypes : List Nat := [1, 2, 3, 4, 5]

/-- R42: a segment as it is sent. -/
def dstBytes (x : DstSeg) : Bytes :=
  let m := toBE 1 1 ++ toBE 1 x.typ ++ toBE 1 x.stream ++ toBE 1 x.flags ++ toBE 4 x.seq ++ toBE 4 x.ackLen ++
    toBE 4 x.job ++ toBE 2 x.window ++ toBE 2 0 ++ toBE 4 x.echo ++ x.payload
  m ++ toBE 4 (crc32c m)

/-- R43: the bitmap of an ACK or NAK as 16 bytes: bit i is sequence A + i. -/
def bitmapBytes (a : Nat) (have_ : List Nat) : Bytes :=
  toLE 16 (have_.foldl (fun m q => let d := serialDiff 32 a q; if d < 128 then withBit m d else m) 0)

/-! ### Window (R50) -/

/-- Bytes of a save slot: its chunk and the output saved beside it (R94). -/
def slotBytes (o : Option SaveSlot) : Nat :=
  match o with
  | some sl => sl.chunk.length + sl.staged.length
  | none => 0

/-- Bytes of a chunk held behind a descriptor (R58). -/
def chunkBytes (r : ChunkRes) : Nat :=
  match r with
  | .pass raw => raw.length
  | .fail _ => 0

/-- Table 10.3: bytes of the geometry spool that a stream holds: payload not decoded, the chunk in progress, chunks held behind a
descriptor and its save slots. -/
def DstStream.spooled (x : DstStream) : Nat :=
  x.ctx.chunkOut + x.cur.length + (x.rx.map (fun i => match i with | .seg _ d => d.length | _ => 0)).sum +
    (x.heldChunks.map (fun c => chunkBytes c.2)).sum + slotBytes x.saveOut + slotBytes x.checkpoint

/-- Bytes of the geometry spool in use: admitted bands and what the streams hold. -/
def State.spoolUsed (s : State) : Nat :=
  (s.sieve.stripes.map (fun x => x.rawSum)).sum + (s.codec.streams.map DstStream.spooled).sum

/-- Bytes the spool can still take (region 1). -/
def State.spoolRoom (s : State) : Nat := s.rd (Reg.DMC_REGION.size 1) * 2 ^ 28 - s.spoolUsed

/-- R50: the window a stream has now. (log 14) -/
def State.windowOf (s : State) (x : DstStream) : Nat :=
  if x.frozen then 0
  else if x.typ = 1 ∧ 8 ≤ s.queue.length then 0
  else Nat.min 128 (s.spoolRoom / 8960)

/-! ### ACK and NAK -/

/-- Send an ACK (type 2) or a NAK (type 3). -/
def State.sendAck (s : State) (dest : Src) (typ i : Nat) (closed : Bool) (a win job echo : Nat) (have_ : List Nat) : State :=
  s.sendUdp 47100 dest (dstBytes ⟨typ, i, if closed then 4 else 0, 0, a, job, win, echo, bitmapBytes a have_⟩)

/-- R47: acknowledge the stream's current state: A, W and the segments held beyond A. -/
def State.ackStream (s : State) (i : Nat) : State :=
  let x := s.stream i
  let win := s.windowOf x
  let s := s.sendAck x.peer 2 i false x.ackA win x.job x.echo (x.held.map (fun e => e.1))
  s.setStream i { x with win := win, sinceAck := 0, oldestUnacked := none }

/-- R48: send a NAK with A and the bitmap. A NAK carries all that an ACK does and counts as one for R47 (log 81). -/
def State.nakStream (s : State) (i : Nat) : State :=
  let x := s.stream i
  let win := s.windowOf x
  let s := s.sendAck x.peer 3 i false x.ackA win x.job x.echo (x.held.map (fun e => e.1))
  s.setStream i { x with win := win, lastNak := some (x.ackA, s.now), sinceAck := 0, oldestUnacked := none }

/-! ### The chunk in progress and the history (R84 to R86) -/

/-- A chunk of the stream is being assembled. -/
def DstStream.inChunk (x : DstStream) : Bool := x.ctx.phase ≠ .between

/-- The header of the chunk in progress is whole. -/
def DstStream.headed (x : DstStream) : Bool := x.inChunk && x.ctx.phase ≠ .header

/-- The header of the chunk in progress. -/
def DstStream.hdr (x : DstStream) : DcfHdr := parseDcf x.ctx.dcfHdr

/-- R86: the history is unavailable. -/
def noHist (c : Ctx) : Ctx := { c with hist := [], histAvail := false }

/-- R86: a chunk of the stream has been refused after it was decoded. A chunk in progress that began with hist_reset has made the
history available again; one that did not is refused when it ends. -/
def loseHist (x : DstStream) : DstStream :=
  if x.headed then (if x.hdr.histReset then x else { x with lost := true }) else { x with ctx := noHist x.ctx }

/-- R86 of stream i. -/
def State.loseHistory (s : State) (i : Nat) : State := s.updStream i loseHist

/-! ### Stream life -/

/-- R51, R76, R85: the decoder context of a stream that has opened. -/
def reopened (typ : Nat) (x : DstStream) : DstStream :=
  { x with ctx := Ctx.fresh, decTyp := typ, cur := [], got := 0, skipping := false, finalSeen := false, lost := false, lastDesc := none }

/-- R51: a stream as a SYNC opens it; what the decoder has not taken yet stays ahead of it. -/
def openStream (x : DstStream) (g : DstSeg) (src : Src) : DstStream :=
  let typ := byteAt g.payload 0
  let x := { x with
    opened := true, typ := typ, job := g.job, synSeq := g.seq, ackA := (g.seq + 1) % 2 ^ 32, win := 128, peer := src, echo := g.echo,
    held := [], sinceAck := 0, oldestUnacked := none, reorder := none, lastNak := none, finSeq := none, closedBy := none }
  if x.rx = [] ∧ x.cur = [] then reopened typ x else { x with rx := x.rx ++ [.opened typ] }

/-- R48: segments at and beyond A that are held go to the decoder in order. -/
def drainHeld : Nat → DstStream → DstStream
  | 0, x => x
  | fuel + 1, x =>
    match x.held.find? (fun e => e.1 = x.ackA) with
    | none => x
    | some (q, start, data) =>
      drainHeld fuel { x with
        rx := x.rx ++ [.seg start data], ackA := (x.ackA + 1) % 2 ^ 32, sinceAck := x.sinceAck + 1,
        held := x.held.filter (fun e => e.1 ≠ q) }

/-- R52: every sequence before the FIN's seq has been received. -/
def finReached (x : DstStream) : Option Nat :=
  match x.finSeq with
  | none => none
  | some f => if f = x.ackA ∨ serialBefore 32 f x.ackA then some f else none

/-- R52: the stream closes, the FIN being acknowledged with A equal to its seq and closed set. -/
def State.closeStream (s : State) (i fin : Nat) : State :=
  let x := s.stream i
  let s := s.sendAck x.peer 2 i true fin 0 x.job x.echo []
  s.setStream i { x with
    opened := false, closedBy := some (x.job, fin), finSeq := none, held := [], reorder := none, lastNak := none,
    oldestUnacked := none, sinceAck := 0, rx := x.rx ++ [.fin] }

/-- R53: the discard for a wrong job, with event 0x0620 at most once per stream per second. -/
def State.jobDrop (s : State) (src : Src) (g : DstSeg) : State :=
  let s := s.inc (Reg.PORT_DST_DROP.job_drops src.iface)
  let x := s.stream g.stream
  match x.lastJobDrop with
  | some t => if s.now < t + giga then s
              else (s.raise 0x0620 [w g.stream, w g.job]).setStream g.stream { x with lastJobDrop := some s.now }
  | none => (s.raise 0x0620 [w g.stream, w g.job]).setStream g.stream { x with lastJobDrop := some s.now }

/-- R53: the segment names the wrong job. -/
def State.wrongJob (s : State) (g : DstSeg) : Bool :=
  let x := s.stream g.stream
  (x.opened && g.job ≠ x.job) || (s.jobSt ≠ jobIdle && g.job ≠ s.rd Reg.GLOBAL_JOB_ID.job)

/-- A SYNC that has passed R44 and R53 (R51, R52). -/
def State.dstSync (s : State) (src : Src) (g : DstSeg) : State :=
  let i := g.stream
  let x := s.stream i
  if x.opened then
    if g.seq = x.synSeq ∧ byteAt g.payload 0 = x.typ then
      (s.setStream i { x with peer := src, echo := g.echo }).ackStream i
    else s.raise 0x0622 [w i, w g.seq]
  else
    (s.setStream i (openStream x g src)).ackStream i

/-- A FIN that has passed R44 and R53 (R52). -/
def State.dstFin (s : State) (src : Src) (g : DstSeg) : State :=
  let i := g.stream
  let x := s.stream i
  if x.opened then
    let x := { x with finSeq := some g.seq, peer := src, echo := g.echo }
    let s := s.setStream i x
    match finReached x with
    | some f => s.closeStream i f
    | none => s.ackStream i
  else if x.closedBy = some (g.job, g.seq) then s.sendAck src 2 i true g.seq 0 g.job g.echo []
  else s.sendAck src 3 i true 0 0 g.job g.echo []

/-- R46 to R48: a DATA segment accepted at distance d from A. -/
def State.acceptData (s : State) (src : Src) (g : DstSeg) (d : Nat) : State :=
  let i := g.stream
  let x := s.stream i
  let start := g.flags.testBit 1
  let x := { x with
    peer := src, echo := g.echo,
    oldestUnacked := some (x.oldestUnacked.getD s.now) }
  if d = 0 then
    let hole := !x.held.isEmpty
    let y := drainHeld 128 { x with
      rx := x.rx ++ [.seg start g.payload], ackA := (x.ackA + 1) % 2 ^ 32, sinceAck := x.sinceAck + 1 }
    let y := { y with reorder := if y.held = [] then none else some s.now }
    let s := s.setStream i y
    match finReached y with
    | some f => s.closeStream i f
    | none =>
      if g.flags.testBit 0 || hole || decide (Nat.max 1 (s.rd (Reg.PORT_DST_CTRL.ack_every src.iface)) ≤ y.sinceAck)
      then s.ackStream i else s
  else
    let y := { x with
      held := x.held ++ [(g.seq, start, g.payload)], reorder := some (x.reorder.getD s.now) }
    let s := s.setStream i y
    if g.flags.testBit 0 then s.ackStream i else s

/-- A DATA segment that has passed R44 and R53 (R46, R53). -/
def State.dstData (s : State) (src : Src) (g : DstSeg) : State :=
  let i := g.stream
  let x := s.stream i
  if !x.opened then s.sendAck src 3 i true 0 0 g.job g.echo []
  else
    let d := serialDiff 32 x.ackA g.seq
    if d < x.win ∧ !(x.held.any (fun e => e.1 = g.seq)) then s.acceptData src g d
    else (s.setStream i { x with peer := src, echo := g.echo }).ackStream i

/-- A DST segment arrives on port 47100 of ETH0 or ETH1 (R41, R44, R53). -/
def State.dstArrive (s : State) (src : Src) (b : Bytes) : State :=
  let (s, ok) := s.rxHost src b.length
  if !ok then s
  else
    match parseDst jobTypes b with
    | .unknown => s
    | .malformed => s.inc (Reg.PORT_DST_DROP.crc_drops src.iface)
    | .seg g =>
      if s.wrongJob g then s.jobDrop src g
      else if g.typ = 1 then s.dstData src g
      else if g.typ = 4 then s.dstSync src g
      else if g.typ = 5 then s.dstFin src g
      else s

/-! ### Commands -/

/-- DST_DATA (R46). -/
def execDstData (src : Src) (b : Bytes) (s : State) : Host.Outcome State Fault Refusal := .next (s.dstArrive src b)

/-- DST_SYNC (R51, R52). -/
def execDstSync (src : Src) (b : Bytes) (s : State) : Host.Outcome State Fault Refusal := .next (s.dstArrive src b)

/-- DST_FIN (R52). -/
def execDstFin (src : Src) (b : Bytes) (s : State) : Host.Outcome State Fault Refusal := .next (s.dstArrive src b)

/-- ACK_IDLE_TIMEOUT (R47): ack_idle_us after the oldest segment not yet acknowledged was accepted. -/
def execAckIdleTimeout (i : Nat) (s : State) : Host.Outcome State Fault Refusal :=
  let x := s.stream i
  match x.oldestUnacked with
  | some t =>
    if x.opened ∧ t + 1000 * s.rd (Reg.PORT_DST_CTRL.ack_idle_us x.peer.iface) ≤ s.now then .next (s.ackStream i)
    else .next s
  | none => .next s

/-- REORDER_TIMEOUT (R48): the reorder timer has reached reorder_us with the hole open; two NAKs with one A are never
less than 200 µs apart. -/
def execReorderTimeout (i : Nat) (s : State) : Host.Outcome State Fault Refusal :=
  let x := s.stream i
  match x.reorder with
  | some t =>
    let spaced : Bool := match x.lastNak with
      | some (a, tn) => decide (a ≠ x.ackA) || decide (tn + 200000 ≤ s.now)
      | none => true
    if x.opened ∧ t + 1000 * s.rd (Reg.PORT_DST_CTRL.reorder_us x.peer.iface) ≤ s.now ∧ spaced then .next (s.nakStream i)
    else .next s
  | none => .next s

/-- NAK_REPEAT (R48): 200 µs since the last NAK with the same A, later segments held. -/
def execNakRepeat (i : Nat) (s : State) : Host.Outcome State Fault Refusal :=
  let x := s.stream i
  match x.lastNak with
  | some (a, t) =>
    if x.opened ∧ a = x.ackA ∧ x.held ≠ [] ∧ t + 200000 ≤ s.now then .next (s.nakStream i) else .next s
  | none => .next s

/-- WINDOW_REOPEN (R47, R50): W has changed since it was last advertised, above all when it has risen above 0, and the DK1 sends
an unsolicited ACK (log 12). -/
def execWindowReopen (i : Nat) (s : State) : Host.Outcome State Fault Refusal :=
  let x := s.stream i
  if x.opened ∧ s.windowOf x ≠ x.win then .next (s.ackStream i) else .next s

end Sys2Proof.Machine
end

