-- ==== Sys2Proof/Machine/PairWire.lean ====
section
/-! DEFINITION. Pair frames as bytes (ch. 13, R352, Tables 13.2 and 13.3). The layout inside HELLO's byte of bits, POINTERS and SYNC_COPY
is the model's (log 16). -/

namespace Sys2Proof.Machine

/-! ### Payloads (Table 13.3) -/

/-- HELLO: pref_active, healthy, synced and the role in one byte (log 16). -/
def helloBits (pref healthy synced : Bool) (role : Nat) : Nat := 16 * b2n pref + 8 * b2n healthy + 4 * b2n synced + role % 4

/-- POINTERS: one stripe in 31 bytes (log 16). -/
def ptrBytes (p : PtrStripe) : Bytes :=
  let l := p.latched.getD (0, 0, 0, 0)
  toBE 3 p.seq ++ toBE 1 p.st ++ toBE 1 (b2n p.first.isSome + 2 * b2n p.latched.isSome) ++ toBE 10 (p.first.getD 0) ++
    toBE 4 l.1 ++ toBE 4 l.2.1 ++ toBE 4 l.2.2.1 ++ toBE 4 l.2.2.2

/-- POINTERS: one stream. -/
def streamPtrBytes (p : Nat × Nat) : Bytes := toBE 4 p.1 ++ toBE 4 p.2

/-- Table 13.3: the type of a frame. -/
def bodyType : PairBody → Nat
  | .hello .. => 0x01 | .tlogFix _ => 0x02 | .tlogFinal _ => 0x03 | .ack _ => 0x04 | .trim .. => 0x05 | .trimCommit .. => 0x06
  | .pointers _ => 0x07 | .ctx _ => 0x08 | .revertReq => 0x09 | .handover .. => 0x0A | .syncDens .. => 0x0B | .syncTrim .. => 0x0B

/-- Table 13.3: the payload of a frame. -/
def bodyBytes : PairBody → Bytes
  | .hello variant fw pref healthy synced role job lastGen =>
    toBE 1 variant ++ toBE 2 fw ++ toBE 1 (helloBits pref healthy synced role) ++ toBE 4 job ++ toBE 4 lastGen
  | .tlogFix b => b
  | .tlogFinal b => b
  | .ack gen => toBE 4 gen
  | .trim first es => toBE 4 first ++ es.flatMap (toBE 4)
  | .trimCommit seq crc => toBE 3 seq ++ toBE 4 crc
  | .pointers p =>
    toBE 1 p.job ++ toBE 1 p.streams.length ++ toBE 2 p.stripes.length ++ p.streams.flatMap streamPtrBytes ++ p.stripes.flatMap ptrBytes
  | .ctx chunk => chunk
  | .revertReq => []
  | .handover seq tick => toBE 3 seq ++ toBE 5 tick
  | .syncDens seq layer slot y dir lenM1 row cells =>
    toBE 1 1 ++ toBE 3 seq ++ toBE 3 layer ++ toBE 2 slot ++ toBE 4 (toField 32 y) ++ toBE 1 dir ++ toBE 3 lenM1 ++ toBE 4 row ++
      cells.flatMap (toBE 2)
  | .syncTrim first es => toBE 1 0 ++ toBE 4 first ++ es.flatMap (toBE 4)

/-- R352: the bytes of a frame. -/
def frameBytes (f : PairFrame) : Bytes :=
  let p := bodyBytes f.body
  let m := toBE 1 (bodyType f.body) ++ toBE 1 (b2n f.resend) ++ toBE 2 f.epoch ++ toBE 4 f.gen ++ toBE 4 p.length ++ toBE 4 f.ref ++ p
  m ++ toBE 4 (crc32c m)

/-! ### Reading a frame (R352) -/

/-- n numbers of `size` bytes each. -/
def numbers (size : Nat) : Nat → Bytes → List Nat
  | 0, _ => []
  | n + 1, b => beNat (b.take size) :: numbers size n (b.drop size)

/-- POINTERS: the stripe at an offset. -/
def ptrAt (b : Bytes) (off : Nat) : PtrStripe :=
  let k := byteAt b (off + 4)
  { seq := beAt b off 3
    st := byteAt b (off + 3)
    first := if k.testBit 0 then some (beAt b (off + 5) 10) else none
    latched := if k.testBit 1 then some (beAt b (off + 15) 4, beAt b (off + 19) 4, beAt b (off + 23) 4, beAt b (off + 27) 4) else none }

/-- The content of a POINTERS frame. -/
def parsePointers (b : Bytes) : Option PairBody :=
  let n := byteAt b 1
  let m := beAt b 2 2
  if b.length ≠ 4 + 8 * n + 31 * m then none
  else some (.pointers
    { job := byteAt b 0
      stripes := (List.range m).map (fun i => ptrAt b (4 + 8 * n + 31 * i))
      streams := (List.range n).map (fun i => (beAt b (4 + 8 * i) 4, beAt b (8 + 8 * i) 4)) })

/-- The content of a SYNC_COPY frame. -/
def parseCopy (b : Bytes) : Option PairBody :=
  if byteAt b 0 = 0 ∧ b.length % 4 = 1 ∧ 5 ≤ b.length then some (.syncTrim (beAt b 1 4) (numbers 4 ((b.length - 5) / 4) (b.drop 5)))
  else if byteAt b 0 = 1 ∧ b.length % 2 = 1 ∧ 21 ≤ b.length then
    some (.syncDens (beAt b 1 3) (beAt b 4 3) (beAt b 7 2) (signedOf 32 (beAt b 9 4)) (byteAt b 13) (beAt b 14 3) (beAt b 17 4)
      (numbers 2 ((b.length - 21) / 2) (b.drop 21)))
  else none

/-- Table 13.3: the content of a frame of a type; none when the payload is not one of that type. -/
def parseBody (typ : Nat) (b : Bytes) : Option PairBody :=
  if typ = 0x01 ∧ b.length = 12 ∧ byteAt b 3 < 32 then
    let k := byteAt b 3
    some (.hello (byteAt b 0) (beAt b 1 2) (k.testBit 4) (k.testBit 3) (k.testBit 2) (k % 4) (beAt b 4 4) (beAt b 8 4))
  else if typ = 0x02 ∧ b.length = 152 then some (.tlogFix b)
  else if typ = 0x03 ∧ b.length = 288 then some (.tlogFinal b)
  else if typ = 0x04 ∧ b.length = 4 then some (.ack (beNat b))
  else if typ = 0x05 ∧ b.length = 4100 then some (.trim (beAt b 0 4) (numbers 4 1024 (b.drop 4)))
  else if typ = 0x06 ∧ b.length = 7 then some (.trimCommit (beAt b 0 3) (beAt b 3 4))
  else if typ = 0x07 then parsePointers b
  else if typ = 0x08 then some (.ctx b)
  else if typ = 0x09 ∧ b = [] then some .revertReq
  else if typ = 0x0A ∧ b.length = 8 then some (.handover (beAt b 0 3) (beAt b 3 5))
  else if typ = 0x0B then parseCopy b
  else none

/-- R352: the frame a byte string holds; none when its CRC fails, a reserved field is not 0, or it is no frame of Table 13.3. A payload
is at most 8,192 bytes; the chunk of a CTX frame may be longer (log 16). -/
def parsePair (b : Bytes) : Option PairFrame :=
  let n := b.length - 20
  if b.length < 20 ∨ beAt b (b.length - 4) 4 ≠ crc32c (b.take (b.length - 4)) ∨ 1 < byteAt b 1 ∨ beAt b 8 4 ≠ n ∨ byteAt b 12 ≠ 0 ∨
      (8192 < n ∧ byteAt b 0 ≠ 0x08) then none
  else (parseBody (byteAt b 0) (sub b 16 n)).map (fun body => ⟨byteAt b 1 = 1, beAt b 2 2, beAt b 4 4, beAt b 13 3, body⟩)

end Sys2Proof.Machine
end

