-- ==== Sys2Proof/Machine/Mirror.lean ====
section
/-! DEFINITION. What the active of a pair sends its standby, and how it becomes unprotected (ch. 13, R352 to R359). -/

namespace Sys2Proof.Machine

/-! ### Roles (R345, R347) -/

abbrev roleSolo : Nat := 0
abbrev roleStandby : Nat := 1
abbrev roleActive : Nat := 2

/-- PAIR_STATUS.role. -/
def State.role (s : State) : Nat := s.rd Reg.PAIR_STATUS.role

/-- R357: the module follows the job in shadow. One that has lost the active role with a stripe in progress runs it to its
end first (Table 13.5). (log 36) -/
def State.follows (s : State) : Bool := s.role = roleStandby && !s.pair.runsOn

/-- R347: the lanes may leave electrical idle. -/
def State.holdsLanes (s : State) : Bool := s.rd Reg.PAIR_STATUS.halyard_out = 1

/-! ### Frames -/

/-- A frame that is not mirrored. -/
def State.pairSend (s : State) (ref : Nat) (body : PairBody) : State :=
  s.send (.pair (frameBytes ⟨false, s.rd Reg.PAIR_STATUS.epoch, 0, ref, body⟩))

/-- R359, R370: the active becomes unprotected. -/
def State.unprotect (s : State) (tick reason : Nat) : State :=
  if s.role ≠ roleActive ∨ s.rd Reg.PAIR_STATUS.unprotected = 1 then s
  else (s.wr Reg.PAIR_STATUS.unprotected 1).raise 0x0704 [w (s.rd Reg.SHOT_STRIPE.seq), wd tick, w reason]

/-- Reasons of 0x0704 and 0x0702, numbered by the model (the spec names none, log 20). -/
abbrev whyNotCommitted : Nat := 1
abbrev whyLinkDown : Nat := 2
abbrev whyMirrorStall : Nat := 3
abbrev whyPartner : Nat := 4
abbrev whyAdmission : Nat := 5
abbrev whyNotSynced : Nat := 6

/-- R355: the link is down for mirroring. -/
def State.mirrorFail (s : State) : State :=
  if s.pair.mirrorDown then s
  else
    let s := { s with pair := { s.pair with mirrorDown := true, copied := false } }.raise 0x0702 [w whyMirrorStall]
    s.unprotect s.lastTick whyMirrorStall

/-- R354, R355: a mirrored frame of the active: next generation, kept for resending. The one that fills the store takes mirroring down. -/
def State.mirror (s : State) (ref : Nat) (body : PairBody) : State :=
  if s.role ≠ roleActive ∨ s.rd Reg.PAIR_STATUS.link_up = 0 ∨ s.pair.mirrorDown then s
  else
    let g := (s.rd Reg.PAIR_GEN_TX.gen + 1) % 2 ^ 32
    let f : PairFrame := ⟨false, s.rd Reg.PAIR_STATUS.epoch, g, ref, body⟩
    let s := { s with pair := { s.pair with
      store := s.pair.store ++ [(g, f)]
      progress := if s.pair.store = [] then s.now else s.pair.progress } }
    let s := (s.wr Reg.PAIR_GEN_TX.gen g).send (.pair (frameBytes f))
    if 4096 ≤ s.pair.store.length then s.mirrorFail else s

/-! ### POINTERS (R357, R358) -/

/-- Table 2.9: code of a stripe state. -/
def stCode : StripeSt → Nat
  | .pending => 1 | .admitted => 2 | .armed => 3 | .exposing => 4 | .done => 5 | .refused => 6

/-- The latched registers of an armed stripe as words: SHOT_RESERVE_PASSES, SHOT_DOSE_NOMINAL, SHOT_CTRL, CHECK_CTRL. -/
def latchWords (l : ArmLatch) : Nat × Nat × Nat × Nat :=
  (l.rp, l.nominal, (if l.posComp then 1 else 0), l.tlogMode * 64 + l.shift * 4 + l.recMode)

/-- How many stripes a POINTERS frame names: the newest, as many as its payload holds (log 16). -/
abbrev ptrMax : Nat := 256

/-- The POINTERS content now. -/
def State.pointersNow (s : State) : Pointers :=
  { job := s.jobSt
    stripes := (s.sieve.stripes.drop (s.sieve.stripes.length - ptrMax)).map (fun x => ⟨x.d.seq, stCode x.st, x.firstTick, x.latch.map latchWords⟩)
    streams := s.codec.streams.map (fun x => (x.ackA, x.ctx.nextSeq)) }

/-- R358: POINTERS of a stripe. -/
def State.mirrorPointers (s : State) (seq : Nat) : State := s.mirror seq (.pointers s.pointersNow)

end Sys2Proof.Machine
end

