-- ==== Sys2Proof/Machine/Sieve.lean ====
section
/-! DEFINITION. Admission: descriptors, bands, seeds, refusal and the admission rule (ch. 2, R57 to R71, R453; ch. 5,
R128 to R138). -/

namespace Sys2Proof.Machine

/-! ### Refusal and the end of the job -/

/-- Table 15.5: END_JOB given and every stripe up to the named one DONE or REFUSED. -/
def State.jobComplete (s : State) : Bool :=
  s.rd Reg.GLOBAL_JOB.end_given = 1 && (s.jobSt = jobArmed || s.jobSt = jobTurnaround) &&
    decide (s.rd Reg.GLOBAL_JOB.last_seq < s.job.nextSeq) &&
    s.queue.all (fun x => decide (s.rd Reg.GLOBAL_JOB.last_seq < x.d.seq))

/-- Table 15.5: the job ends when it is complete. -/
def State.checkJobEnd (s : State) : State :=
  if s.jobComplete then (s.setJob false jobDone).endOp false 1 .done 0 else s

/-- R71 steps 2 and 3: the refusal registers. -/
def State.refuseRegs (s : State) (seq band code : Nat) : State :=
  (((s.wr Reg.SIEVE_REFUSE_SEQ.seq seq).wr Reg.SIEVE_REFUSE_INFO.band band).wr Reg.SIEVE_REFUSE_INFO.reason code).inc
    Reg.SIEVE_REFUSE_COUNT.count

/-- R252: a pending first_tick of a stripe is cleared. -/
def State.clearFirst (s : State) (seq : Nat) : State :=
  match s.stripe seq with
  | some x =>
    match x.firstTick with
    | some _ => (s.updStripe seq (fun x => { x with firstTick := none })).wr Reg.TIME_TRIG0_CTRL.pending 0
    | none => s
  | none => s

/-- R71 step 4: the stripe leaves the queue and its spool space is freed; its render and its F map end. -/
def State.dropStripe (s : State) (seq : Nat) : State :=
  let s := ((s.clearFirst seq).leaveEngines seq).updStripe seq (fun x =>
    { x with st := .refused, bands := [], rawSum := 0, dens := [], densDone := [], densRetry := [], seeds := [] })
  { s with sieve := { s.sieve with densQ := s.sieve.densQ.filter (fun e => e.1 ≠ seq) } }

/-- R71: refuse a stripe by a check: event with stripe and band, registers, count, spool freed. -/
def State.refuse (s : State) (seq band code : Nat) : State :=
  ((((s.raise code [w seq, w band]).refuseRegs seq band code).dropStripe seq).mirrorPointers seq).checkJobEnd

/-- R453: a chunk of a stream fails with an event: the stripe of the stream's last descriptor taken is refused while it
is PENDING; otherwise the chunk alone is discarded with its event. -/
def State.refuseChunk (s : State) (i band code : Nat) : State :=
  match (s.stream i).lastDesc with
  | none => s.raise code [w 0xFFFFFFFF, w band]
  | some d => if s.stripeSt d = some .pending then s.refuse d band code else s.raise code [w d, w band]

/-! ### Density maps and seeds -/

/-- R131: a stripe's density map is complete. -/
def densComplete (x : Stripe) : Bool := x.densDone.length = bandsOf x.d.lenM1

/-- R138: a seed of a use is admitted when all of its parts are. -/
def seedComplete (x : Stripe) (use : Nat) : Bool :=
  match x.seeds.find? (fun p => p.use = use) with
  | none => false
  | some p => (x.seeds.countP (fun q => q.use = use)) = p.parts

/-- Table 5.3: a seed part; none when it is malformed by itself (R138). -/
def parseSeed (v use : Nat) (raw : Bytes) : Option SeedPart :=
  let x0 := signedOf 16 (beAt raw 8 2)
  let cols := beAt raw 10 2
  let rows := beAt raw 16 4
  let wc : Int := cellsOf v
  let lo : Int := if use = 1 then wc else -65
  let hi : Int := if use = 0 then -1 else wc + 64
  if raw.length < 20 then none
  else if beAt raw 0 4 ≠ 0x53450001 ∨ beAt raw 6 2 = 0 ∨ beAt raw 6 2 ≤ beAt raw 4 2 ∨ cols = 0 ∨ rows = 0 ∨
      raw.length ≠ 20 + 2 * cols * rows then none
  else if x0 < lo ∨ hi < x0 + cols - 1 then none
  else
    let cells := (List.range (cols * rows)).map fun i => beAt raw (20 + 2 * i) 2
    if cells.any (fun c => decide (65280 < c)) then none
    else some ⟨use, beAt raw 4 2, beAt raw 6 2, x0, cols, signedOf 32 (beAt raw 12 4), rows, cells⟩

/-- R138: two parts of one seed overlap. -/
def seedOverlap (p q : SeedPart) : Bool :=
  decide (p.x0 < q.x0 + q.cols) && decide (q.x0 < p.x0 + p.cols) &&
    decide (p.y0 < q.y0 + q.rows) && decide (q.y0 < p.y0 + p.rows)

/-- R138: a part may join the earlier parts of its seed. -/
def seedJoins (x : Stripe) (p : SeedPart) : Bool :=
  (x.seeds.filter (fun q => q.use = p.use)).all fun q =>
    q.parts = p.parts && q.part ≠ p.part && !seedOverlap p q

/-- R69: the descriptor's flag for a use. -/
def seedFlag (d : Desc) (use : Nat) : Bool :=
  if use = 0 then d.seedLeft else if use = 1 then d.seedRight else d.seedUnder

/-- R69, R71, R86: a seed chunk of stream i is refused with an event, and its stripe with it while that is PENDING; one that names a
refused stripe is discarded with 0x0605. -/
def State.refuseSeed (s : State) (i seq use : Nat) : State :=
  (if s.stripeSt seq = some .pending then s.refuse seq use 0x0610
   else if s.stripeSt seq = some .refused then s.raise 0x0605 [w seq, w use]
   else s.raise 0x0610 [w seq, w use]).loseHistory i

/-- R69, R138: a seed chunk of stream i for a stripe already taken. -/
def State.seedFor (s : State) (i bid : Nat) (raw : Bytes) : State :=
  let seq := bid / 65536
  let use := bid % 65536
  match s.stripe seq with
  | none => s.refuseSeed i seq use
  | some x =>
    if x.st ≠ .pending then s.refuseSeed i seq use
    else
      match parseSeed s.variant use raw with
      | none => s.refuseSeed i seq use
      | some p =>
        if seedFlag x.d use && seedJoins x p then s.updStripe seq (fun x => { x with seeds := x.seeds ++ [p] })
        else s.refuseSeed i seq use

/-- R69: a seed chunk of stream i that has passed the codec: used, held for its descriptor, or refused. What is held for a
descriptor that is then refused stays held and counts (log 77). -/
def State.seedChunk (s : State) (i bid : Nat) (raw : Bytes) : State :=
  let seq := bid / 65536
  if 2 < bid % 65536 then s.refuseSeed i seq (bid % 65536)
  else if s.job.nextSeq ≤ seq ∨ s.sieve.held.any (fun x => x.seq = seq) then
    if s.sieve.seeds.length < 32 then { s with sieve := { s.sieve with seeds := s.sieve.seeds ++ [(i, bid, raw)] } }
    else
      let old := (s.sieve.seeds.headD (0, 0, [])).2.1
      { s with sieve := { s.sieve with seeds := s.sieve.seeds.drop 1 ++ [(i, bid, raw)] } }.raise 0x0610
        [w (old / 65536), w (old % 65536)]
  else s.seedFor i bid raw

/-- R69: held seed chunks of a stripe just taken are judged in order of arrival. -/
def State.useSeeds (s : State) (seq : Nat) : State :=
  let mine := s.sieve.seeds.filter (fun e => e.2.1 / 65536 = seq)
  mine.foldl (fun s e => s.seedFor e.1 e.2.1 e.2.2)
    { s with sieve := { s.sieve with seeds := s.sieve.seeds.filter (fun e => e.2.1 / 65536 ≠ seq) } }

/-! ### Descriptors -/

/-- Table 2.5: the descriptor's fields. -/
def parseDesc (b : Bytes) : Desc :=
  { seq := beAt b 8 3, layer := beAt b 12 3, slot := beAt b 16 2, slotsM1 := beAt b 18 2,
    yOrigin := signedOf 32 (beAt b 20 4), dir := byteAt b 11 % 2, lenM1 := beAt b 25 3, tau := beAt b 30 2 % 8192,
    geomKib := beAt b 32 4, seedUnder := (byteAt b 11).testBit 3, seedRight := (byteAt b 11).testBit 2,
    seedLeft := (byteAt b 11).testBit 1 }

/-- R57, R60, R87, R128: what makes a descriptor invalid (event 0x060F); 0x060B for a size over the limit. -/
def State.descBad (s : State) (h : DcfHdr) (b : Bytes) : Option Nat :=
  let d := parseDesc b
  if b.length ≠ 64 ∨ h.histReset = false ∨ h.bandId ≠ bandId d.seq 0 ∨ beAt b 0 4 ≠ 0x53440001 ∨
      beAt b 4 4 ≠ s.rd Reg.GLOBAL_JOB_ID.job ∨ s.jobSt = jobIdle ∨ byteAt b 11 / 16 ≠ 0 ∨ byteAt b 15 ≠ 0 ∨
      byteAt b 24 ≠ 0 ∨ beAt b 28 4 / 8192 ≠ 0 ∨ (b.drop 36).any (fun x => x ≠ 0#8) ∨ d.slotsM1 < d.slot ∨
      d.tau < 800 ∨ 6400 < d.tau ∨ d.yOrigin % 64 ≠ 0 ∨
      s.job.slotsM1.any (fun e => e.1 = d.layer && e.2 ≠ d.slotsM1) then some 0x060F
  else if s.rd Reg.SIEVE_STRIPE_MAX.max_mib * 1048576 < d.geomKib * 1024 then some 0x060B
  else none

/-- R29: the layer index is in order. -/
def State.layerOk (s : State) (layer : Nat) : Bool :=
  match s.job.lastLayer with
  | none => true
  | some l => layer = l || layer = l + 1

/-- R30: the bound on the tick number of the stripe's last tick. -/
def State.tickBound (s : State) (d : Desc) : Nat :=
  s.job.nextTick + (s.queue.map (fun x => x.d.len + 8176 + 960)).sum + 960 + d.len + 8175

/-- R133: bytes of a stripe's density map. -/
def mapBytes (v : Nat) (d : Desc) : Nat := 2 * cellsOf v * cellRows d.len

/-- R133: a layer's maps may be freed. -/
def State.layerFree (s : State) (l : Nat) : Bool :=
  match s.job.lastLayer with
  | none => false
  | some top =>
    decide (l + 2 ≤ top) &&
      s.sieve.stripes.all (fun x => (x.d.layer ≠ l && x.d.layer ≠ l + 1) || !inQueue x)

/-- R133: stripes of freed layers are forgotten with their maps. -/
def State.freeMaps (s : State) : State :=
  { s with sieve := { s.sieve with stripes := s.sieve.stripes.filter (fun x => !s.layerFree x.d.layer) } }

/-- R133: the density-map region cannot take the stripe's map. -/
def State.mapFull (s : State) (d : Desc) : Bool :=
  let held := (s.sieve.stripes.filter (fun x => x.st ≠ .refused)).map (fun x => mapBytes s.variant x.d)
  decide (s.rd (Reg.DMC_REGION.size 2) * 2 ^ 28 < held.sum + mapBytes s.variant d)

/-- A stripe as its descriptor is taken (or refused in sequence). -/
def newStripe (d : Desc) (st : StripeSt) (stream budget : Nat) : Stripe :=
  { d := d, st := st, stream := stream, budget := budget, bands := [], rawSum := 0, dens := [], densDone := [],
    densRetry := [], seeds := [], firstTick := none, fParams := none, fRows := [], fSubst := [], latch := none,
    nFirst := 0, fixed := 0, computed := 0, launched := 0, t0 := 0, truncated := false, recFallback := false, dynRec := false, told := [],
    sigDone := false }

def State.addStripe (s : State) (x : Stripe) : State :=
  { s with sieve := { s.sieve with stripes := s.sieve.stripes ++ [x] } }

/-- R29, R60, R133: the refusal of a descriptor in sequence, which consumes its number; the last number consumed is the highest. -/
def State.refuseDesc (s : State) (i : Nat) (d : Desc) (code : Nat) : State :=
  ({ s with job := { s.job with nextSeq := Nat.max s.job.nextSeq (d.seq + 1) } }.addStripe (newStripe d .refused i 0)).refuse d.seq 0 code

/-- R29, R58: a descriptor is taken: the stripe is PENDING, its number and layer are consumed, its held seeds are judged. The
slots_m1 of a layer that a later descriptor is compared with (R60) is that of a descriptor taken (log 76). -/
def State.takeDesc (s : State) (i : Nat) (d : Desc) : State :=
  let job := { s.job with
    nextSeq := Nat.max s.job.nextSeq (d.seq + 1), lastLayer := some d.layer, firstLayer := some (s.job.firstLayer.getD d.layer)
    slotsM1 := (d.layer, d.slotsM1) :: s.job.slotsM1.filter (fun e => e.1 ≠ d.layer) }
  let s := ({ s with job := job }.addStripe (newStripe d .pending i (s.rd Reg.SIEVE_EDGE_BUDGET.budget))).freeMaps
  ((s.updStream i (fun st => { st with lastDesc := some d.seq })).mirrorPointers d.seq).useSeeds d.seq

/-- R133: no room for the stripe's map once its descriptor counts as taken and every map that may be freed is. -/
def State.mapRefused (s : State) (d : Desc) : Bool :=
  let t : State := { s with job := { s.job with lastLayer := some d.layer } }
  t.freeMaps.mapFull d

/-- R29, R30, R60, R133, R281: judge a descriptor whose number is next in sequence: the event that refuses it, if any. Where several
hold, the order of the tests is the model's choice; an invalid descriptor too is first repeated, held or next by its number (log
76). -/
def State.judgeDesc (s : State) (h : DcfHdr) (b : Bytes) : Option Nat :=
  let d := parseDesc b
  if s.rd Reg.GLOBAL_JOB.end_given = 1 ∧ s.rd Reg.GLOBAL_JOB.last_seq < d.seq then some 0x060D
  else if s.layerOk d.layer = false then some 0x060D
  else
    match s.descBad h b with
    | some c => some c
    | none =>
      if s.rd (Reg.DMC_REGION.size 7) * 2 ^ 28 < stripeTicks d.len * 288 then some 0x0616
      else if 2 ^ 40 - 1 < s.tickBound d then some 0x060E
      else if s.mapRefused d then some 0x0614
      else none

/-- The outcome of an in-sequence descriptor. -/
def State.settleDesc (s : State) (i : Nat) (h : DcfHdr) (b : Bytes) : State :=
  match s.judgeDesc h b with
  | some code => s.refuseDesc i (parseDesc b) code
  | none => s.takeDesc i (parseDesc b)

def State.holdDesc (s : State) (x : HeldDesc) : State :=
  ({ s with sieve := { s.sieve with held := s.sieve.held ++ [x] } }).updStream x.stream (fun st => { st with holding := true })

/-- R58: when a hold that begins now ends. -/
def State.holdEnd (s : State) : Nat := s.now + 1000 * s.rd Reg.SIEVE_HOLD.hold_us

/-- R29: the descriptor repeats a number already taken, held or refused. -/
def State.descRepeats (s : State) (seq : Nat) : Bool :=
  decide (seq < s.job.nextSeq) || s.sieve.held.any (fun x => x.seq = seq)

/-- R29, R58, R59: a descriptor arrives: repeated, waiting for room, in sequence, or held for its predecessor. The refusal of a
repeated one consumes nothing and refuses no stripe: it raises its event alone (log 78). -/
def State.descArrive (s : State) (i : Nat) (h : DcfHdr) (b : Bytes) : State :=
  let seq := (parseDesc b).seq
  if s.descRepeats seq then s.raise 0x060D [w seq, w 0]
  else if 8 ≤ s.queue.length then s.holdDesc ⟨i, b, h, seq, none⟩
  else if seq = s.job.nextSeq then s.settleDesc i h b
  else s.holdDesc ⟨i, b, h, seq, some s.holdEnd⟩

/-- The descriptor that arrives is refused. -/
def State.descRefused (s : State) (h : DcfHdr) (b : Bytes) : Bool :=
  let seq := (parseDesc b).seq
  s.descRepeats seq || (decide (s.queue.length < 8) && seq = s.job.nextSeq && (s.judgeDesc h b).isSome)

/-! ### Bands -/

/-- R67 rows 5 to 12: a geometry band chunk that has passed the codec; whether it is refused. -/
def State.bandJudge (s : State) (i : Nat) (h : DcfHdr) (raw : Bytes) : State × Bool :=
  let seq := h.bandId / 65536
  let band := h.bandId % 65536
  match (s.stream i).lastDesc.bind s.stripe with
  | none => (s.raise 0x0605 [w seq, w band], true)
  | some x =>
    if x.d.seq ≠ seq ∨ x.st = .refused ∨ x.d.lenM1 / 256 < band then (s.refuseChunk i band 0x0605, true)
    else if (tabFind x.bands band).isSome then (s.refuseChunk i band 0x060C, true)
    else if x.st ≠ .pending then (s.raise 0x060C [w seq, w band], true)
    else if x.d.geomKib * 1024 < x.rawSum + raw.length then (s.refuseChunk i band 0x060B, true)
    else
      match checkBand s.variant x.d.lenM1 seq band x.budget raw with
      | .error code => (s.refuseChunk i band code, true)
      | .ok b =>
        let s := s.updStripe seq (fun x => { x with bands := tabPut x.bands band b, rawSum := x.rawSum + raw.length })
        ({ s with sieve := { s.sieve with densQ := s.sieve.densQ ++ [(seq, band)] } }, false)

/-- A chunk of a geometry stream, passed or failed by the codec (R453, R56); whether it is refused. -/
def State.geomJudge (s : State) (i : Nat) (h : DcfHdr) (r : ChunkRes) : State × Bool :=
  match r with
  | .fail code =>
    (if h.typ = 4 then s.raise code [w (h.bandId / 65536), w 0] else s.refuseChunk i (h.bandId % 65536) code, true)
  | .pass raw => if h.typ = 4 then (s.descArrive i h raw, s.descRefused h raw) else s.bandJudge i h raw

/-- R84, R86: a chunk of a geometry stream; the output of one refused after it was decoded does not count, and the history is
unavailable. -/
def State.geomChunk (s : State) (i : Nat) (h : DcfHdr) (r : ChunkRes) : State :=
  match r with
  | .fail _ => (s.geomJudge i h r).1
  | .pass _ => if (s.geomJudge i h r).2 then (s.geomJudge i h r).1.loseHistory i else (s.geomJudge i h r).1

/-! ### Held descriptors (R58, R59) -/

/-- R86: a chunk held behind a refused one without hist_reset: refused for its history, once its envelope holds. -/
def afterLoss (r : ChunkRes) : ChunkRes :=
  match r with
  | .fail 0x0604 => .fail 0x0604
  | _ => .fail 0x0612

/-- R81, R86, R102: the decoder's registers of a held chunk refused for its history. -/
def State.noteLost (s : State) (i : Nat) (h : DcfHdr) (r : ChunkRes) : State :=
  match r with
  | .fail 0x0604 => s
  | _ => s.wrs [(Reg.CODEC_DEC_ERR.stream, i), (Reg.CODEC_DEC_ERR.reason, 10), (Reg.CODEC_DEC_ERR.seq, h.seq), (Reg.CODEC_DEC_BIT.bit, 0)]

/-- Chunks held behind a descriptor, in order, until another descriptor of the stream is held; `lost`: the history is unavailable
to them (R86). -/
def State.runHeld (s : State) (i : Nat) (lost : Bool) : List (DcfHdr × ChunkRes) → State
  | [] =>
    let s := s.updStream i (fun st => { st with heldChunks := [] })
    if lost then s.loseHistory i else s
  | (h, r) :: rest =>
    let gone := lost && !h.histReset
    let (s, bad) := (if gone then s.noteLost i h r else s).geomJudge i h (if gone then afterLoss r else r)
    if (s.stream i).holding then s.updStream i (fun st => { st with heldChunks := rest })
    else s.runHeld i (gone || bad) rest

/-- R58: chunks held behind a refused descriptor are discarded as chunks of a refused stripe, up to the next descriptor of
the stream. -/
def State.dropHeld (s : State) (i : Nat) : List (DcfHdr × ChunkRes) → State
  | [] => s.runHeld i true []
  | (h, r) :: rest =>
    if h.typ = 4 then s.runHeld i true ((h, r) :: rest)
    else (s.raise 0x0605 [w (h.bandId / 65536), w (h.bandId % 65536)]).dropHeld i rest

/-- Release a held descriptor from its stream. -/
def State.release (s : State) (x : HeldDesc) : State :=
  let s := { s with sieve := { s.sieve with held := s.sieve.held.filter (fun y => y.seq ≠ x.seq) } }
  s.updStream x.stream (fun st => { st with holding := false })

/-- R58, R59: the held descriptor that may be settled now: the next number, or one left behind it waiting for room alone. -/
def State.readyHeld (s : State) : Option HeldDesc :=
  if s.queue.length < 8 then s.sieve.held.find? (fun x => decide (x.seq ≤ s.job.nextSeq)) else none

/-- R58: held descriptors are settled one after another while one may be; what each held behind it follows it. -/
def State.pumpHeld (s : State) : Nat → State
  | 0 => s
  | fuel + 1 =>
    match s.readyHeld with
    | none => s
    | some x =>
      let t := s.release x
      let behind := (t.stream x.stream).heldChunks
      match t.judgeDesc x.hdr x.raw with
      | some code => ((t.refuseDesc x.stream (parseDesc x.raw) code).dropHeld x.stream behind).pumpHeld fuel
      | none => ((t.takeDesc x.stream (parseDesc x.raw)).runHeld x.stream false behind).pumpHeld fuel

/-- R59: once the queue has room, the hold of a descriptor that waited for it and still lacks its predecessor begins. -/
def State.startHolds (s : State) : State :=
  if 8 ≤ s.queue.length then s
  else { s with sieve := { s.sieve with
    held := s.sieve.held.map (fun x => if x.due.isNone && decide (s.job.nextSeq < x.seq) then { x with due := some s.holdEnd } else x) } }

/-- R58: a predecessor taken or refused lets held descriptors be settled. -/
def State.settleHeld (s : State) : State := (s.pumpHeld (s.sieve.held.length + 16)).startHolds

/-- R59: a held descriptor whose predecessors have all arrived waits for room alone. -/
def State.waitsRoom (s : State) (x : HeldDesc) : Bool :=
  (List.range (x.seq - s.job.nextSeq)).all (fun k => s.sieve.held.any (fun y => y.seq = s.job.nextSeq + k))

/-- R58: the predecessor of a held descriptor has arrived: it is held itself, or its number has been consumed. -/
def State.predecessorCame (s : State) (x : HeldDesc) : Bool :=
  decide (x.seq ≤ s.job.nextSeq) || s.sieve.held.any (fun y => y.seq + 1 = x.seq)

/-- R58, R59: the hold of a descriptor expires: it and every held number below it are refused, lowest first, and those numbers are
consumed; a descriptor below that waits for room alone stays (log 75). -/
def State.expireHeld (s : State) (x : HeldDesc) : State :=
  let gone := (List.range (x.seq + 1 - s.job.nextSeq)).filterMap (fun k =>
    s.sieve.held.find? (fun y => y.seq = s.job.nextSeq + k && !s.waitsRoom y))
  let s : State := { s with job := { s.job with nextSeq := Nat.max s.job.nextSeq (x.seq + 1) } }
  (gone.foldl (fun s y =>
    ((s.release y).refuseDesc y.stream (parseDesc y.raw) 0x060D).dropHeld y.stream (s.stream y.stream).heldChunks) s).settleHeld

/-! ### Admission (R68) -/

/-- R13: the neighbours of a stripe on one side: same layer, slot one lower (left) or one higher (right), not refused. -/
def State.neighbours (s : State) (x : Stripe) (left : Bool) : List Stripe :=
  s.sieve.stripes.filter fun y =>
    y.d.layer = x.d.layer && y.st ≠ .refused && (if left then y.d.slot + 1 = x.d.slot else y.d.slot = x.d.slot + 1)

/-- R13: the side lies off the job edge. -/
def offEdge (d : Desc) (left : Bool) : Bool := if left then d.slot = 0 else d.slot = d.slotsM1

/-- Table 2.8: the halo condition of one side. Where several unrefused stripes of the neighbouring slot are known, all of them must have
complete maps (log 82). -/
def State.haloOk (s : State) (x : Stripe) (left : Bool) : Bool :=
  if (if left then x.d.seedLeft else x.d.seedRight) then seedComplete x (if left then 0 else 1)
  else if offEdge x.d left then true
  else
    let ns := s.neighbours x left
    !ns.isEmpty && ns.all densComplete

/-- R68: the under-layer condition. -/
def State.underOk (s : State) (x : Stripe) : Bool :=
  if x.d.seedUnder then seedComplete x 2
  else if s.job.firstLayer = some x.d.layer then true
  else s.sieve.stripes.all fun y => y.d.layer + 1 ≠ x.d.layer || !inQueue y || densComplete y

/-- R68: the trim table is frozen for the stripe: the last commit point before it has passed. -/
def State.trimFrozen (s : State) (x : Stripe) : Bool :=
  (s.jobSt = jobArmed || s.jobSt = jobTurnaround || s.jobSt = jobSuspended) &&
    s.queue.all (fun y => decide (x.d.seq ≤ y.d.seq)) &&
    (s.role ≠ roleStandby || (s.pair.trimHeld && s.pair.trimDue.isNone))

/-- R68: all five conditions. -/
def State.admissible (s : State) (x : Stripe) : Bool :=
  x.st = .pending && x.bands.length = bandsOf x.d.lenM1 && densComplete x && s.haloOk x true && s.haloOk x false &&
    s.underOk x && s.trimFrozen x

/-! ### Commands -/

/-- DESCRIPTOR_HOLD_TIMEOUT (R58): the hold ends and the predecessor has not arrived. -/
def execDescriptorHoldTimeout (seq : Nat) (s : State) : Host.Outcome State Fault Refusal :=
  match s.sieve.held.find? (fun x => x.seq = seq) with
  | none => .next s
  | some x =>
    match x.due with
    | none => .next s
    | some t => if s.now < t ∨ s.predecessorCame x then .next s else .next (s.expireHeld x)

/-- DESCRIPTOR_QUEUE_ROOM (R59). -/
def execDescriptorQueueRoom (s : State) : Host.Outcome State Fault Refusal := .next s.settleHeld

/-- Table 2.8: the stripes of whose density maps the admission of a stripe depends: the neighbours on sides that neither a seed nor the
job edge covers. -/
def State.mapsNeeded (s : State) (x : Stripe) : List Stripe :=
  (if x.d.seedLeft || offEdge x.d true then [] else s.neighbours x true) ++
    (if x.d.seedRight || offEdge x.d false then [] else s.neighbours x false)

/-- The band's geometry is still in the spool; it leaves with the stripe's last tick. -/
def Stripe.inSpool (x : Stripe) : Bool := x.rawSum ≠ 0

/-- Table 2.8: a neighbour's map fails a line check: it is computed again from its geometry while that remains in the spool; otherwise
the side waits for a seed map. -/
def State.failMap (s : State) (y : Stripe) : State :=
  let s := s.updStripe y.d.seq (fun y => { y with dens := [], densDone := [] })
  if y.inSpool then { s with sieve := { s.sieve with
    densQ := s.sieve.densQ ++ (List.range (bandsOf y.d.lenM1)).map (fun b => (y.d.seq, b)) } }
  else s

/-- The maps that fail a line check as the halo condition of a pending stripe is judged. -/
def State.checkMaps (s : State) (seq : Nat) (bad : List Nat) : State :=
  match s.stripe seq with
  | none => s
  | some x =>
    if x.st ≠ .pending then s
    else ((s.mapsNeeded x).filter (fun y => bad.contains y.d.seq && densComplete y)).foldl (fun s y => s.failMap y) s

/-- STRIPE_ADMIT (R68, R70); `bad`: stripes whose density map fails a line check as it is read. -/
def execStripeAdmit (seq : Nat) (bad : List Nat) (s : State) : Host.Outcome State Fault Refusal :=
  let s := s.checkMaps seq bad
  match s.stripe seq with
  | none => .next s
  | some x => if s.admissible x then
      .next ((s.updStripe seq (fun x => { x with st := .admitted })).mirrorPointers seq)
    else .next s

/-- R130: the density rows of a band. -/
def bandDensity (v : Nat) (b : Band) (band : Nat) (t : Tab (List Nat)) : Tab (List Nat) :=
  (List.range 4).foldl (fun t r =>
    if 64 * r < b.lines then tabPut t (4 * band + r) ((List.range (cellsOf v)).map fun x => cellDensity b.shapes b.lines x r)
    else t) t

/-- R131: a band's density cells are stored. -/
def State.densityDone (s : State) (seq band : Nat) : State :=
  match s.stripe seq with
  | none => s
  | some x =>
    match tabFind x.bands band with
    | none => s
    | some b => s.updStripe seq (fun x =>
        { x with dens := bandDensity s.variant b band x.dens, densDone := band :: x.densDone,
                 densRetry := x.densRetry.filter (fun e => e.1 ≠ band) })

/-- DENSITY_PREPASS_BAND (R131, R134): the coarse renderer finishes the band at the head of its queue, or its fetch fails
twice and the band waits for its retry. -/
def execDensityPrepassBand (fetched : Bool) (s : State) : Host.Outcome State Fault Refusal :=
  match s.sieve.densQ with
  | [] => .next s
  | (seq, band) :: rest =>
    let s := { s with sieve := { s.sieve with densQ := rest } }
    if fetched then .next (s.densityDone seq band)
    else .next (s.updStripe seq (fun x => { x with densRetry := (band, s.now + 1000000) :: x.densRetry }))

/-- DENSITY_FETCH_RETRY (R134). -/
def execDensityFetchRetry (seq band : Nat) (fetched : Bool) (s : State) : Host.Outcome State Fault Refusal :=
  match s.stripe seq with
  | none => .next s
  | some x =>
    match x.densRetry.find? (fun e => e.1 = band) with
    | none => .next s
    | some (_, due) =>
      if s.now < due then .next s
      else if fetched then .next (s.densityDone seq band)
      else .next (s.refuse seq band 0x0615)

end Sys2Proof.Machine
end

