-- ==== Sys2Proof/Machine/Pec.lean ====
section
/-! DEFINITION. Density sources, the correction arithmetic and the PEC engine (ch. 5). -/

namespace Sys2Proof.Machine

/-! ### Where each density value comes from (R135, R136) -/

/-- The density a stripe's map holds at its own cell; 0 outside. -/
def mapCell (x : Stripe) (cx cy : Int) : Nat :=
  if cx < 0 ∨ cy < 0 then 0 else ((tabFind x.dens cy.toNat).getD []).getD cx.toNat 0

/-- The seed value of a use at a cell; 0 where no part covers it. -/
def seedCell (x : Stripe) (use : Nat) (cx cy : Int) : Nat :=
  match x.seeds.find? (fun p => p.use = use && decide (p.x0 ≤ cx) && decide (cx < p.x0 + p.cols) && decide (p.y0 ≤ cy) &&
      decide (cy < p.y0 + p.rows)) with
  | none => 0
  | some p => p.cells.getD (((cy - p.y0) * p.cols + (cx - p.x0)).toNat) 0

/-- R128: the cell row of stripe y that lies at cell row cy of stripe x. -/
def sameRow (x y : Stripe) (cy : Int) : Int := x.d.yOrigin / 64 + cy - y.d.yOrigin / 64

/-- R135, Table 5.1: in-plane density of a cell of a stripe. -/
def State.density (s : State) (x : Stripe) (cx cy : Int) : Nat :=
  let wc : Int := cellsOf s.variant
  if cx < -wc ∨ 2 * wc ≤ cx then 0
  else if 0 ≤ cx ∧ cx < wc then
    (if 0 ≤ cy ∧ cy < (cellRows x.d.len : Int) then mapCell x cx cy else 0)
  else
    let left : Bool := decide (cx < 0)
    if (if left then x.d.seedLeft else x.d.seedRight) then seedCell x (if left then 0 else 1) cx cy
    else if offEdge x.d left then 0
    else ((s.neighbours x left).map (fun y => mapCell y (if left then cx + wc else cx - wc) (sameRow x y cy))).sum

/-- R136, Table 5.2: under-layer density of a cell of a stripe (mode in-plane plus under-layer). Rows 3 and 4 give zero because no
stripe known covers such a cell: none of the layer before lies outside its slots, and the first layer has none before it. A map
copied to a synchronising standby counts as any other (R367). -/
def State.densityUnder (s : State) (x : Stripe) (cx cy : Int) : Nat :=
  let wc : Int := cellsOf s.variant
  if x.d.seedUnder then seedCell x 2 cx cy
  else
    let col := (x.d.slot : Int) * wc + cx
    ((s.sieve.stripes.filter (fun y => y.d.layer + 1 = x.d.layer && y.st ≠ .refused && decide ((y.d.slot : Int) = col / wc))).map
      (fun y => mapCell y (col % wc) (sameRow x y cy))).sum

/-- The density reach of a stripe (R129). -/
def inReach (v : Nat) (len : Nat) (cx cy : Int) : Bool :=
  decide (-65 ≤ cx) && decide (cx ≤ (cellsOf v : Int) + 64) && decide (-65 ≤ cy) && decide (cy ≤ (cellRows len : Int) + 64)

/-! ### The correction arithmetic (R139 to R142) -/

def u32max : Nat := 2 ^ 32 - 1

/-- R140: the x pass on one cell row. -/
def convX (m : Int → Int → Nat) (kx : Nat → Nat) (x y : Int) : Nat :=
  Nat.min u32max ((((List.range 129).map (fun i => kx i * m (x + i - 64) y)).sum + 2 ^ 15) >>> 16)

/-- R140: a separable kernel at a cell. -/
def conv (m : Int → Int → Nat) (kx ky : Nat → Nat) (x y : Int) : Nat :=
  Nat.min u32max ((((List.range 129).map (fun j => ky j * convX m kx x (y + j - 64))).sum + 2 ^ 15) >>> 16)

/-- Tap i of kernel table t. -/
def PecParams.tap (p : PecParams) (t i : Nat) : Nat := tabGet 0 p.tabs (t * 256 + i)

/-- R141: F of a cell from its sum s (Q4.28): value, clamped high, clamped low. -/
def factorOf (fBase : Nat) (s : Int) : Nat × Bool × Bool :=
  let den0 : Int := 2 ^ 28 + s
  let floored : Bool := decide (den0 < 2 ^ 24)
  let den : Int := if floored then 2 ^ 24 else den0
  let f : Int := ((fBase : Int) * 2 ^ 28 + den / 2) / den
  if 65535 < f then (65535, true, false) else if f < 256 then (256, floored, true) else (f.toNat, floored, false)

/-- R141: the weighted sum of a cell. -/
def pecSum (p : PecParams) (d du : Int → Int → Nat) (x y : Int) : Int :=
  let inPlane := ((List.range 4).map fun k =>
    if p.kEn.testBit k then signedOf 16 (p.weights.getD k 0) * (conv d (p.tap (2 * k)) (p.tap (2 * k + 1)) x y : Int)
    else 0).foldl (· + ·) 0
  if p.mode = 2 then inPlane + signedOf 16 p.weightU * (conv du (p.tap 8) (p.tap 9) x y : Int) else inPlane

/-- R142: the density map of the second iteration. -/
def secondMap (v len : Nat) (p : PecParams) (d du : Int → Int → Nat) (x y : Int) : Nat :=
  if -1 ≤ x ∧ x ≤ (cellsOf v : Int) ∧ -1 ≤ y ∧ y ≤ (cellRows len : Int) then
    (d x y * (factorOf p.fBase (pecSum p d du x y)).1 + 2048) >>> 12
  else (d x y * p.fBase + 2048) >>> 12

/-- R141 to R143: F of a cell of the footprint. -/
def pecFactor (v len : Nat) (p : PecParams) (d du : Int → Int → Nat) (x y : Int) : Nat × Bool × Bool :=
  if p.mode = 0 then (p.fBase, false, false)
  else if p.iter = 0 then factorOf p.fBase (pecSum p d du x y)
  else factorOf p.fBase (pecSum p (secondMap v len p d du) du x y)

/-- R151: a density cell counts as zero for row number i of the map. -/
def zeroed (x : Stripe) (i : Nat) (under : Bool) (cx cy : Int) : Bool :=
  x.fSubst.any (fun e => e.1 = under && e.2.1 = cx && e.2.2.1 = cy && decide (e.2.2.2 ≤ i))

/-- R135, R151: in-plane density within the reach, for row number i. -/
def State.pecD (s : State) (x : Stripe) (i : Nat) (cx cy : Int) : Nat :=
  if !inReach s.variant x.d.len cx cy || zeroed x i false cx cy then 0 else s.density x cx cy

/-- R136, R151: under-layer density within the reach, for row number i. -/
def State.pecU (s : State) (x : Stripe) (i : Nat) (cx cy : Int) : Nat :=
  if !inReach s.variant x.d.len cx cy || zeroed x i true cx cy then 0 else s.densityUnder x cx cy

/-- R146: the number of a cell row in the scan order of the stripe. -/
def rowNo (d : Desc) (y : Int) : Nat := if d.dir = 0 then (y + 1).toNat else ((cellRows d.len : Int) - y).toNat

/-- R129: one cell row of F, cells −1 to W_c. -/
def State.pecRow (s : State) (x : Stripe) (p : PecParams) (y : Int) : List (Nat × Bool × Bool) :=
  let n := rowNo x.d y
  (List.range (cellsOf s.variant + 2)).map fun (i : Nat) => pecFactor s.variant x.d.len p (s.pecD x n) (s.pecU x n) ((i : Int) - 1) y

/-! ### The engine (R144, R146, R150, R151) -/

/-- R146: the cell row completed as number i, in the scan order of the stripe. -/
def rowAt (d : Desc) (i : Nat) : Int := if d.dir = 0 then (i : Int) - 1 else (cellRows d.len : Int) - i

/-- F_MAP_START (R144, R146): the free engine starts the map of the lowest-numbered stripe admitted whose map has not been
computed, latching the live set. In mode off no computation runs (R143). -/
def execFMapStart (s : State) : Host.Outcome State Fault Refusal :=
  if s.pec.stripe.isSome then .next s
  else
    match s.sieve.stripes.find? (fun x => x.fParams.isNone && (x.st = .admitted || x.st = .armed || x.st = .exposing)) with
    | none => .next s
    | some x =>
      let s := s.updStripe x.d.seq (fun x => { x with fParams := some s.pec.live })
      let s := s.wrs [(Reg.PEC_STATUS.seq, x.d.seq), (Reg.PEC_STATUS.first_ready, 0), (Reg.PEC_STATUS.substituted, 0),
        (Reg.PEC_ROW.rows, 0)]
      if s.pec.live.mode = 0 then .next s
      else .next ({ s with pec := { s.pec with stripe := some x.d.seq, rows := 0 } }.wrs
        [(Reg.PEC_STATUS.busy, 1), (Reg.PEC_CLAMP.clamp_hi, 0), (Reg.PEC_CLAMP.clamp_lo, 0)])

/-- R151: a stripe's records of a cell row are in the geometry spool. -/
def spooledRow (y : Stripe) (cy : Int) : Bool := y.inSpool && decide (0 ≤ cy) && (tabFind y.bands (cy / 4).toNat).isSome

/-- R151: a cell's density can be computed again from band records still in the geometry spool. -/
def State.recomputable (s : State) (x : Stripe) (under : Bool) (cx cy : Int) : Bool :=
  let wc : Int := cellsOf s.variant
  if under then
    !x.d.seedUnder && s.sieve.stripes.any (fun y => y.d.layer + 1 = x.d.layer &&
      decide ((y.d.slot : Int) = ((x.d.slot : Int) * wc + cx) / wc) && spooledRow y (sameRow x y cy))
  else if 0 ≤ cx ∧ cx < wc then spooledRow x cy
  else
    let left : Bool := decide (cx < 0)
    !(if left then x.d.seedLeft else x.d.seedRight) && (s.neighbours x left).any (fun y => spooledRow y (sameRow x y cy))

/-- R151: a density cell that cannot be read after refetch, for row number i of the stripe's map: it counts as zero when its records
are gone. The event names the layer cell. -/
def State.substitute (s : State) (seq i : Nat) (c : Bool × Int × Int) : State :=
  match s.stripe seq with
  | none => s
  | some x =>
    if s.recomputable x c.1 c.2.1 c.2.2 || zeroed x i c.1 c.2.1 c.2.2 then s
    else
      let s := s.updStripe seq (fun x => { x with fSubst := (c.1, c.2.1, c.2.2, i) :: x.fSubst })
      ((s.inc Reg.PEC_ERR.d_subst).wr Reg.PEC_STATUS.substituted 1).raise 0x0533
        [w seq, w (if c.1 then x.d.layer - 1 else x.d.layer), w (toField 32 ((x.d.slot : Int) * (cellsOf s.variant : Int) + c.2.1)),
          w (toField 32 (x.d.yOrigin / 64 + c.2.2))]

/-- R146: store a cell row of a stripe's map. -/
def State.storeRow (s : State) (seq : Nat) (y : Int) (row : List Nat) : State :=
  s.updStripe seq (fun x => { x with fRows := tabPut x.fRows (y + 1).toNat row })

/-- R146, R152: the engine is free. -/
def State.freePec (s : State) : State := { s with pec := { s.pec with stripe := none } }.wr Reg.PEC_STATUS.busy 0

/-- R146, R141: the next row of the running map; the clamps of the final iteration are counted. -/
def State.nextRow (s : State) (x : Stripe) (p : PecParams) : State :=
  let y := rowAt x.d s.pec.rows
  let row := s.pecRow x p y
  let s := s.storeRow x.d.seq y (row.map (·.1))
  let s := (s.incBy Reg.PEC_CLAMP.clamp_hi (row.countP (fun e => e.2.1))).incBy Reg.PEC_CLAMP.clamp_lo (row.countP (fun e => e.2.2))
  let n := s.pec.rows + 1
  let s : State := { s with pec := { s.pec with rows := n } }.wr Reg.PEC_ROW.rows n
  let s := if n = 8 ∨ n = cellRows x.d.len + 2 then s.wr Reg.PEC_STATUS.first_ready 1 else s
  if n < cellRows x.d.len + 2 then s
  else
    let s := s.freePec
    if s.rd Reg.PEC_CLAMP.clamp_hi = 0 ∧ s.rd Reg.PEC_CLAMP.clamp_lo = 0 then s
    else s.raise 0x0531 [w x.d.seq, w (s.rd Reg.PEC_CLAMP.clamp_hi), w (s.rd Reg.PEC_CLAMP.clamp_lo)]

/-- R150: a row is computed again, with the substitutions it had. -/
def State.redoRow (s : State) (seq : Nat) (y : Int) : State :=
  match s.stripe seq with
  | none => s
  | some x =>
    match x.fParams with
    | none => s
    | some p => s.storeRow seq y ((s.pecRow x p y).map (·.1))

/-- F_ROW_DONE (R146, R150, R151): the engine completes a row: one to recompute first, otherwise the next of the map in
progress. `unread` names density cells that fail after refetch (under-layer or not, X, Y). -/
def execFRowDone (unread : List (Bool × Int × Int)) (s : State) : Host.Outcome State Fault Refusal :=
  match s.pec.redo with
  | (seq, y) :: rest =>
    let s := { s with pec := { s.pec with redo := rest } }
    let i := ((s.stripe seq).map (fun x => rowNo x.d y)).getD 0
    .next ((unread.foldl (fun s c => s.substitute seq i c) s).redoRow seq y)
  | [] =>
    match s.pec.stripe with
    | none => .next s
    | some seq =>
      let i := s.pec.rows
      let s := unread.foldl (fun s c => s.substitute seq i c) s
      match s.stripe seq with
      | none => .next s.freePec
      | some x =>
        match x.fParams with
        | none => .next s.freePec
        | some p => .next (s.nextRow x p)

/-- R144: the shadow set, as the registers hold it. -/
def State.pecShadow (s : State) : PecParams :=
  { mode := s.rd Reg.PEC_CTRL.mode, iter := s.rd Reg.PEC_CTRL.iter, kEn := s.rd Reg.PEC_CTRL.k_en,
    fBase := s.rd Reg.PEC_F_BASE.f_base, weights := (List.range 4).map (fun k => s.rd (Reg.PEC_WEIGHT.w k)),
    weightU := s.rd Reg.PEC_WEIGHT_U.w,
    tabs := (List.range 10).foldl (fun t k => (List.range 129).foldl (fun t i =>
      tabSet 0 t (k * 256 + i) (s.rd (Reg.PEC_KTAB.tap k i))) t) [] }

/-- R144: the shadow set becomes live in one step. -/
def State.commitPec (s : State) : State := { s with pec := { s.pec with live := s.pecShadow } }

/-- PEC_COMMIT (R144). -/
def execPecCommit (commit : Bool) (s : State) : Host.Outcome State Fault Refusal := .next (if commit then s.commitPec else s)

/-! ### From cell to pixel (R148) -/

/-- R148: the cells of a pixel: column, row, and the fractions. -/
def pixelCells (x y : Nat) : Int × Int × Nat × Nat :=
  let ax : Int := 2 * x - 63
  let ay : Int := 2 * y - 63
  (ax / 128, ay / 128, (ax % 128).toNat, (ay % 128).toNat)

/-- The stored F of a cell; none while its row is not stored. -/
def fCell (x : Stripe) (cx cy : Int) : Option Nat := (tabFind x.fRows (cy + 1).toNat).map (fun r => r.getD (cx + 1).toNat 0)

/-- R148: bilinear interpolation of four F values. -/
def interpF (fx fy f00 f10 f01 f11 : Nat) : Nat :=
  (f00 * (128 - fx) * (128 - fy) + f10 * fx * (128 - fy) + f01 * (128 - fx) * fy + f11 * fx * fy + 2 ^ 13) >>> 14

/-- R147, R148: F_pix of a pixel: a value, or the cells not stored. -/
def fPix (x : Stripe) (px py : Nat) : Except (List (Int × Int)) Nat :=
  let (cx, cy, fx, fy) := pixelCells px py
  match x.fParams with
  | none => .error [(cx, cy), (cx + 1, cy), (cx, cy + 1), (cx + 1, cy + 1)]
  | some p =>
    if p.mode = 0 then .ok p.fBase
    else
      match fCell x cx cy, fCell x (cx + 1) cy, fCell x cx (cy + 1), fCell x (cx + 1) (cy + 1) with
      | some a, some b, some c, some d => .ok (interpF fx fy a b c d)
      | _, _, _, _ =>
        .error ([(cx, cy), (cx + 1, cy), (cx, cy + 1), (cx + 1, cy + 1)].filter (fun e => (fCell x e.1 e.2).isNone))

end Sys2Proof.Machine
end

