-- ==== Sys2Proof/Config.lean ====
section
/-! DEFINITION. The values the spec leaves open, as constants without a body: nothing in Lean knows a value of them. -/

namespace Sys2Proof.Config

/-- The free values of the model, by the number the state's counter gives out (log 3). -/
opaque freeNat : Nat → Nat

/-- The bytes a compression engine makes of raw bytes, by effort (true: dynamic). R97 and R101 fix what they decode to and R98
their form; which of the encodings is taken is open (log 10). -/
opaque compressed : Bool → Bytes → Bytes

/-- The state, not all 0, that a lane's transmitter sets in its scrambler (R215) and its pattern generator (R233), by lane and core
cycle. (log 17) -/
opaque lineSeed : Nat → Nat → Nat

/-- Codec-private content of a context image, where Table 3.5 fixes a length and no layout (log 11). -/
opaque imagePrivate : Bytes → Bytes

end Sys2Proof.Config
end

