-- ==== Sys2Proof/Machine/Compress.lean ====
section
/-! DEFINITION. The record-side compressor (ch. 3, R98, R99, R101): which encoding an engine makes is open (log 10); what it decodes
to and the form of its blocks are not. -/

namespace Sys2Proof.Machine

/-- R80, R82: the raw content of a whole payload, with an empty history. -/
def unpackPayload (h : DcfHdr) (payload : Bytes) : Option Bytes :=
  if h.raw then some payload
  else
    let c := { Ctx.fresh with phase := .blockHdr }
    match decodeRun h true (h.rawSize + 1) (8 * payload.length + h.rawSize + 16) c (leNat payload) (8 * payload.length) 0 with
    | (c, _, _, .done) => some c.staged.reverse
    | _ => none

/-- R98: what an element of an engine's payload may do, `start` bytes having been produced before its block: fixed effort makes one
fixed-code block with BFINAL set and distances up to 4,096, dynamic effort dynamic-code blocks of at most 16,384 bytes. -/
def elementFits (dyn : Bool) (start : Nat) (c c' : Ctx) : Bool :=
  if dyn then (c.phase ≠ .blockHdr || c'.phase = .dynHdr) && decide (c'.chunkOut ≤ start + 16384) && decide (c'.pendDist ≤ 32768)
  else (c.phase ≠ .blockHdr || (c'.phase = .coded && c'.bfinal)) && decide (c'.pendDist ≤ 4096)

/-- R98: the blocks of an engine's payload have the form of their effort. -/
def blocksFit (h : DcfHdr) (dyn : Bool) : Nat → Ctx → Nat → Nat → Nat → Nat → Bool
  | 0, _, _, _, _, _ => false
  | fuel + 1, c, v, n, pos, start =>
    if c.phase = .finished then true
    else
      match element h true c v n pos with
      | .ok used c' =>
        let start := if c.phase = .blockHdr then c.chunkOut else start
        elementFits dyn start c c' && blocksFit h dyn fuel c' (v >>> used) (n - used) (pos + used) start
      | _ => false

/-- The header of an engine's chunk, with its effort. -/
def engineHdr (h : DcfHdr) (dyn : Bool) (raw payload : Bytes) : DcfHdr :=
  { h with raw := false, fixed := !dyn, dyn := dyn, rawSize := raw.length, compSize := payload.length }

/-- R98, R99, R101: the payload an engine makes of raw bytes; none when it would be at least as long as they are. The open encoding
is taken when it decodes to them and has the form of its effort; one that does not counts as too long (log 10). -/
def engineEncoded (h : DcfHdr) (dyn : Bool) (raw : Bytes) : Option Bytes :=
  let b := Config.compressed dyn raw
  let g := engineHdr h dyn raw b
  if b.length < raw.length ∧ unpackPayload g b = some raw ∧
      blocksFit g dyn (8 * b.length + raw.length + 16) { Ctx.fresh with phase := .blockHdr } (leNat b) (8 * b.length) 0 0 = true then some b
  else none

/-- R99: header and payload of a chunk: compressed, or raw when compression does not help. -/
def engineChunk (h : DcfHdr) (dyn : Bool) (raw : Bytes) : DcfHdr × Bytes :=
  match engineEncoded h dyn raw with
  | some b => (engineHdr h dyn raw b, b)
  | none => ({ h with raw := true, fixed := false, dyn := false, rawSize := raw.length, compSize := raw.length }, raw)

end Sys2Proof.Machine
end

