-- ==== Sys2Proof/Machine/Integrity.lean ====
section
/-! DEFINITION. Lasting faults (R308 to R310), the record spool (R320 to R323) and the bytes of tick log entries (R266). -/

namespace Sys2Proof.Machine

/-! ### NVM and the maintenance lists (Table 14.6, R301, R302, R382) -/

/-- A byte of the configuration NVM (log 7). -/
def State.nvmByte (s : State) (a : Nat) : Byte := tabGet 0xFF#8 s.power.nvm a

def State.nvmBytes (s : State) (a n : Nat) : Bytes := (List.range n).map (fun i => s.nvmByte (a + i))

/-- Program bytes. -/
def State.nvmWrite (s : State) (a : Nat) (b : Bytes) : State :=
  { s with power := { s.power with nvm := tabSetRange 0xFF#8 s.power.nvm a b } }

/-- Erase n bytes: they read 0xFF. -/
def State.nvmErase (s : State) (a n : Nat) : State :=
  { s with power := { s.power with nvm := tabKeep (fun k => k < a || a + n ≤ k) s.power.nvm } }

/-- Table 14.6: where copy c of the maintenance lists lies. -/
def listAddr (c : Nat) : Nat := 0x2410000 + 0x10000 * c

/-- R301, R302: the rows repaired and the blocks retired as bytes with their CRC-32C (order and widths of the fields: log 89). -/
def listBytes (rows blocks : List Nat) : Bytes :=
  let m := toBE 4 rows.length ++ rows.flatMap (toBE 4) ++ toBE 4 blocks.length ++ blocks.flatMap (toBE 4)
  m ++ toBE 4 (crc32c m)

/-- R301, R302: the housekeeping controller programs both copies of the lists. -/
def State.storeLists (s : State) : State :=
  let b := listBytes s.dram.listed s.dram.retired
  (s.nvmWrite (listAddr 0) b).nvmWrite (listAddr 1) b

/-- n words of 4 bytes in NVM. -/
def State.nvmWords (s : State) (a n : Nat) : List Nat := (List.range n).map (fun i => beNat (s.nvmBytes (a + 4 * i) 4))

/-- R382: copy c of the lists, when its CRC holds. -/
def State.listCopy (s : State) (c : Nat) : Option (List Nat × List Nat) :=
  let a := listAddr c
  let n := beNat (s.nvmBytes a 4)
  if 8192 < n then none
  else
    let m := beNat (s.nvmBytes (a + 4 + 4 * n) 4)
    if 64 < m then none
    else
      let rows := s.nvmWords (a + 4) n
      let blocks := s.nvmWords (a + 8 + 4 * n) m
      if s.nvmBytes a (12 + 4 * n + 4 * m) = listBytes rows blocks then some (rows, blocks) else none

/-- R382: start-up loads the lists from the first copy whose CRC holds; with neither they are empty. -/
def State.loadLists (s : State) : State :=
  let l := ((s.listCopy 0).orElse (fun _ => s.listCopy 1)).getD ([], [])
  { s with dram := { s.dram with listed := l.1, retired := l.2 } }

/-! ### Transient and lasting faults -/

/-- R309: CHECK_HIST_FILL follows the history. -/
def State.setHist (s : State) (h : List (Location × Nat)) : State :=
  { s with check := { s.check with hist := h } }.wr Reg.CHECK_HIST_FILL.entries h.length

/-- R275: rows of the retirement unit: λ of the first line of a block. -/
def State.blockLine (s : State) (row : Nat) : Nat :=
  row * 2048 * (if s.rd Reg.DMC_STATUS.degraded = 1 then 3 else 4)

/-- R302: retire the 512 KiB block of a row; a 65th retirement is refused. -/
def State.retireRow (s : State) (row : Nat) : State :=
  if s.dram.retired.contains row then s
  else if 64 ≤ s.dram.retired.length then s.raise 0x030E [w (s.blockLine row), w s.dram.retired.length]
  else
    let s := ({ s with dram := { s.dram with retired := s.dram.retired ++ [row] } }).storeLists
    (s.wr Reg.DMC_REPAIR.retired s.dram.retired.length).raise 0x030E [w (s.blockLine row), w s.dram.retired.length]

/-- Table 11.7: the row of a kind 1 location. -/
def locRow (loc : Nat) : Nat := bitsOf loc 4 17

/-- R301, R302: a lasting DRAM row is queued for repair, or its block retired when 16 rows wait. -/
def State.queueRepair (s : State) (loc : Nat) : State :=
  if s.dram.repairs.contains loc then s
  else if 16 ≤ s.dram.repairs.length then s.retireRow (locRow loc)
  else
    let s := { s with dram := { s.dram with repairs := s.dram.repairs ++ [loc] } }
    s.wr Reg.DMC_REPAIR.pending s.dram.repairs.length

/-- Table 11.2: what a lasting judgement leads to. -/
def State.lastingAction (s : State) (l : Location) : State :=
  if l.kind = 1 then s.queueRepair l.loc
  else if l.kind = 2 then
    { s with win := { s.win with waiting := s.win.waiting ++ [(bitsOf l.loc 19 9, bitsOf l.loc 9 10)] } }
  else s

/-- R310: a location is judged lasting. -/
def State.judge (s : State) (l : Location) : State :=
  let s := (s.raise 0x0540 [w l.kind, w l.loc]).inc Reg.CHECK_LASTING.judged
  let s := s.wrs [(Reg.CHECK_LAST_LOC.kind, l.kind), (Reg.CHECK_LAST_LOC.loc, l.loc)]
  let s := { s with check := { s.check with tests := s.check.tests.filter (fun x => x ≠ l) } }
  (s.setHist (s.check.hist.filter (fun e => e.1 ≠ l))).lastingAction l

/-- R309: the location leaves the history when it is repaired or remapped. -/
def State.forget (s : State) (l : Location) : State := s.setHist (s.check.hist.filter (fun e => e.1 ≠ l))

/-- R308, R309, R310: a failure at a tracked location: lasting, or entered in the history with its self-test started. -/
def State.failAt (s : State) (l : Location) : State :=
  let now := s.check.faultClock
  let entered := ((l, now) :: s.check.hist.filter (fun e => e.1 ≠ l)).take 256
  if s.check.tests.contains l then s.setHist entered
  else
    match s.check.hist.find? (fun e => e.1 = l) with
    | some (_, t) => if now ≤ t + 1000000 then s.judge l else
        ({ s with check := { s.check with tests := l :: s.check.tests } }).setHist entered
    | none => ({ s with check := { s.check with tests := l :: s.check.tests } }).setHist entered

/-- Memories of kind 4, in the order of Table 11.2 (numbered by the model, log 83). -/
abbrev memTlog : Nat := 0
abbrev memUndo : Nat := 1
abbrev memLoss : Nat := 2
abbrev memContext : Nat := 3
abbrev memReplay : Nat := 4

/-- Table 11.2, kind 4: an entry of an on-die memory. -/
def entryLoc (mem entry : Nat) : Location := ⟨4, mem * 2 ^ 20 + entry % 2 ^ 20⟩

/-- TARGETED_SELFTEST_DONE (R308, R310): the self-test of a location with a failure ends. The self-test of a DRAM line on
a subchannel under training waits. -/
def execTargetedSelftestDone (l : Location) (passed : Bool) (s : State) : Host.Outcome State Fault Refusal :=
  if !s.check.tests.contains l then .next s
  else if l.kind = 1 ∧ (s.rd Reg.DMC_STATUS.sc_training).testBit (bitsOf l.loc 26 2) then .next s
  else
    let s := { s with check := { s.check with tests := s.check.tests.filter (fun x => x ≠ l) } }
    if passed then .next s
    else .next (((s.raise 0x0541 [w l.kind, w l.loc]).inc Reg.CHECK_LASTING.selftest_fail).judge l)

/-- R309: the fault clock advances by one for a tick launched. (log 18) -/
def State.faultTick (s : State) : State :=
  { s with check := { s.check with faultClock := (s.check.faultClock + 1) % 2 ^ 48, faultRest := 0 } }

/-! ### Tick log entries as bytes (Table 9.6) -/

/-- A bitmap of blocks as 64 words of 16 bits, lane 0 first. -/
def bitmapWords (m : Nat) : Bytes := (List.range 64).flatMap (fun t => toBE 2 (bitsOf m (16 * t) 16))

/-- Bytes 0 to 151 of an entry. -/
def tlogFixBytes (e : TickEntry) : Bytes :=
  toBE 5 e.n ++ toBE 3 e.seq ++
    toBE 4 (b2n e.excursion * 2 ^ 31 + b2n e.coast * 2 ^ 30 + b2n e.gapBlank * 2 ^ 29 + b2n e.fault * 2 ^ 28 +
      b2n e.cal * 2 ^ 27 + b2n e.final * 2 ^ 26 + b2n e.posComp * 2 ^ 25 + e.s % 2 ^ 25) ++
    toBE 1 (toField 8 e.dx) ++ toBE 1 (toField 8 e.dy) ++ toBE 2 e.rseq ++ toBE 8 e.unconf ++ bitmapWords e.dk1

/-- The 288 bytes of an entry. -/
def tlogBytes (e : TickEntry) : Bytes :=
  let m := tlogFixBytes e ++ bitmapWords e.rx ++ zeros 4
  m ++ toBE 4 (crc32c m)

/-! ### The record spool (R320 to R323) -/

/-- Bytes of a chunk in the spool: header and payload. -/
def Chunk.size (c : Chunk) : Nat := 32 + c.payload.length

def State.recStream (s : State) (i : Nat) : RecStream := s.check.recs.getD i RecStream.init

def State.setRecStream (s : State) (i : Nat) (r : RecStream) : State :=
  { s with check := { s.check with recs := setAt s.check.recs i r } }

/-- The line at which a region begins (R280). -/
def State.regionLine (s : State) (r : Nat) : Nat := s.rd (Reg.DMC_REGION.base r) * 2 ^ 22

/-- Bytes of record chunks in region 5. -/
def State.recUsed (s : State) : Nat := ((s.recStream 0).spool.map Chunk.size).sum

/-- Bytes of report and summary chunks in region 5. -/
def State.rsvUsed (s : State) : Nat :=
  ((s.recStream 1).spool.map Chunk.size).sum + ((s.recStream 3).spool.map Chunk.size).sum

/-- R321: the reserved part of region 5. -/
def rsvSize : Nat := 2 ^ 28

/-- R321: the record part of region 5. -/
def State.recSize (s : State) : Nat := s.rd (Reg.DMC_REGION.size 5) * 2 ^ 28 - rsvSize

/-- R321: bytes of the record part in use: by record chunks, and by reports and summaries beyond the reserved part. -/
def State.recInUse (s : State) : Nat := s.recUsed + (s.rsvUsed - rsvSize)

/-- R320, R321: room for a record chunk. -/
def State.recRoom (s : State) : Nat := s.recSize - s.recInUse

/-- Lines of the record part. -/
def State.recLines (s : State) : Nat := s.recSize / 64

/-- R42, R322: the segments of a chunk: payloads of at most 8,960 bytes with their chunk_start flags. -/
def segmentsOf : Nat → Bool → Bytes → List (Bytes × Bool × Bool)
  | 0, _, _ => []
  | fuel + 1, first, b =>
    if b.length ≤ 8960 then [(b, first, true)] else (b.take 8960, first, false) :: segmentsOf fuel false (b.drop 8960)

/-- A chunk as it is sent. -/
def Chunk.bytes (c : Chunk) : Bytes := dcfBytes c.hdr ++ c.payload

/-- R42, R322: a DATA segment of a record stream; its timestamp is local time in ns (log 27). -/
def State.recSegment (s : State) (i seq : Nat) (first : Bool) (b : Bytes) : Bytes :=
  dstBytes ⟨1, i, if first then 2 else 0, seq, b.length, s.rd Reg.GLOBAL_JOB_ID.job, 0, s.ns % 2 ^ 32, b⟩

/-- R49, R322: send the segments of an attached stream that its window admits, at most 127 unacknowledged. -/
def State.pumpRec (s : State) (i : Nat) : Nat → State
  | 0 => s
  | fuel + 1 =>
    let r := s.recStream i
    match r.peer, r.queue with
    | some dest, (b, first, last) :: rest =>
      if r.sent.length < 127 ∧ serialDiff 32 r.ackA r.nextSeq < r.window then
        let m := s.recSegment i r.nextSeq first b
        let s := (s.sendUdp 47102 dest m).setRecStream i { r with
          queue := rest, sent := r.sent ++ [(r.nextSeq, s.now, m, last)], nextSeq := (r.nextSeq + 1) % 2 ^ 32,
          lastAck := if r.sent = [] then s.now else r.lastAck }
        State.pumpRec s i fuel
      else s
    | _, _ => s

/-- R322: spool a chunk of a record stream (type 0x06). -/
def State.spool (s : State) (i : Nat) (rawFlag fixed dyn : Bool) (bandId : Nat) (raw payload : Bytes) (seg : Nat := 0) (at_ : Nat := 0)
    (keys : List Nat := []) : State :=
  let r := s.recStream i
  let h : DcfHdr :=
    { magic := 0x44434631, seq := r.chunkSeq, stream := i, typ := 6, final := false, histReset := true, dyn := dyn,
      fixed := fixed, raw := rawFlag, rawSize := raw.length, compSize := payload.length, bandId := bandId,
      crc := crc32c raw, reservedOk := true }
  let c : Chunk := ⟨h, raw, payload, seg, at_, keys⟩
  (s.setRecStream i { r with
    spool := r.spool ++ [c], chunkSeq := (r.chunkSeq + 1) % 2 ^ 32
    queue := if r.peer.isSome then r.queue ++ segmentsOf 200 true c.bytes else r.queue }).pumpRec i 128

/-- R322: the pixel reports gathered become a chunk of stream 1. -/
def State.flushReports (s : State) (seq : Nat) : State :=
  if s.check.reportPart = [] then s
  else
    let raw := s.check.reportPart.flatten
    let s := s.spool 1 true false false (bandId seq s.check.reportChunk) raw raw
    { s with check := { s.check with reportPart := [], reportChunk := s.check.reportChunk + 1 } }

/-- R171, R173, R322: issue a pixel report. -/
def State.report (s : State) (seq : Nat) (b : Bytes) : State :=
  let s := (s.inc Reg.SHOT_REPORTS.reports)
  let s := { s with
    shot := { s.shot with reportNo := s.shot.reportNo + 1 }
    check := { s.check with reportPart := s.check.reportPart ++ [b] } }
  if s.check.reportPart.length = 65536 then s.flushReports seq else s

/-- The ring key of an entry of the job numbered `load`: tick numbers begin again with each job (R27). -/
def ringKey (load n : Nat) : Nat := load * 2 ^ 40 + n

/-- R323: the tick log entries gathered become a chunk of stream 2. -/
def State.flushTlog (s : State) (seq : Nat) : State :=
  if s.check.tlogPart = [] then s
  else
    let raw := s.check.tlogPart.flatMap tlogBytes
    let keys := s.check.tlogPart.map (fun e => ringKey s.check.loads e.n)
    let s := s.spool 2 true false false (bandId seq s.check.tlogChunk) raw raw (keys := keys)
    { s with check := { s.check with tlogPart := [], tlogChunk := s.check.tlogChunk + 1 } }

/-- R323: CHECK_CTRL.tlog_mode selects an entry for stream 2. -/
def tlogSelected (mode : Nat) (e : TickEntry) : Bool :=
  mode = 2 || (mode = 1 && (e.dk1 ≠ 0 || e.rx ≠ 0 || e.unconf ≠ 0 || e.excursion || e.coast || e.gapBlank || e.fault))

/-! ### The tick-log spool of region 7 (R267, R281) -/

/-- R281: entries that region 7 holds. -/
def State.ringCap (s : State) : Nat := s.rd (Reg.DMC_REGION.size 7) * 2 ^ 28 / 288

/-- R281: the stripe exposed before a stripe of the job, as far as the ring knows it. -/
def State.seqBefore (s : State) (seq : Nat) : Option Nat :=
  s.check.ring.foldl (fun (b : Option Nat) (r : RingEnt) =>
    if r.load = s.check.loads ∧ ¬ r.ent.cal ∧ r.ent.seq < seq ∧ b.all (fun q => decide (q < r.ent.seq)) then some r.ent.seq else b) none

/-- R281: an entry that may not be overwritten while a stripe is in progress: of that stripe or the one before it, or one that
CHECK_CTRL.tlog_mode selects and the host has not acknowledged. -/
def State.ringKept (s : State) (seq : Nat) (prev : Option Nat) (r : RingEnt) : Bool :=
  (r.load = s.check.loads && (r.ent.seq = seq || prev = some r.ent.seq)) ||
    (r.owed && tlogSelected (s.rd Reg.CHECK_CTRL.tlog_mode) r.ent)

/-- R281: the slot a final entry is written to, and the ring without what it overwrites: a free slot, otherwise that of the oldest entry
that may be overwritten, otherwise that of the oldest (log 91). -/
def State.spoolSlot (s : State) (seq : Nat) : Nat × List RingEnt :=
  let ring := s.check.ring
  if ring.length < s.ringCap then (ring.length, ring)
  else
    let prev := s.seqBefore seq
    match (ring.find? (fun r => !s.ringKept seq prev r)).orElse (fun _ => ring.head?) with
    | none => (0, [])
    | some v => (v.slot, ring.filter (fun r => r.slot ≠ v.slot))

/-- R267, R323: a final entry goes to the spool of region 7, where its write waits its turn, and, when selected, to stream 2. (log 69) -/
def State.spoolTlog (s : State) (mode : Nat) (e : TickEntry) : State :=
  let (slot, ring) := s.spoolSlot e.seq
  let sel := tlogSelected mode e
  let s := { s with check := { s.check with
    ring := ring ++ [⟨s.check.loads, slot, e, true, sel, false⟩]
    tlogSpool := if e.cal then s.check.tlogSpool else s.check.tlogSpool ++ [e] } }
  if sel then
    let s := { s with check := { s.check with tlogPart := s.check.tlogPart ++ [e] } }
    if s.check.tlogPart.length = 3640 then s.flushTlog e.seq else s
  else s

/-- TIME_TLOG_STAT.backlog: final entries whose write waits (R269). (log 69) -/
def State.backlog (s : State) : Nat := s.check.ring.countP (fun r => r.waits)

/-- The last line of a slot of region 7. -/
def State.slotEnd (s : State) (slot : Nat) : Nat := s.regionLine 7 + (288 * slot + 287) / 64

/-- R289: a line of region 7 has been written: the entries that end in it wait no longer. -/
def State.drainSpool (s : State) (line : Nat) : State :=
  { s with check := { s.check with ring := s.check.ring.map (fun r => if s.slotEnd r.slot = line then { r with waits := false } else r) } }

/-- R281, R322: the host has acknowledged chunks of stream 2. -/
def State.ringAcked (s : State) (cs : List Chunk) : State :=
  let keys := cs.flatMap (fun c => c.keys)
  if keys = [] then s
  else { s with check := { s.check with
    ring := s.check.ring.map (fun r => if keys.contains (ringKey r.load r.ent.n) then { r with owed := false } else r) } }

/-- R281, R321: room in the tick-log spool and in the reserved part for a stripe about to arm. -/
def State.spoolRoomFor (s : State) (x : Stripe) : Bool :=
  let prev := s.seqBefore x.d.seq
  decide (s.check.ring.countP (s.ringKept x.d.seq prev) + stripeTicks x.d.len ≤ s.ringCap) &&
    decide (s.rsvUsed + 1048704 ≤ rsvSize)

/-- Table 9.6: the bytes a slot of region 7 reads as, once its entry is written. -/
def State.slotBytes (s : State) (slot : Nat) : Option Bytes :=
  (s.check.ring.find? (fun r => r.slot = slot && !r.waits && !r.lost)).map (fun r => tlogBytes r.ent)

/-! ### Record chunks (R320) -/

/-- R320: spool the record chunk of a segment of a band (R97 to R99), or fall back to signature-only when it finds no room. -/
def State.recordChunk (s : State) (seq band seg : Nat) (dynamic : Bool) (raw : Bytes) : State :=
  let comp := engineEncoded (parseDcf []) dynamic raw
  let useRaw : Bool := comp.isNone
  let payload := comp.getD raw
  let size := 32 + payload.length
  if s.recRoom < size then
    let s := (s.updStripe seq (fun x => { x with recFallback := true })).inc Reg.CHECK_LOST.fallbacks
    { s with check := { s.check with fellBack := true } }.raise 0x0542 [w seq, w band]
  else
    let s := if useRaw then s.inc Reg.CODEC_REC_STAT.raw_fallbacks else s
    let at_ := s.check.recAt
    let s := { s with check := { s.check with recAt := (at_ + cdiv size 64) % Nat.max 1 s.recLines } }
    s.spool 0 useRaw (!useRaw && !dynamic) (!useRaw && dynamic) (bandId seq band) raw payload seg at_

/-- Clear the mark "last of its chunk" of the n-th chunk whose segments are sent. -/
def unmarkLast : Nat → List (Nat × Nat × Bytes × Bool) → List (Nat × Nat × Bytes × Bool)
  | _, [] => []
  | n, (q, t, b, last) :: rest =>
    if !last then (q, t, b, last) :: unmarkLast n rest
    else match n with
      | 0 => (q, t, b, false) :: rest
      | k + 1 => (q, t, b, last) :: unmarkLast k rest

/-- Leave out the segments of the n-th chunk among segments not yet sent. -/
def dropGroup : Nat → List (Bytes × Bool × Bool) → List (Bytes × Bool × Bool)
  | _, [] => []
  | 0, (_, _, last) :: rest => if last then rest else dropGroup 0 rest
  | n + 1, (b, first, last) :: rest => (b, first, last) :: dropGroup (if last then n else n + 1) rest

/-- R320: a chunk leaves the spool; its segments not yet sent go with it. -/
def RecStream.dropChunk (r : RecStream) (i : Nat) : RecStream :=
  let unsent := r.queue.countP (fun g => g.2.2)
  let whole := r.spool.length - unsent
  { r with
    spool := r.spool.eraseIdx i
    sent := if i < whole then unmarkLast i r.sent else r.sent
    queue := if i < whole then r.queue else dropGroup (i - whole) r.queue }

/-- R320: a line of the record part fails after refetch: the record chunk that holds it is lost. -/
def State.recordLost (s : State) (o : Nat) : State :=
  let r := s.recStream 0
  let n := Nat.max 1 s.recLines
  let holds (c : Chunk) : Bool := decide ((o + n - c.at_) % n < cdiv c.size 64)
  match r.spool.find? holds with
  | none => s
  | some c =>
    let s := (s.setRecStream 0 (r.dropChunk (r.spool.findIdx holds))).inc Reg.CHECK_LOST.rec_lost
    s.raise 0x0544 [w (c.hdr.bandId / 65536), w (c.hdr.bandId % 65536), w c.seg]

/-- R317, R322: what is gathered for streams 1 and 2 becomes chunks, under the stripe of its first item. -/
def State.flushParts (s : State) : State :=
  let s := match s.check.reportPart with
    | [] => s
    | b :: _ => s.flushReports (beAt b 0 3)
  match s.check.tlogPart with
  | [] => s
  | e :: _ => s.flushTlog e.seq

/-! ### Placement (R274, R275) -/

/-- Where a line lies. -/
structure Place where
  sc : Nat
  bank : Nat
  row : Nat
  col : Nat
deriving DecidableEq, Repr

/-- Degraded mode is in force. -/
def State.degraded (s : State) : Bool := s.rd Reg.DMC_STATUS.degraded = 1

/-- R274: subchannels in use, in order. -/
def State.subchannels (s : State) : List Nat :=
  (List.range 4).filter (fun c => !(s.degraded && s.dram.layout = some c))

/-- Lines of the logical space (R274). -/
def State.lineCount (s : State) : Nat := if s.degraded then 3 * 2 ^ 28 else 2 ^ 30

/-- R275, R298: the lines below the training rows: those that can be allocated, and that Whisk walks. -/
def State.whiskLines (s : State) : Nat := if s.degraded then 3 * 2 ^ 28 - 6144 else 2 ^ 30 - 8192

/-- R274: the place of a line index. -/
def State.placeOf (s : State) (line : Nat) : Place :=
  let n := if s.degraded then 3 else 4
  let u := line / n
  let sc := if s.degraded then s.subchannels.getD (line % 3) 0 else (line % 4) ^^^ bitsOf u 11 2
  let bg := bitsOf u 0 3 ^^^ bitsOf u 13 3
  let ba := bitsOf u 3 2 ^^^ bitsOf u 16 2
  ⟨sc, bg * 4 + ba, bitsOf u 11 17, bitsOf u 5 6⟩

/-- Table 11.7: the location of the row of a line. -/
def Place.loc (p : Place) : Location := ⟨1, p.sc * 2 ^ 26 + p.bank * 2 ^ 21 + p.row * 16⟩

/-! ### Failed reads (R279, R308) -/

/-- R276: a read of a whole line as an engine of the DK1 makes it. -/
def readReq (cls line region gen : Nat) : DramReq :=
  { cls := cls, requester := 0, write := false, line := line, mask := 2 ^ 64 - 1, data := 0, region := region, gen := gen, verified := false,
    fresh := false, tag := 0, others := [] }

/-- R279: a read that fails for good is counted, recorded and told, and its row fails once more (R308); a failure that an injection
caused is no fault of the row (R427). -/
def State.noteBad (s : State) (r : DramReq) (kind : Nat) : State :=
  let s := (s.inc Reg.DMC_RD_ERR.refetch_fail).wrs [(Reg.DMC_LAST_BAD.kind, kind), (Reg.DMC_LAST_BAD.line, r.line),
    (Reg.DMC_LAST_BAD_SRC.region, r.region), (Reg.DMC_LAST_BAD_SRC.class_, r.cls)]
  let s := s.raise 0x0302 [w r.line, w kind, w r.region, w r.cls]
  if s.dram.injected.contains r.line then s else s.failAt (s.placeOf r.line).loc

end Sys2Proof.Machine
end

