-- ==== Sys2Proof/Machine/Render.lean ====
section
/-! DEFINITION. The dose window and its checks (R112 to R115), the render and its pacing (R116 to R126), re-rendering
(R122 to R125). -/

namespace Sys2Proof.Machine

/-! ### Window segments (R25, R112, R114) -/

/-- Key of a segment: slot, plane (0 P, 1 ρ), segment. -/
def winKey (slot plane seg : Nat) : Nat := (slot * 2 + plane) * 32 + seg

/-- Table 4.3: the check prefix of a segment. -/
def segPrefix (seq y plane seg : Nat) : Bytes := toBE 3 seq ++ toBE 3 y ++ toBE 1 (plane * 128 + seg % 32)

/-- Nibbles of the ρ plane, two pixels a byte, the even one low (R112). -/
def packNibbles : List Int → Bytes
  | a :: b :: rest => BitVec.ofNat 8 (toField 4 a + 16 * toField 4 b) :: packNibbles rest
  | [a] => [BitVec.ofNat 8 (toField 4 a)]
  | [] => []

/-- R112: the bytes of a segment. -/
def segBytes (plane : Nat) (data : List Int) : Bytes :=
  if plane = 0 then data.map (fun v => BitVec.ofNat 8 v.toNat) else packNibbles data

/-- R114: the check of a segment. -/
def segCheck (seq y plane seg : Nat) (data : List Int) : Nat := crc16 (segPrefix seq y plane seg ++ segBytes plane data)

/-- R112, R114: write a segment of a line with its check. -/
def State.winWrite (s : State) (seq y plane seg : Nat) (data : List Int) : State :=
  { s with win := { s.win with
      injected := s.win.injected.filter (fun k => k ≠ winKey (slotOf y) plane seg)
      segs := tabPut s.win.segs (winKey (slotOf y) plane seg) ⟨data, segCheck seq y plane seg data⟩ } }

/-- R114: read a segment against the line and segment expected; none when its check fails. -/
def State.winRead (s : State) (seq y plane seg : Nat) : Option (List Int) :=
  match tabFind s.win.segs (winKey (slotOf y) plane seg) with
  | none => none
  | some g => if g.crc = segCheck seq y plane seg g.data then some g.data else none

/-- A pixel of a plane, when its segment reads good. -/
def State.winPixel (s : State) (seq x y plane : Nat) : Option Int :=
  (s.winRead seq y plane (x / 256)).map (fun d => d.getD (x % 256) 0)

/-! ### Scan order (R116, R117) -/

/-- Line rendered as number i in scan order. -/
def scanLine (d : Desc) (i : Nat) : Nat := if d.dir = 0 then i else d.len - 1 - i

/-- Number of a line in scan order. -/
def scanIx (d : Desc) (y : Nat) : Nat := if d.dir = 0 then y else d.len - 1 - y

/-- R117: line number i in scan order may start. -/
def mayStart (x : Stripe) (i : Nat) : Bool := decide (i < 526) || decide (i - 526 < x.computed)

/-- Every tick of the stripe has been computed. -/
def allComputed (x : Stripe) : Bool := decide (stripeTicks x.d.len ≤ x.computed) || x.truncated

/-- R117, R124: the slot of line number i in scan order has been released: the last tick that can sample the line has been computed,
or the last of the stripe. -/
def released (x : Stripe) (i : Nat) : Bool := allComputed x || decide (i + 8178 < x.computed)

/-- Lines that pre-roll takes (R31). -/
def preroll (d : Desc) : Nat := Nat.min 512 d.len

/-- A line counts as rendered when every slice has written both its segments, those whose records could not be fetched too (R125). -/
def State.whole (s : State) (x : Stripe) (i : Nat) : Bool :=
  decide (i < s.render.lines) && !s.render.missing.any (fun e => scanIx x.d e.1 = i)

/-- R31: the stripe's pre-roll is complete: its first lines in scan order are rendered whole. (log 62) -/
def State.prerolled (s : State) (x : Stripe) : Bool :=
  s.render.stripe = some x.d.seq && decide (preroll x.d ≤ s.render.lines) &&
    s.render.missing.all (fun e => decide (preroll x.d ≤ scanIx x.d e.1))

/-- The slices have gone over a line. -/
def State.lineRendered (s : State) (x : Stripe) (y : Nat) : Bool :=
  s.render.stripe = some x.d.seq && decide (scanIx x.d y < s.render.lines)

/-- R120, R126: the last line rendered, by its number in scan order. -/
def State.lastLine (s : State) (x : Stripe) : Option Nat := (List.range s.render.lines).reverse.find? (s.whole x)

/-! ### The render lead (R120) -/

/-- A mark in a stripe's list of events told: its render lead has been judged. -/
def leadMark : Nat := 0x10001

/-- T_s in ns (R251). -/
def tickTime (x : Stripe) (s : Nat) : Nat := x.t0 + s * x.d.tau

/-- R36, R120: the tick whose computation is in progress, or was last: it begins at T − 3τ. -/
def State.tickInProgress (s : State) (x : Stripe) : Option Nat :=
  if x.fixed = 0 then none
  else if tickTime x x.computed ≤ s.ns + 3 * x.d.tau then some x.computed
  else if x.computed = 0 then none
  else some (x.computed - 1)

/-- R120: judge the lead against the front of a tick, as long as the last line in scan order is not rendered. (log 62) -/
def State.judgeLead (s : State) (seq tick : Nat) : State :=
  match s.stripe seq with
  | none => s
  | some x =>
    match s.lastLine x with
    | none => s
    | some last =>
    if s.render.stripe ≠ some seq ∨ x.d.len = last + 1 ∨ ¬ (running x) then s
    else
      let lead := last - tick
      let first : Bool := !x.told.contains leadMark
      let low := if first then lead else Nat.min lead (s.rd Reg.RENDER_LEAD_MIN.lead_min)
      let s := (s.noteTold seq leadMark).wr Reg.RENDER_LEAD_MIN.lead_min low
      if lead < 512 then s.raiseFor seq 0x0520 [w seq, w low] else s

/-! ### Re-rendering (R122 to R125) -/

/-- R123: requests of a slice. -/
def ofSlice (q : Nat) (e : Nat × Nat × Nat) : Bool := decide (e.2.1 / 2 = q)

/-- R123: the number of lines that may be complete before a request made now is served: the line in progress ends first, and the next
waits. A request behind others of its slice has the bound of the first. -/
def State.linesBefore (s : State) (seg : Nat) : Nat :=
  match s.render.rerender.find? (ofSlice (seg / 2)) with
  | some e => e.2.2
  | none =>
    match s.render.stripe.bind s.stripe with
    | some x => if s.render.lines < x.d.len ∧ mayStart x s.render.lines then s.render.lines + 1 else s.render.lines
    | none => s.render.lines

/-- R123: no re-render stands before the next line. (log 100) -/
def State.lineTurn (s : State) : Bool := s.render.rerender.all (fun e => decide (s.render.lines < e.2.2))

/-- R122, R123: queue a re-render of a segment; a request already queued is merged, a full queue drops the new one. -/
def State.requestRerender (s : State) (y seg : Nat) : State :=
  if s.render.rerender.any (fun e => e.1 = y && e.2.1 = seg) then s
  else if 16 ≤ s.render.rerender.countP (ofSlice (seg / 2)) then s.inc Reg.RENDER_RERENDER.dropped
  else { s with render := { s.render with rerender := s.render.rerender ++ [(y, seg, s.linesBefore seg)] } }

/-- R125: a record fetch failed after refetch. -/
def State.fetchFailed (s : State) (seq band slice : Nat) : State :=
  (s.inc Reg.RENDER_FETCH_ERR.fails).raise 0x0523 [w seq, w band, w slice]

/-- R104, R112: render the P values of a segment. -/
def segmentP (x : Stripe) (y seg : Nat) : List Int :=
  match tabFind x.bands (bandOf y) with
  | none => List.replicate 256 0
  | some b => (renderSegment b.shapes y seg).map (fun (p : Nat) => (p : Int))

/-- R124: requests whose line can no longer be sampled are dropped. -/
def State.dropStale (s : State) (x : Stripe) : State :=
  if s.render.stripe ≠ some x.d.seq then s
  else
  let stale := s.render.rerender.filter (fun e => released x (scanIx x.d e.1))
  ({ s with render := { s.render with rerender := s.render.rerender.filter (fun e => !released x (scanIx x.d e.1)) } }).incBy
    Reg.RENDER_RERENDER.dropped stale.length

/-- R31, R120, R126: the last line rendered, pre-roll and the lead, once segments of a line have been written. -/
def State.notePosition (s : State) (x : Stripe) : State :=
  let s := match s.lastLine x with
    | none => s
    | some i => s.wrs [(Reg.RENDER_LINE.valid, 1), (Reg.RENDER_LINE.line, scanLine x.d i)]
  let s := if s.prerolled x then s.wr Reg.RENDER_STATUS.prerolled 1 else s
  match s.tickInProgress x with
  | none => s
  | some t => s.judgeLead x.d.seq t

/-- RERENDER_DONE (R123 to R125): a slice finishes its oldest re-render; the segment is written with a fresh check unless
its records cannot be fetched. -/
def execRerenderDone (slice : Nat) (fetched : Bool) (s : State) : Host.Outcome State Fault Refusal :=
  match s.render.stripe.bind s.stripe with
  | none => .next s
  | some x =>
    let s := s.dropStale x
    match s.render.rerender.find? (ofSlice slice) with
    | none => .next s
    | some (y, seg, _) =>
      let s : State := { s with render := { s.render with rerender := s.render.rerender.filter (fun e => e.1 ≠ y ∨ e.2.1 ≠ seg) } }
      if fetched then
        let s := s.winWrite x.d.seq y 0 seg (segmentP x y seg)
        let s : State := { s with
          win := { s.win with toldP := s.win.toldP.filter (fun e => e ≠ (x.d.seq, y, seg)) }
          render := { s.render with missing := s.render.missing.filter (fun e => e ≠ (y, seg)) } }
        .next ((s.notePosition x).inc Reg.RENDER_RERENDER.done)
      else .next (s.fetchFailed x.d.seq (bandOf y) slice)

/-! ### The render (R116 to R119, R125) -/

/-- R117: the stripe whose render begins next, if it may: the next of the queue, once it is admitted. -/
def State.nextRender (s : State) : Option Stripe :=
  if s.sieve.stripes.any (fun x => running x && !allComputed x) then none
  else
    match s.queue.find? (fun x => x.st = .pending || x.st = .admitted) with
    | none => none
    | some x => if x.st = .pending ∨ s.render.stripe = some x.d.seq then none else some x

/-- RENDER_START (R117): what is still queued of the stripe before is dropped (R124). -/
def execRenderStart (s : State) : Host.Outcome State Fault Refusal :=
  match s.nextRender with
  | none => .next s
  | some x =>
    let s := s.incBy Reg.RENDER_RERENDER.dropped s.render.rerender.length
    let s : State := { s with
      render := { s.render with stripe := some x.d.seq, lines := 0, rerender := [], flattened := [], missing := [], edge := 0 }
      win := { s.win with toldP := [] } }
    .next (s.wrs [(Reg.RENDER_STATUS.active, 1), (Reg.RENDER_STATUS.prerolled, 0), (Reg.RENDER_LINE.valid, 0)])

/-- The slice of a DGF x coordinate among n slices; the right edge of the stripe belongs to the last (R62, R64). -/
def sliceOf (n x : Nat) : Nat := Nat.min (x / 8192) (n - 1)

/-- A QUAD among the pieces of a PATH from a current point has points that touch a slice of n (R119). -/
def quadTouches (n slice : Nat) (cur : Nat) : List PathSeg → Bool
  | [] => false
  | .lineTo x _ :: rest => quadTouches n slice x rest
  | .moveTo x _ :: rest => quadTouches n slice x rest
  | .quadTo cx _ x _ :: rest =>
    decide (sliceOf n (Nat.min cur (Nat.min cx x)) ≤ slice) && decide (slice ≤ sliceOf n (Nat.max cur (Nat.max cx x))) ||
      quadTouches n slice x rest

/-- A band has a QUAD whose points touch a slice of n. -/
def hasQuad (n : Nat) (b : Band) (slice : Nat) : Bool :=
  b.shapes.any fun sh => match sh.prim with
    | .path start segs => quadTouches n slice start.1 segs
    | _ => false

/-- CURVE_FLATTEN_DONE (R119): a slice's curve unit finishes a band. -/
def execCurveFlattenDone (slice band : Nat) (s : State) : Host.Outcome State Fault Refusal :=
  if s.render.stripe.isSome ∧ ¬ s.render.flattened.contains (band, slice) then
    .next { s with render := { s.render with flattened := (band, slice) :: s.render.flattened } }
  else .next s

/-- R119: every slice with curves in the band has flattened them. -/
def State.flatReady (s : State) (b : Band) (band : Nat) : Bool :=
  (List.range (slicesOf s.variant)).all fun q => !hasQuad (slicesOf s.variant) b q || s.render.flattened.contains (band, q)

/-- R113, R125: one segment of a line as it is rendered: P, unless its slice could not fetch its records, and ρ := 0. -/
def State.writeSegment (s : State) (x : Stripe) (y bad seg : Nat) : State :=
  let s := s.winWrite x.d.seq y 1 seg (List.replicate 256 0)
  if bad.testBit (seg / 2) then { s with render := { s.render with missing := (y, seg) :: s.render.missing } }
  else s.winWrite x.d.seq y 0 seg (segmentP x y seg)

/-- R65, R126: the largest number of edge events of a slice on a band line. (log 62) -/
def lineEdge (v : Nat) (b : Band) (l : Nat) : Nat :=
  let es := b.shapes.flatMap (fun s => primEvEdges s.prim)
  (List.range (slicesOf v)).foldl (fun m q => Nat.max m (edgeCount v es l q)) 0

/-- R118: a line is rendered: all its segments, the position registers, pre-roll, the lead. -/
def State.renderLine (s : State) (x : Stripe) (b : Band) (y bad : Nat) : State :=
  let s := (List.range (segsOf s.variant)).foldl (fun s seg => s.writeSegment x y bad seg) s
  let s := (setBits bad (slicesOf s.variant)).foldl (fun s q => s.fetchFailed x.d.seq (bandOf y) q) s
  let n := s.render.lines + 1
  let edge := Nat.max s.render.edge (lineEdge s.variant b (y % 256))
  let s : State := { s with render := { s.render with lines := n, edge := edge } }
  let s := if running x && decide (0 < x.fixed) then s.wr Reg.RENDER_EDGE_MAX.edge_max edge else s
  let s := if n = x.d.len then s.wr Reg.RENDER_STATUS.active 0 else s
  s.notePosition x

/-- RENDER_LINE_DONE (R116 to R120, R125): every slice has finished the next line; `bad` has a bit for each slice whose
record fetch failed after refetch. A queued re-render goes ahead of the next line (R123), and nothing of a stripe that is over is
rendered. -/
def execRenderLineDone (bad : Nat) (s : State) : Host.Outcome State Fault Refusal :=
  match s.render.stripe.bind s.stripe with
  | none => .next s
  | some x =>
    let i := s.render.lines
    if x.d.len ≤ i ∨ ¬ (mayStart x i) ∨ s.lineTurn = false ∨ inQueue x = false then .next s
    else
      let y := scanLine x.d i
      match tabFind x.bands (bandOf y) with
      | none => .next s
      | some b => if s.flatReady b (bandOf y) then .next (s.renderLine x b y bad) else .next s

end Sys2Proof.Machine
end

