-- ==== Sys2Proof/Machine/ShotMath.lean ====
section
/-! DEFINITION. The arithmetic of one shot (R154 to R163, R168, R169), on numbers alone. -/

namespace Sys2Proof.Machine

/-- R154: accounted dose of code c on gain field g, in q. -/
def accDose (c g : Nat) : Nat := (c * g + 1024) >>> 11

/-- R163: the code before it is clamped. -/
def codeRaw (want : Int) (g : Nat) : Int := (4096 * want + g) / (2 * g)

/-- R163: code, residual and loss of one shot. -/
def codeOf (want : Int) (g : Nat) : Nat × Int × Int :=
  let c := (clampInt 0 255 (codeRaw want g)).toNat
  let full := want - accDose c g
  let rho := clampInt (-8) 7 full
  (c, rho, full - rho)

/-- R161: the target of a shot. -/
def target (pi fpix n : Nat) : Nat := (pi * fpix * n + 4177920) / 8355840

/-- R162: the share of rank j. -/
def share (t stuck : Int) (live j : Nat) : Int := (t - stuck + live - 1 - j) / live

/-- R159: the four samples of a landing offset: displacement in pixels and lines, weight. -/
def sampleOffsets (ox oy : Int) : List (Int × Int × Nat) :=
  let fx := (ox % 64).toNat
  let fy := (oy % 64).toNat
  [(ox / 64, oy / 64, (64 - fx) * (64 - fy)), (ox / 64 + 1, oy / 64, fx * (64 - fy)),
   (ox / 64, oy / 64 + 1, (64 - fx) * fy), (ox / 64 + 1, oy / 64 + 1, fx * fy)].filter (fun e => e.2.2 ≠ 0)

/-- R160: a sample that carries weight lies beyond the reach. -/
def beyondReach (ox oy : Int) : Bool :=
  (sampleOffsets ox oy).any (fun e => decide (2 < e.1.natAbs) || decide (2 < e.2.1.natAbs))

/-- R158, R325: trim entry fields. -/
def trimState (e : Nat) : Nat := e >>> 28
def trimY (e : Nat) : Int := signedOf 6 (bitsOf e 22 6)
def trimX (e : Nat) : Int := signedOf 6 (bitsOf e 16 6)
def trimGain (e : Nat) : Nat := e % 65536

/-- R156: the gain window. -/
def gainOk (g : Nat) : Bool := decide (0x400 ≤ g) && decide (g ≤ 0x7800)

/-- R155, R156: the state a trim entry takes for a stripe: 0 live, 1 dead, 2 stuck-open, 3 masked. -/
def beamState (e : Nat) : Nat :=
  if trimState e = 0 then (if gainOk (trimGain e) then 0 else 3)
  else if trimState e ≤ 2 then trimState e else 3

/-- R168: reserve pass number p (of the live ones, `lost` saying which were missed) makes up missed pass number i. -/
def makesUp (lost : List Bool) (i p : Nat) : Bool :=
  let h := i % lost.length
  decide (h ≤ p) && (List.range (p - h)).all (fun j => lost.getD (h + j) false)

/-- R168: missed pass number i is made up by no reserve pass: its chain of holders ends in a missed final one. -/
def unrecovered (lost : List Bool) (i : Nat) : Bool :=
  lost.isEmpty || (List.range (lost.length - i % lost.length)).all (fun j => lost.getD (i % lost.length + j) false)

/-- R171: the tolerance test. -/
def outOfTolerance (e : Int) (gw : Nat) : Bool := decide (gw + 2048 < 4096 * e.natAbs)

end Sys2Proof.Machine
end

