-- ==== Sys2Proof/Machine/Shot.lean ====
section
/-! DEFINITION. Shots of a tick, residuals, the undo ring, the loss table, completion and pixel reports, ρ rebuilds (ch. 6),
and the record values (R318). -/

namespace Sys2Proof.Machine

/-! ### Trims and the column table (R155 to R157) -/

/-- R341: the entry a beam holds when nothing has been loaded. -/
def trimDefault : Nat := 0x30007000

/-- A trim entry of a bank. -/
def trimAt (bank : Tab Nat) (b : Nat) : Nat := tabGet trimDefault bank b

/-- R157: the column table entry of pixel column x. -/
def columnEntry (v dir rp : Nat) (bank : Tab Nat) (x : Nat) : ColEntry :=
  let es := (List.range 32).map (fun k => trimAt bank (passBeam v dir x k))
  let sts := es.map beamState
  { states := sts, gains := es.map trimGain, live := ((sts.take (32 - rp)).filter (· = 0)).length,
    stuck := ((es.filter (fun e => beamState e = 2)).map (fun e => accDose 255 (trimGain e))).sum }

def ColEntry.empty : ColEntry := ⟨[], [], 0, 0⟩

/-- The pass is live (R157). -/
def ColEntry.isLive (c : ColEntry) (k : Nat) : Bool := c.states.getD k 1 = 0

/-- R157: the rank of a live pass. -/
def ColEntry.rank (c : ColEntry) (k : Nat) : Nat := ((c.states.take k).filter (· = 0)).length

/-- R157: the live reserve passes. -/
def ColEntry.reserves (c : ColEntry) (rp : Nat) : List Nat :=
  ((List.range rp).map (fun i => 32 - rp + i)).filter (fun k => c.isLive k)

/-- The latch of an armed stripe; a harmless one for a stripe that has none. -/
def Stripe.lat (x : Stripe) : ArmLatch := x.latch.getD ⟨0, 1, false, 0, 0, 0, 0, [], []⟩

def Stripe.col (x : Stripe) (px : Nat) : ColEntry := x.lat.cols.getD px ColEntry.empty

/-! ### The tick log (R266 to R268) -/

/-- The tick log entry of a stripe tick. -/
def State.tickAt (s : State) (seq tick : Nat) : Option TickEntry :=
  s.shot.tlog.find? (fun e => e.seq = seq && e.s = tick && !e.cal)

/-- Change the entry of tick number n. -/
def State.updTick (s : State) (n : Nat) (f : TickEntry → TickEntry) : State :=
  { s with shot := { s.shot with tlog := updWhere (fun e => e.n = n) f s.shot.tlog } }

/-- A block is blanked in an entry, by whichever side. -/
def blanked (e : TickEntry) (blk : Nat) : Bool := e.dk1.testBit blk || e.rx.testBit blk

/-- R165 to R168: pass k of a pixel was missed; none when its entry cannot be read. -/
def State.missed (s : State) (x : Stripe) (px y k : Nat) : Option Bool :=
  match s.tickAt x.d.seq (passTick x.d.dir x.d.len px y k) with
  | none => some false
  | some e =>
    let blk := blockOf (passBeam s.variant x.d.dir px k)
    if e.unknown.testBit blk then none else some (blanked e blk)

/-- The missed live passes below a pass number, in pass order; none when an entry cannot be read (R268). -/
def State.missedBelow (s : State) (x : Stripe) (px y k : Nat) : Option (List Nat) :=
  ((List.range k).filter (fun i => (x.col px).isLive i)).foldr (fun i acc =>
    match acc, s.missed x px y i with
    | some l, some m => some (if m then i :: l else l)
    | _, _ => none) (some [])

/-- R268: the tick log entry of some pass of the pixel below a pass number, of whatever beam, cannot be read. -/
def State.lostBelow (s : State) (x : Stripe) (px y k : Nat) : Bool := (List.range k).any (fun i => (s.missed x px y i).isNone)

/-! ### The loss table and pixel reports (R171 to R173) -/

/-- Report reasons (Table 6.3, byte 3). -/
abbrev rEarly : Nat := 0x80
abbrev rUnknown : Nat := 0x40
abbrev rRhoLost : Nat := 0x20
abbrev rUnconf : Nat := 0x10
abbrev rStuck : Nat := 0x08
abbrev rUnrec : Nat := 0x04
abbrev rHeadroom : Nat := 0x02
abbrev rTol : Nat := 0x01

/-- Key of a pixel. -/
def pixKey (px y : Nat) : Nat := y * 8192 + px

/-- R173: a pixel report. -/
def reportBytes (seq reasons px y missed gw : Nat) (err : Int) : Bytes :=
  toBE 3 seq ++ toBE 1 reasons ++ toBE 2 px ++ toBE 3 y ++ toBE 1 missed ++ toBE 2 gw ++
    toBE 4 (if reasons.testBit 6 then 0x80000000 else toField 32 err)

/-- R171: the gain of the last shot that wrote the pixel's ρ: the last live pass computed and not missed. -/
def State.lastGain (s : State) (x : Stripe) (px y : Nat) : Nat :=
  match ((List.range 32).reverse.find? fun k => (x.col px).isLive k &&
      decide (passTick x.d.dir x.d.len px y k < x.computed) && s.missed x px y k = some false) with
  | some k => (x.col px).gains.getD k 0x8000
  | none => 0x8000

/-- Passes of a pixel that were missed so far. -/
def State.missedCount (s : State) (x : Stripe) (px y : Nat) : Nat :=
  ((List.range 32).filter (fun k => (x.col px).isLive k && s.missed x px y k = some true)).length

/-- The stored residual of a pixel, when its segment reads good. -/
def State.rhoOf (s : State) (x : Stripe) (px y : Nat) : Option Int := s.winPixel x.d.seq px y 1

/-- R171, R172: the table is full: the pixel is reported at once with the error known at that moment. -/
def State.earlyReport (s : State) (x : Stripe) (px y : Nat) (lam : Int) (reasons : Nat) : State :=
  let err := -((s.rhoOf x px y).getD 0 + lam)
  let gw := s.lastGain x px y
  let reasons := reasons ||| rEarly ||| (if outOfTolerance err gw && !reasons.testBit 6 then rTol else 0)
  let s := { s with shot := { s.shot with early := pixKey px y :: s.shot.early } }.report x.d.seq
    (reportBytes x.d.seq reasons px y (s.missedCount x px y) gw err)
  s.raiseFor x.d.seq 0x0503 [w x.d.seq, w y]

/-- Table 10.1, R308: the loss table entry of a pixel fails its check. -/
def State.lossFailed (s : State) (px y : Nat) : State := s.failAt (entryLoc memLoss (pixKey px y))

/-- A loss table entry taken up by its next reader: what a failing one held is unknown (Table 10.1). -/
def LossEnt.read (e : LossEnt) : LossEnt := if e.bad then { e with reasons := e.reasons ||| rUnknown, bad := false } else e

/-- R172: add loss and reasons to a pixel's entry, creating it when needed. -/
def State.addLoss (s : State) (x : Stripe) (px y : Nat) (lam : Int) (reasons : Nat) : State :=
  let key := pixKey px y
  if s.shot.early.contains key then s
  else
    match tabFind s.shot.loss key with
    | some e =>
      let s := if e.bad then s.lossFailed px y else s
      let e := e.read
      { s with shot := { s.shot with
        loss := tabPut s.shot.loss key { e with lam := e.lam + lam, reasons := e.reasons ||| reasons } } }
    | none =>
      if s.shot.loss.length < 65536 then
        let s : State := { s with shot := { s.shot with loss := tabPut s.shot.loss key ⟨lam, reasons, false⟩ } }
        s.wr Reg.SHOT_LOSS_FILL.peak (Nat.max (s.rd Reg.SHOT_LOSS_FILL.peak) s.shot.loss.length)
      else s.earlyReport x px y lam reasons

/-- Add reasons to an entry that exists. (log 60) -/
def State.addReasons (s : State) (px y reasons : Nat) : State :=
  match tabFind s.shot.loss (pixKey px y) with
  | none => s
  | some e => { s with shot := { s.shot with
      loss := tabPut s.shot.loss (pixKey px y) { e with reasons := e.reasons ||| reasons } } }

/-- The pixel columns of a block. -/
def blockPixels (v blk : Nat) : List Nat :=
  (List.range 256).map (fun i => pixelX (blockRow v blk) (blockCol v blk + i))

/-- The line a block exposes at a stripe tick, when it lies in the stripe (R19). -/
def blockLineAt (v : Nat) (d : Desc) (tick blk : Nat) : Option Nat :=
  let y := nominalY d.dir d.len tick (blockRow v blk)
  if inStripe d.len y then some y.toNat else none

/-- The live pixels of a block at a stripe tick, with their line and pass. -/
def livePixels (v : Nat) (x : Stripe) (tick blk : Nat) : List (Nat × Nat) :=
  match blockLineAt v x.d tick blk with
  | none => []
  | some y => ((blockPixels v blk).filter (fun px => (x.col px).isLive (passOf x.d.dir (blockRow v blk)))).map (fun px => (px, y))

/-- The in-stripe pixels of a block at a stripe tick, whatever their beams. -/
def tilePixels (v : Nat) (x : Stripe) (tick blk : Nat) : List (Nat × Nat) :=
  match blockLineAt v x.d tick blk with
  | none => []
  | some y => (blockPixels v blk).map (fun px => (px, y))

/-- R268, R308: an entry that no copy gives: its pixels enter the loss table with the unknown reason. -/
def State.tlogLost (s : State) (x : Stripe) (e : TickEntry) : State :=
  let s := (s.failAt (entryLoc memTlog (e.n % 8192))).updTick e.n (fun e => { e with unknown := 2 ^ blocksOf s.variant - 1 })
  let s := (List.range (blocksOf s.variant)).foldl (fun (s : State) (blk : Nat) =>
    (tilePixels s.variant x e.s blk).foldl (fun (s : State) (p : Nat × Nat) => s.addLoss x p.1 p.2 0 rUnknown) s) s
  (s.inc Reg.TIME_TLOG_STAT.check_fail).raise 0x0217 [w x.d.seq, wd e.n]

/-! ### Residual segments -/

/-- Write the residuals of some pixels of a line, segment by segment, each with a fresh check (R164). -/
def State.writeRho (s : State) (seq y : Nat) (ups : List (Nat × Int)) : State :=
  (List.range (segsOf s.variant)).foldl (fun s seg =>
    let mine := ups.filter (fun e => e.1 / 256 = seg)
    if mine = [] then s
    else
      match s.winRead seq y 1 seg with
      | none => s
      | some d => s.winWrite seq y 1 seg (mine.foldl (fun d e => setAt d (e.1 % 256) e.2) d)) s

/-- Table 11.2: the window row of a segment. -/
def winLoc (y seg : Nat) : Location := ⟨2, (32 * (slotOf y % 16) + seg) * 2 ^ 19 + slotOf y / 16 * 2 ^ 9⟩

/-- R174: the segment is written with ρ := 0, its pixels are named lost. -/
def State.resetRho (s : State) (x : Stripe) (y seg : Nat) : State :=
  let s := s.winWrite x.d.seq y 1 seg (List.replicate 256 0)
  let s := (List.range 256).foldl (fun s k => s.addLoss x (256 * seg + k) y 0 rRhoLost) s
  (s.inc Reg.SHOT_RHO_REBUILD.failed).raise 0x0506 [w x.d.seq, w y, w seg]

/-- R174: queue a rebuild, or reset the segment when eight wait. -/
def State.queueRebuild (s : State) (x : Stripe) (y seg tick : Nat) : State :=
  if s.shot.rebuilds.any (fun r => r.seq = x.d.seq && r.y = y && r.seg = seg) then s
  else if s.shot.rebuilds.length < 8 then
    { s with shot := { s.shot with rebuilds := s.shot.rebuilds ++ [⟨x.d.seq, y, seg, tick, false⟩] } }
  else s.resetRho x y seg

/-- R174: a ρ segment fails its check at a tick. -/
def State.rhoFailed (s : State) (x : Stripe) (y seg tick : Nat) : State :=
  let s := (s.inc Reg.WIN_CHECK_ERR.rho_errors).wrs
    [(Reg.WIN_LAST_BAD.plane, 1), (Reg.WIN_LAST_BAD.segment, seg), (Reg.WIN_LAST_BAD.line, y)]
  let s := if s.win.injected.contains (winKey (slotOf y) 1 seg) then s else s.failAt (winLoc y seg)
  if s.shot.rebuilds.any (fun r => r.seq = x.d.seq && r.y = y && r.seg = seg) then s
  else (s.raise 0x0505 [w x.d.seq, w y, w seg]).queueRebuild x y seg tick

/-- R122: a written P segment fails its check. -/
def State.pFailed (s : State) (x : Stripe) (y seg : Nat) : State :=
  let s := (s.inc Reg.WIN_CHECK_ERR.p_errors).wrs
    [(Reg.WIN_LAST_BAD.plane, 0), (Reg.WIN_LAST_BAD.segment, seg), (Reg.WIN_LAST_BAD.line, y)]
  let s := if s.win.injected.contains (winKey (slotOf y) 0 seg) then s else s.failAt (winLoc y seg)
  let s := if s.win.toldP.contains (x.d.seq, y, seg) then s
    else ({ s with win := { s.win with toldP := (x.d.seq, y, seg) :: s.win.toldP } }).raise 0x0522 [w x.d.seq, w y, w seg]
  s.requestRerender y seg

/-- R121: a segment is read before its render is complete; a segment whose records could not be fetched asks for its
re-render (R125). -/
def State.pLate (s : State) (x : Stripe) (y seg : Nat) (again : Bool) : State :=
  let s := if s.shot.lateSegs.contains (y, seg) then s
    else (({ s with shot := { s.shot with lateSegs := (y, seg) :: s.shot.lateSegs } }).inc Reg.RENDER_LATE.late).raiseFor
      x.d.seq 0x0521 [w x.d.seq, w y, w seg]
  if again then s.requestRerender y seg else s

/-! ### Reading the inputs of a shot (R36, R158 to R161) -/

/-- Why a block is blanked. -/
inductive Cause where
  | pSeg (y seg : Nat)
  | late (cell : Int × Int)
  | fRow (row x0 : Int)
  | rho (y seg : Nat)
  | rebuilding
  | trim (group : Nat)
  | reach
  | tlog
deriving DecidableEq, Repr

/-- R159: P at a sample of a stripe; outside the stripe 0 without a read; none when the read fails. -/
def State.sampleP (s : State) (x : Stripe) (px y : Int) : Option Nat :=
  if px < 0 ∨ (widthOf s.variant : Int) ≤ px ∨ y < 0 ∨ (x.d.len : Int) ≤ y then some 0
  else (s.winPixel x.d.seq px.toNat y.toNat 0).map (fun v => v.toNat)

/-- Segments that the samples of a landing point read (R159). -/
def State.sampleSegs (s : State) (x : Stripe) (px y : Nat) (ox oy : Int) : List (Nat × Nat) :=
  ((sampleOffsets ox oy).filterMap fun e =>
    let sx := (px : Int) + e.1
    let sy := (y : Int) + e.2.1
    if sx < 0 ∨ (widthOf s.variant : Int) ≤ sx ∨ sy < 0 ∨ (x.d.len : Int) ≤ sy then none
    else some (sy.toNat, sx.toNat / 256)).eraseDups

/-- R159: the interpolated pattern dose; none when a read fails. -/
def State.patternAt (s : State) (x : Stripe) (px y : Nat) (ox oy : Int) : Option Nat :=
  (sampleOffsets ox oy).foldl (fun acc e =>
    match acc, s.sampleP x ((px : Int) + e.1) ((y : Int) + e.2.1) with
    | some a, some p => some (a + p * e.2.2)
    | _, _ => none) (some 0)

/-- R158: the landing offset of a beam at a tick. -/
def landing (x : Stripe) (e : TickEntry) (beam : Nat) : Int × Int :=
  let t := trimAt x.lat.trims beam
  if x.lat.posComp then (e.dx + trimX t, e.dy + trimY t) else (trimX t, trimY t)

/-- R122, R150: the reads of the P segments and of the F map that the target of a pass of a pixel needs, as far as they fail. -/
def State.readCauses (s : State) (x : Stripe) (bad : List BadRead) (px y : Nat) (o : Int × Int) : List Cause :=
  let segs := (s.sampleSegs x px y o.1 o.2).filter (fun g =>
    bad.contains (.pSeg g.1 g.2) || (s.winRead x.d.seq g.1 0 g.2).isNone)
  let (cx, cy, _, _) := pixelCells px y
  let f := if x.fParams.any (fun p => p.mode ≠ 0) then
      bad.filterMap (fun b => match b with
        | .fRow row x0 n => if (row = cy ∨ row = cy + 1) ∧ x0 ≤ cx + 1 ∧ cx < x0 + n then some (Cause.fRow row x0) else none
        | _ => none)
    else []
  segs.map (fun g => Cause.pSeg g.1 g.2) ++ f

/-- R161: the target of a pass of a pixel; none when it cannot be computed. -/
def State.targetAt (s : State) (x : Stripe) (px y : Nat) (o : Int × Int) : Option Nat :=
  match s.patternAt x px y o.1 o.2, fPix x px y with
  | some pi, .ok f => some (target pi f x.lat.nominal)
  | _, _ => none

/-- The inputs of one live shot that are missing or bad (Table 1.5, R160, R268). -/
def State.shotCauses (s : State) (x : Stripe) (e : TickEntry) (bad : List BadRead) (px y k beam : Nat) : List Cause :=
  let o := landing x e beam
  let reads := s.readCauses x bad px y o
  let late := match fPix x px y with
    | .error cells => cells.map Cause.late
    | .ok _ => []
  let seg := px / 256
  let r := (if s.shot.rebuilds.any (fun b => b.seq = x.d.seq && b.y = y && b.seg = seg) then [Cause.rebuilding] else []) ++
    (if bad.contains (.rhoSeg y seg) || (s.winRead x.d.seq y 1 seg).isNone then [Cause.rho y seg] else [])
  let t := if 32 - x.lat.rp ≤ k && s.lostBelow x px y k then [Cause.tlog] else []
  (if beyondReach o.1 o.2 then Cause.reach :: reads.filter (fun c => match c with | .pSeg _ _ => false | _ => true) else reads) ++
    late ++ r ++ t

/-- R162, R169: the demand of a live pass of a pixel with target t and residual rho. -/
def State.demand (s : State) (x : Stripe) (px y k : Nat) (t : Nat) (rho : Int) : Int :=
  let c := x.col px
  if k < 32 - x.lat.rp then share t c.stuck c.live (c.rank k) + rho
  else
    let rs := c.reserves x.lat.rp
    let ms := ((s.missedBelow x px y k).getD []).filter (fun i => decide (i < 32 - x.lat.rp))
    let lost := rs.map (fun v => decide (v < k) && s.missed x px y v = some true)
    let p := rs.findIdx (fun v => v = k)
    let mine := (List.range ms.length).filter (fun i => makesUp lost i p)
    (mine.map (fun i => share t c.stuck c.live (c.rank (ms.getD i 0)))).foldl (· + ·) 0 + rho

/-- What one live shot does: pixel, code, old and new residual, loss, reasons. -/
structure ShotRes where
  px : Nat
  code : Nat
  old : Int
  rho : Int
  loss : Int
  reasons : Nat
deriving DecidableEq, Repr

/-- R161 to R163: one live shot whose inputs are good. -/
def State.shoot (s : State) (x : Stripe) (e : TickEntry) (px y k beam : Nat) : ShotRes :=
  let t := (s.targetAt x px y (landing x e beam)).getD 0
  let old := (s.rhoOf x px y).getD 0
  let g := (x.col px).gains.getD k 0x400
  let want := s.demand x px y k t old
  let (c, rho, loss) := codeOf want g
  ⟨px, c, old, rho, loss, (if 255 < codeRaw want g then rHeadroom else 0) + (if (t : Int) < (x.col px).stuck then rStuck else 0)⟩

/-- What the computation of a block gives. -/
inductive BlockRes where
  | blank (causes : List Cause)
  | codes (c : List Nat) (shots : List ShotRes)
deriving DecidableEq, Repr

/-- R299: groups of 64 live trim entries of a block that fail their check. -/
def State.badGroupsOf (s : State) (bad : List BadRead) (blk : Nat) : List Cause :=
  ((List.range 4).filter (fun i => bad.contains (.trim (4 * blk + i)) || s.cal.badGroups.contains (4 * blk + i))).map
    (fun i => Cause.trim (4 * blk + i))

/-- R19, R155, R165: the computation of a block at a tick. -/
def State.computeBlock (s : State) (x : Stripe) (e : TickEntry) (bad : List BadRead) (blk : Nat) : BlockRes :=
  match blockLineAt s.variant x.d e.s blk with
  | none => .codes [] []
  | some y =>
    let r := blockRow s.variant blk
    let k := passOf x.d.dir r
    let beams := (List.range 256).map (fun i => (pixelX r (blockCol s.variant blk + i), 256 * blk + i))
    let live := beams.filter (fun b => (x.col b.1).isLive k)
    let causes := (s.badGroupsOf bad blk ++ live.flatMap (fun b => s.shotCauses x e bad b.1 y k b.2)).eraseDups
    if causes ≠ [] then .blank causes
    else
      let shots := live.map (fun b => s.shoot x e b.1 y k b.2)
      .codes (beams.map (fun b => ((shots.find? (fun q => q.px = b.1)).map (·.code)).getD 0)) shots

/-! ### What a tick's computation does to the state -/

/-- R147: cells not stored, counted once per stripe. -/
def State.cellLate (s : State) (x : Stripe) (c : Int × Int) : State :=
  if s.shot.lateCells.contains c then s
  else (({ s with shot := { s.shot with lateCells := c :: s.shot.lateCells } }).inc Reg.PEC_LATE.late).raiseFor x.d.seq 0x0530
    [w x.d.seq, w (toField 32 c.2)]

/-- The consequence of one cause, once per tick. -/
def State.applyCause (s : State) (x : Stripe) (e : TickEntry) (c : Cause) : State :=
  match c with
  | .pSeg y seg =>
    if s.render.missing.contains (y, seg) then s.pLate x y seg true
    else if s.lineRendered x y then s.pFailed x y seg else s.pLate x y seg false
  | .late cell => s.cellLate x cell
  | .fRow row _ =>
    let s := (s.inc Reg.PEC_ERR.f_fail).raise 0x0532 [w x.d.seq, w (toField 32 row)]
    if s.pec.redo.contains (x.d.seq, row) then s
    else { s with pec := { s.pec with redo := s.pec.redo ++ [(x.d.seq, row)] } }
  | .rho y seg => s.rhoFailed x y seg e.s
  | .rebuilding => s
  | .trim g => { s with cal := { s.cal with badGroups := if s.cal.badGroups.contains g then s.cal.badGroups else g :: s.cal.badGroups } }
  | .reach => s.raiseFor x.d.seq 0x0508 [w x.d.seq, wd e.n]
  | .tlog => s

/-- R165: count the missed passes of a block's live in-stripe shots. -/
def State.countMissed (s : State) (x : Stripe) (tick blk : Nat) : State :=
  s.incBy Reg.SHOT_MISSED.missed (livePixels s.variant x tick blk).length

/-- R163, R172: one shot's loss and reasons. -/
def State.shotLoss (s : State) (x : Stripe) (y : Nat) (r : ShotRes) : State :=
  if r.loss ≠ 0 then (s.addLoss x r.px y r.loss r.reasons).inc Reg.SHOT_SAT.sat
  else s.addReasons r.px y r.reasons

/-- A computed block's codes, residuals, undo entries and losses; the tick counts as computed for the gain of an early report (R171). -/
def State.applyShots (s : State) (x : Stripe) (e : TickEntry) (blk : Nat) (codes : List Nat) (shots : List ShotRes) : State :=
  match blockLineAt s.variant x.d e.s blk with
  | none => s
  | some y =>
    let s := s.updTick e.n (fun e => { e with
      codes := if codes.all (· = 0) then e.codes else tabPut e.codes blk codes
      undo := if shots = [] then e.undo else tabPut e.undo blk (shots.map (fun r => ⟨r.px, y, r.old, r.loss⟩)) })
    let s := s.writeRho x.d.seq y (shots.map (fun r => (r.px, r.rho)))
    shots.foldl (fun s r => s.shotLoss { x with computed := e.s + 1 } y r) s

/-- R165: the DK1 blanks a block. -/
def State.blankBlock (s : State) (x : Stripe) (e : TickEntry) (blk : Nat) : State :=
  (s.updTick e.n (fun e => { e with dk1 := withBit e.dk1 blk })).countMissed x e.s blk

/-- R36, R165: what the computation of one block of a tick gives; `whole` blanks it whatever its inputs. -/
def State.blockRes (s : State) (x : Stripe) (e : TickEntry) (bad : List BadRead) (whole : Bool) (blk : Nat) : BlockRes :=
  if whole then .blank [] else s.computeBlock x e bad blk

/-- R165: a block's result enters the state. -/
def State.applyBlock (s : State) (x : Stripe) (e : TickEntry) (blk : Nat) (r : BlockRes) : State :=
  match r with
  | .blank _ => s.blankBlock x e blk
  | .codes c shots => s.applyShots x e blk c shots

/-- The causes of a block that is blanked for its inputs. -/
def BlockRes.causes (r : BlockRes) : List Cause :=
  match r with
  | .blank cs => cs
  | .codes _ _ => []

/-! ### Completion (R170, R171, R318) -/

/-- The code sent for a beam in an entry. -/
def codeSent (e : TickEntry) (beam : Nat) : Nat := ((tabFind e.codes (blockOf beam)).getD []).getD (beam % 256) 0

/-- The integrated emitted dose of a pixel, over the passes computed so far (ch. 11). -/
def State.emitted (s : State) (x : Stripe) (px y : Nat) : Int :=
  let c := x.col px
  ((List.range 32).map fun k =>
    match s.tickAt x.d.seq (passTick x.d.dir x.d.len px y k) with
    | none => 0
    | some e =>
      let b := passBeam s.variant x.d.dir px k
      if c.isLive k && !blanked e (blockOf b) then accDose (codeSent e b) (c.gains.getD k 0) else 0).sum + c.stuck

/-- R318: the record value of an emitted dose. -/
def recordValue (shift : Nat) (a : Int) : Nat :=
  Nat.min 65535 ((a.toNat + (if shift = 0 then 0 else 2 ^ (shift - 1))) >>> shift)

/-- R168, R170: the missed passes of a pixel among those with a share, and the numbers of the unrecovered ones among them. -/
def State.unmade (s : State) (x : Stripe) (px y : Nat) : List Nat × List Nat :=
  let c := x.col px
  let ms := (List.range (32 - x.lat.rp)).filter (fun k => c.isLive k && s.missed x px y k = some true)
  let lost := (c.reserves x.lat.rp).map (fun v => decide (s.missed x px y v = some true))
  (ms, (List.range ms.length).filter (fun i => unrecovered lost i))

/-- R170: completion needs the pixel's target: it has an unrecovered missed pass, or its column no live pass. -/
def State.needsT (s : State) (x : Stripe) (px y : Nat) : Bool := !(s.unmade x px y).2.isEmpty || decide ((x.col px).live = 0)

/-- R170: the landing offset of pass 31; none beyond the sampling reach. -/
def State.lastLanding (s : State) (x : Stripe) (px y : Nat) : Option (Int × Int) :=
  match s.tickAt x.d.seq (passTick x.d.dir x.d.len px y 31) with
  | none => none
  | some e =>
    let o := landing x e (passBeam s.variant x.d.dir px 31)
    if beyondReach o.1 o.2 then none else some o

/-- R122, R150, R170: the reads that fail at the completion of a pixel. -/
def State.completionCauses (s : State) (x : Stripe) (bad : List BadRead) (px y : Nat) : List Cause :=
  if !s.needsT x px y then []
  else
    match s.lastLanding x px y with
    | none => []
    | some o => s.readCauses x bad px y o

/-- What completion adds to a pixel: the loss (none: it cannot be computed), whether T − S_x is below 0, the numbers of unrecovered
and of made-up passes. -/
structure Completion where
  add : Option Int
  beyond : Bool
  un : Nat
  made : Nat
deriving DecidableEq, Repr

/-- R170: what completion adds to a pixel's loss: the substitute shares of its unrecovered missed passes, or T − S_x in a
column without live pass. -/
def State.completion (s : State) (x : Stripe) (bad : List BadRead) (px y : Nat) : Completion :=
  let c := x.col px
  let (ms, un) := s.unmade x px y
  let made := ms.length - un.length
  if !s.needsT x px y then ⟨some 0, false, un.length, made⟩
  else
    match (s.lastLanding x px y).bind (fun o => if s.readCauses x bad px y o = [] then s.targetAt x px y o else none) with
    | none => ⟨none, false, un.length, made⟩
    | some t =>
      let add : Int := if c.live = 0 then (t : Int) - c.stuck
        else (un.map (fun i => share t c.stuck c.live (c.rank (ms.getD i 0)))).foldl (· + ·) 0
      ⟨some add, decide ((t : Int) < c.stuck), un.length, made⟩

/-- R167: some pass of the pixel lay in an unconfirmed tile. -/
def State.unconfirmedPixel (s : State) (x : Stripe) (px y : Nat) : Bool :=
  (List.range 32).any fun k => match s.tickAt x.d.seq (passTick x.d.dir x.d.len px y k) with
    | none => false
    | some e => e.unconf.testBit (tileOf (passBeam s.variant x.d.dir px k))

/-- R170 to R173, R318: a pixel completes; `bad` names reads that fail. A first loss that arises now takes an entry of the loss table
(R172). (log 61) -/
def State.completePixel (s : State) (x : Stripe) (bad : List BadRead) (px y : Nat) : State :=
  let key := pixKey px y
  let s := if x.lat.recMode = 0 then s
    else { s with shot := { s.shot with vals := tabPut s.shot.vals key (recordValue x.lat.shift (s.emitted x px y)) } }
  let c := s.completion x bad px y
  let s := s.incBy Reg.SHOT_MADEUP.made_up c.made
  let why := (if c.un = 0 then 0 else rUnrec) ||| (if c.beyond then rStuck else 0)
  let s := if bad.contains (.loss px y) && (tabFind s.shot.loss key).isSome then s.lossFailed px y else s
  let s := if (c.add.getD 0) = 0 then s.addReasons px y why else s.addLoss x px y (c.add.getD 0) why
  let ent := (tabFind s.shot.loss key).map LossEnt.read
  let wasEarly : Bool := s.shot.early.contains key
  let s := { s with shot := { s.shot with
    loss := tabErase s.shot.loss key, early := s.shot.early.filter (fun k => k ≠ key) } }
  if wasEarly then s
  else
    let rho := s.rhoOf x px y
    let err := -(rho.getD 0 + (ent.map (·.lam)).getD 0)
    let gw := s.lastGain x px y
    let r0 := ((ent.map (·.reasons)).getD 0) ||| why
    let unknown : Bool := c.add.isNone || r0.testBit 6 || (ent.isSome && bad.contains (.loss px y))
    let conf : Bool := r0.testBit 4 || s.unconfirmedPixel x px y
    let lostRho : Bool := r0.testBit 5 || rho.isNone
    let tol : Bool := !unknown && outOfTolerance err gw
    let reasons := r0 ||| (if unknown then rUnknown else 0) ||| (if conf then rUnconf else 0) |||
      (if lostRho then rRhoLost else 0) ||| (if tol then rTol else 0)
    if unknown || conf || lostRho || tol then
      s.report x.d.seq (reportBytes x.d.seq reasons px y (s.missedCount x px y) gw err)
    else s

/-! ### Resolution (R166, R167, R227, R267) -/

/-- R171, R322: once the last pixel of a stripe that is over has completed, the reports issued are announced and sent. -/
def State.closeReports (s : State) (seq : Nat) : State :=
  match s.stripe seq with
  | none => s
  | some x =>
    if x.st = .done ∧ s.shot.tlog.all (fun e => e.cal || e.seq ≠ seq || !e.launched || e.final) then
      (if s.shot.reportNo = 0 then s else s.raiseFor seq 0x0507 [w seq, w s.shot.reportNo]).flushReports seq
    else s

/-- R267: an entry becomes final: it is spooled and mirrored, and after the stripe's last tick the reports issued are announced. -/
def State.finalise (s : State) (e : TickEntry) : State :=
  let e := { e with final := true, undo := [] }
  let s := (s.updTick e.n (fun _ => e)).mirror e.seq (.tlogFinal (tlogBytes e))
  match if e.cal then none else s.stripe e.seq with
  | none => s.spoolTlog s.check.tlogMode e
  | some x => (s.spoolTlog x.lat.tlogMode e).closeReports e.seq

/-- Every fitted lane. -/
def laneMask (v : Nat) : Nat := 2 ^ lanesOf v - 1

/-- The pixels of a lane that complete at a tick: those whose pass 31 it carries (R170). -/
def completing (v : Nat) (x : Stripe) (tick lane : Nat) : List (Nat × Nat) :=
  (List.range 16).flatMap fun j =>
    let blk := 16 * lane + j
    if passOf x.d.dir (blockRow v blk) = 31 then
      match blockLineAt v x.d tick blk with
      | none => []
      | some y => (blockPixels v blk).map (fun px => (px, y))
    else []

/-- R122, R150, R170: the reads that fail while pixels complete are answered, each once, as long as the window is the stripe's. -/
def State.answerReads (s : State) (x : Stripe) (e : TickEntry) (cs : List Cause) : State :=
  if s.render.stripe ≠ some x.d.seq then s else cs.eraseDups.foldl (fun s c => s.applyCause x e c) s

/-- R166, R170: the pixels whose pass 31 a lane carries at a tick complete. -/
def State.completeLane (s : State) (x : Stripe) (e : TickEntry) (bad : List BadRead) (lane : Nat) : State :=
  let ps := completing s.variant x e.s lane
  let cs := ps.flatMap (fun p => s.completionCauses x bad p.1 p.2)
  (ps.foldl (fun (s : State) (p : Nat × Nat) => s.completePixel x bad p.1 p.2) s).answerReads x e cs

/-- R166, R170, R267: a tick is resolved on a lane: its pixels complete, and the entry is final once every lane has. -/
def State.resolve (s : State) (n lane : Nat) (bad : List BadRead := []) : State :=
  match s.shot.tlog.find? (fun e => e.n = n) with
  | none => s
  | some e =>
    if e.resolved.testBit lane then s
    else
      let s := s.updTick n (fun e => { e with resolved := withBit e.resolved lane })
      let s : State := match s.stripe e.seq with
        | some x => if e.cal then s else s.completeLane x e bad lane
        | none => s
      match s.shot.tlog.find? (fun e => e.n = n) with
      | none => s
      | some e => if e.resolved = laneMask s.variant ∧ ¬ e.final then s.finalise e else s

/-- R308: the undo entry of a block of a tick fails its check. -/
def State.undoFailed (s : State) (n blk : Nat) : State := s.failAt (entryLoc memUndo (n % 8 * 1024 + blk))

/-- R166: a block that was sent and not applied: ρ restored, loss taken back, the block entered and counted. A block whose
undo entry fails its check cannot be restored (Table 10.1). -/
def State.restoreBlock (s : State) (x : Stripe) (e : TickEntry) (bad : List BadRead) (blk : Nat) : State :=
  let us := (tabFind e.undo blk).getD []
  let y := (us.head?.map (·.y)).getD 0
  if us = [] then s
  else if e.badUndo.testBit blk || bad.contains (.undo e.n blk) then
    us.foldl (fun (s : State) (u : UndoEnt) => s.addLoss x u.x u.y 0 rRhoLost) (s.undoFailed e.n blk)
  else
    let s := s.writeRho x.d.seq y (us.map (fun u => (u.x, u.rho)))
    us.foldl (fun s u => if u.loss = 0 then s else s.addLoss x u.x u.y (-u.loss) 0) s

/-- R166 steps 1 to 3: the receiver blanked a block. -/
def State.receiverBlanked (s : State) (e : TickEntry) (bad : List BadRead) (blk : Nat) : State :=
  match s.stripe e.seq with
  | none => s.updTick e.n (fun e => { e with rx := withBit e.rx blk })
  | some x =>
    if e.cal then s.updTick e.n (fun e => { e with rx := withBit e.rx blk })
    else if e.dk1.testBit blk then s.updTick e.n (fun e => { e with rx := withBit e.rx blk })
    else
      let s := (s.restoreBlock x e bad blk).countMissed x e.s blk
      (s.updTick e.n (fun e => { e with rx := withBit e.rx blk })).inc Reg.SHOT_UNDO.restores

/-- R203, R227: a tile whose frame was not launched: ρ restored, all its blocks DK1-blanked. -/
def State.withhold (s : State) (e : TickEntry) (lane : Nat) : State :=
  (List.range 16).foldl (fun s j =>
    let blk := 16 * lane + j
    if e.dk1.testBit blk then s
    else
      match s.stripe e.seq with
      | some x =>
        if e.cal then s.updTick e.n (fun e => { e with dk1 := withBit e.dk1 blk })
        else ((s.restoreBlock x e [] blk).countMissed x e.s blk).updTick e.n (fun e => { e with dk1 := withBit e.dk1 blk })
      | none => s.updTick e.n (fun e => { e with dk1 := withBit e.dk1 blk })) s

/-- R167, R172: a lane has not resolved a tick when its undo entry expires: every pixel with a pass in the tile, of whatever beam, takes
an entry. -/
def State.unconfirmed (s : State) (e : TickEntry) (bad : List BadRead) (lane : Nat) : State :=
  let s := (List.range 16).foldl (fun s j =>
    let blk := 16 * lane + j
    if e.dk1.testBit blk then s else s.receiverBlanked e bad blk) s
  let s := (s.updTick e.n (fun e => { e with unconf := withBit e.unconf lane })).inc Reg.SHOT_UNDO.unconfirmed
  let s : State := match s.stripe e.seq with
    | some x => if e.cal then s else ((List.range 16).flatMap (fun j => tilePixels s.variant x e.s (16 * lane + j))).foldl
        (fun (s : State) (p : Nat × Nat) => s.addLoss x p.1 p.2 0 rUnconf) s
    | none => s
  s.resolve e.n lane bad

/-! ### ρ rebuilds (R174, R175) -/

/-- R174: the inputs of a replayed pass that fail: the tick log entry, the trims, P and F. -/
def State.replayCauses (s : State) (x : Stripe) (bad : List BadRead) (px y k : Nat) (e : TickEntry) : List Cause :=
  let beam := passBeam s.variant x.d.dir px k
  let g := beam / 64
  let o := landing x e beam
  (if bad.contains (.tlog e.s) then [Cause.tlog] else []) ++
    (if bad.contains (.trim g) || s.cal.badGroups.contains g then [Cause.trim g] else []) ++ s.readCauses x bad px y o

/-- R175: the residual of a pixel before the ticks not yet computed, by replay; an input that cannot be read ends it, with the tick and
the cause (R174). -/
def State.replay (s : State) (x : Stripe) (bad : List BadRead) (px y : Nat) : Except (Option TickEntry × Cause) Int :=
  let c := x.col px
  (List.range 32).foldl (fun acc k =>
    match acc with
    | .error err => .error err
    | .ok rho =>
      let tick := passTick x.d.dir x.d.len px y k
      if !c.isLive k || decide (x.computed ≤ tick) then .ok rho
      else
        match s.tickAt x.d.seq tick, s.missed x px y k with
        | some e, some m =>
          if m then (if bad.contains (.tlog e.s) then .error (some e, .tlog) else .ok rho)
          else
            match s.replayCauses x bad px y k e with
            | cause :: _ => .error (some e, cause)
            | [] =>
              match s.targetAt x px y (landing x e (passBeam s.variant x.d.dir px k)) with
              | none => .error (some e, .tlog)
              | some t => .ok (codeOf (s.demand x px y k t rho) (c.gains.getD k 0x400)).2.1
        | _, _ => .error (none, .tlog)) (.ok 0)

/-- The pixels of a segment by replay; the first failing read ends it (R174). -/
def State.replaySegment (s : State) (x : Stripe) (bad : List BadRead) (y seg : Nat) : Except (Option TickEntry × Cause) (List Int) :=
  (List.range 256).foldr (fun k acc =>
    match s.replay x bad (256 * seg + k) y, acc with
    | .error err, _ => .error err
    | .ok _, .error err => .error err
    | .ok v, .ok vs => .ok (v :: vs)) (.ok [])

/-- R122, R150, R268, R299: the read that ended a replay is answered under its own rule. -/
def State.answerReplay (s : State) (x : Stripe) (err : Option TickEntry × Cause) : State :=
  match err with
  | (some e, .tlog) => if e.unknown = 2 ^ blocksOf s.variant - 1 then s else s.tlogLost x e
  | (some e, c) => s.answerReads x e [c]
  | (none, _) => s

/-- R174: every stripe tick before the failing one is resolved. -/
def State.earlierResolved (s : State) (seq tick : Nat) : Bool :=
  s.shot.tlog.all (fun e => e.cal || e.seq ≠ seq || decide (tick ≤ e.s) || e.final)

/-- RHO_REBUILD_START (R174). -/
def execRhoRebuildStart (s : State) : Host.Outcome State Fault Refusal :=
  match s.shot.rebuilds.find? (fun r => !r.started) with
  | none => .next s
  | some r =>
    if s.earlierResolved r.seq r.failTick then
      .next { s with shot := { s.shot with rebuilds := (
        updWhere (fun b => b.seq = r.seq && b.y = r.y && b.seg = r.seg) (fun b => { b with started := true })
          s.shot.rebuilds) } }
    else .next s

/-- RHO_REBUILD_DONE (R174, R175): the oldest running rebuild ends; `bad` names the reads that fail their checks. -/
def execRhoRebuildDone (bad : List BadRead) (s : State) : Host.Outcome State Fault Refusal :=
  match s.shot.rebuilds.find? (fun r => r.started) with
  | none => .next s
  | some r =>
    let s : State := { s with shot := { s.shot with
      rebuilds := s.shot.rebuilds.filter (fun b => ¬ (b.seq = r.seq ∧ b.y = r.y ∧ b.seg = r.seg)) } }
    match s.stripe r.seq with
    | none => .next s
    | some x =>
      match s.replaySegment x bad r.y r.seg with
      | .ok vals => .next ((s.winWrite r.seq r.y 1 r.seg vals).inc Reg.SHOT_RHO_REBUILD.rebuilt)
      | .error err => .next ((s.answerReplay x err).resetRho x r.y r.seg)

/-! ### Window rows (R271, R272) -/

/-- The line of the stripe in the window that a slot holds now, if any. -/
def State.lineInSlot (s : State) (slot : Nat) : Option (Stripe × Nat) :=
  match s.render.stripe.bind s.stripe with
  | none => none
  | some x =>
    ((List.range s.render.lines).reverse.find? (fun i =>
      slotOf (scanLine x.d i) = slot && !released x i)).map (fun i => (x, scanLine x.d i))

/-- WINDOW_ROW_REMAP (R272): the oldest lasting window row waiting is mapped to a spare of its bank. -/
def execWindowRowRemap (s : State) : Host.Outcome State Fault Refusal :=
  match s.win.waiting with
  | [] => .next s
  | (bank, row) :: rest =>
    let s : State := { s with win := { s.win with waiting := rest } }
    let used := tabGet 0 s.win.sparesUsed bank
    if 8 ≤ used then .next ((s.wr Reg.WIN_SPARE.exhausted 1).raise 0x0310 [w bank])
    else
      let slot := row * 16 + bank / 32
      let seg := bank % 32
      let s : State := { s with win := { s.win with
        sparesUsed := tabSet 0 s.win.sparesUsed bank (used + 1),
        segs := tabErase (tabErase s.win.segs (winKey slot 0 seg)) (winKey slot 1 seg) } }
      let s := (s.inc Reg.WIN_SPARE.used).wrs [(Reg.WIN_SPARE_LAST.bank, bank), (Reg.WIN_SPARE_LAST.row, row)]
      let s := s.forget ⟨2, bank * 2 ^ 19 + row * 2 ^ 9⟩
      let s := match s.lineInSlot slot with
        | none => s
        | some (x, y) => (s.requestRerender y seg).queueRebuild x y seg x.computed
      .next (s.raise 0x030F [w bank, w row])

end Sys2Proof.Machine
end

