-- ==== Sys2Proof/Machine/Lane.lean ====
section
/-! DEFINITION. The lanes: bring-up, back-channel messages, adaptation, retraining, tests and error injection (ch. 7, R194
to R211; ch. 8, R219 to R239). -/

namespace Sys2Proof.Machine

/-! ### Lanes by number -/

/-- Table 8.7: LANE_STATE.state codes. -/
abbrev lnDisabled : Nat := 0
abbrev lnDetect : Nat := 1
abbrev lnTrain : Nat := 2
abbrev lnLock : Nat := 3
abbrev lnCaps : Nat := 4
abbrev lnLatency : Nat := 5
abbrev lnActive : Nat := 6
abbrev lnTest : Nat := 7
abbrev lnLoop : Nat := 8
abbrev lnFailed : Nat := 9

def State.lane (s : State) (t : Nat) : Lane := tabGet Lane.init s.lanes t

def State.setLane (s : State) (t : Nat) (l : Lane) : State := { s with lanes := tabSet Lane.init s.lanes t l }

def State.updLane (s : State) (t : Nat) (f : Lane → Lane) : State := s.setLane t (f (s.lane t))

def State.laneSt (s : State) (t : Nat) : Nat := s.rd (Reg.LANE_STATE.state t)

/-- R219: the states in which the outbound pair is not in electrical idle. -/
def drives (st : Nat) : Bool := decide (lnTrain ≤ st) && decide (st ≤ lnTest)

def State.txLine (s : State) (t : Nat) : TxLine := tabGet TxLine.init s.tx t

def State.setTx (s : State) (t : Nat) (l : TxLine) : State := { s with tx := tabSet TxLine.init s.tx t l }

/-- R215, R219: the pair goes into electrical idle, with nothing planned on it, or leaves it with a scrambler state that is not 0. -/
def State.driveTx (s : State) (t st : Nat) : State :=
  let l := s.txLine t
  let was := drives (s.laneSt t)
  if was && !drives st then s.setTx t { l with plan := [], runEnd9 := 0, carried := .quiet :: l.carried }
  else if !was && drives st then s.setTx t { l with plan := [], runEnd9 := 0, scr := seedBits 58 (Config.lineSeed t s.now) }
  else s

def State.setLaneSt (s : State) (t st : Nat) : State := (s.driveTx t st).wr (Reg.LANE_STATE.state t) st

/-- The lane is fitted (R221). -/
def State.fitted (s : State) (t : Nat) : Bool := decide (t < lanesOf s.variant)

/-- Local time in ps. -/
def State.ps (s : State) : Nat := s.clk * 1000 / 2 ^ 32

/-- R216: line time of k blocks of 130 bits at 56.25 Gbit/s (ps). -/
def blkPs (k : Nat) : Nat := k * 20800 / 9

/-- When something launched now on a lane begins to arrive at the receiver, in ninths of a ps. -/
def State.now9 (s : State) (t : Nat) : Nat := 9 * (s.ps + (s.lane t).dfwd)

/-- R181, R199: planned blocks of a lane have moved; what its replay buffer knows of their ends moves with them. -/
def State.moveEnds (s : State) (t : Nat) (moves : List (Nat × Nat)) : State :=
  if moves = [] then s
  else
    let moved (ps : Nat) : Nat := ((moves.find? (fun q => (q.1 + blk9) / 9 = ps)).map (fun q => (q.2 + blk9) / 9)).getD ps
    s.updLane t (fun l => { l with
      replay := l.replay.map (fun r => { r with frameEnd := moved r.frameEnd, copies := r.copies.map moved }) })

/-- R181: put blocks on a lane's pair; what has begun by now is on the line and stays. -/
def State.putBlocks (s : State) (t : Nat) (place : LinePlace) (bs : List LineBlk) : State :=
  let r := ((s.txLine t).commit (s.now9 t)).put place bs
  (s.setTx t { r.1 with runEnd9 := moved r.2 r.1.runEnd9 }).moveEnds t r.2

/-- An ordered set launched now on a lane, ahead of the data blocks still to come, with the time it begins to arrive. -/
def State.laneOut (s : State) (t : Nat) (b : Bytes) : State :=
  (s.putBlocks t .front [⟨s.now9 t, true, b, false⟩]).send (.lane t (s.ps + (s.lane t).dfwd) b)

/-- R217: the pair carries line blocks from now on, after a pattern. -/
def State.codeLine (s : State) (t : Nat) : State := s.setTx t { s.txLine t with end9 := s.now9 t }

/-- R222, R233: the pair carries a pattern from now on, from a generator state that is not 0. -/
def State.runPattern (s : State) (t : Nat) (prbs31 : Bool) : State :=
  let l := (s.txLine t).commit (s.now9 t)
  let gen := seedBits (if prbs31 then 31 else 13) (Config.lineSeed t s.now)
  s.setTx t { l with plan := [], runEnd9 := 0, carried := .pattern prbs31 gen :: l.carried }

/-- Stripe named by the position registers (R39). -/
def State.seqNow (s : State) : Nat := s.rd Reg.SHOT_STRIPE.seq

/-- Raise a lane-class event at most once per stripe per lane (Table 7.10). -/
def State.raiseLane (s : State) (seq t code : Nat) (data : List EvWord) : State :=
  match s.stripe seq with
  | none => s.raise code data
  | some x =>
    if x.told.contains (0x100000 + code * 64 + t) then s
    else (s.raise code data).noteTold seq (0x100000 + code * 64 + t)

/-- The job is in none of the states ARMED, EXPOSING, TURNAROUND and SUSPENDED. -/
def State.jobQuiet (s : State) : Bool :=
  s.jobSt ≠ jobArmed && s.jobSt ≠ jobExposing && s.jobSt ≠ jobTurnaround && s.jobSt ≠ jobSuspended

/-- The number of the last tick computed. -/
def State.lastComputed (s : State) : Nat :=
  match s.shot.tlog.find? (fun e => e.computed) with
  | some e => e.n
  | none => s.lastTick

/-! ### Leaving and entering ACTIVE (R207, R226, R227) -/

/-- R227: ticks computed for a lane and not launched are withheld and resolved at once. -/
def State.leaveActive (s : State) (t : Nat) : State :=
  let es := (s.shot.tlog.filter (fun e => e.computed && !e.launched && !e.resolved.testBit t)).reverse
  let s := es.foldl (fun (s : State) (e : TickEntry) => (s.withhold e t).resolve e.n t) s
  let s := s.setTx t { (s.txLine t).commit (s.now9 t) with plan := [], runEnd9 := 0 }
  s.updLane t (fun l => { l with replay := [] })

/-- Enter DETECT (Table 8.2). (log 28) -/
def State.enterDetect (s : State) (t : Nat) : State :=
  (s.updLane t (fun l => { l with hits := 0, since := s.now, lastSend := s.now, hold := none, blockLock := false })).setLaneSt t lnDetect

/-- R223: magnitude of the main tap, from those of the side taps. -/
def mainTap (taps : Nat × Nat × Nat × Nat) : Nat := 64 - (taps.1 + taps.2.1 + taps.2.2.1 + taps.2.2.2)

/-- Transmit taps: the side taps as counted in LANE_FFE, and the main tap (R223). -/
def State.setTaps (s : State) (t : Nat) (taps : Nat × Nat × Nat × Nat) : State :=
  (s.setTx t { s.txLine t with main := mainTap taps }).wrs [(Reg.LANE_FFE.pre2 t, taps.1), (Reg.LANE_FFE.pre1 t, taps.2.1), (Reg.LANE_FFE.post1 t, taps.2.2.1),
    (Reg.LANE_FFE.post2 t, taps.2.2.2)]

/-- Table 8.3: the side taps of a preset. -/
def presetTaps (p : Nat) : Nat × Nat × Nat × Nat :=
  if p = 2 then (0, 4, 8, 0) else if p = 3 then (0, 8, 12, 2) else if p = 4 then (2, 12, 16, 2) else (0, 0, 0, 0)

/-- R222: enter TRAIN and send PRBS13Q; `full` starts from the preset, retraining from the coefficients in use. -/
def State.enterTrain (s : State) (t : Nat) (full : Bool) : State :=
  let s := if full then s.setTaps t (presetTaps (s.rd Reg.LANE_BRINGUP.preset)) else s
  ((s.updLane t (fun l => { l with since := s.now, blockLock := false, hold := none })).setLaneSt t lnTrain).runPattern t false

/-- R219: enter LOCK, with line blocks on the pair again. -/
def State.enterLock (s : State) (t : Nat) : State :=
  ((s.updLane t (fun l => { l with since := s.now })).setLaneSt t lnLock).codeLine t

/-- Enter ACTIVE: the attempt count, the freeze and the scheduled retraining are cleared, the credits start afresh, and
STATUS_REQ is sent (R202, R220, R227, R229, R230). -/
def State.enterActive (s : State) (t : Nat) : State :=
  let s := s.updLane t (fun l => { l with
    resync := true, spent := 0, replay := [], replays := [], lastCheck := s.now, answered := true, misses := 0,
    lowSeen := false, slot := false, unknown := [] })
  let s := s.wrs [(Reg.LANE_STATE.attempts t, 0), (Reg.LANE_STATE.frozen t, 0), (Reg.LANE_STATE.retrain_pending t, 0),
    (Reg.LANE_CREDIT.cum_rx t, 0), (Reg.LANE_CREDIT.avail t, s.rd (Reg.LANE_RX_CAPS0.credits t))]
  (s.setLaneSt t lnActive).laneOut t statusReqSet

/-- Electrical idle held for a time, after which the lane enters DETECT (R220, R226). -/
def State.holdIdle (s : State) (t ns : Nat) : State :=
  (s.updLane t (fun l => { l with hits := 0, since := s.now, hold := some (s.now + ns), blockLock := false })).setLaneSt t lnDetect

/-- R226: an ACTIVE lane is lost. -/
def State.loseLane (s : State) (t reason : Nat) : State :=
  let s := s.leaveActive t
  let s := ((s.wr (Reg.LANE_STATE.last_fail t) reason).inc (Reg.LANE_STATE.downs t)).raise 0x0404
    [w s.seqNow, w t, wd s.lastComputed, w reason]
  s.holdIdle t 10000

/-- R220: a failed bring-up attempt. -/
def State.failAttempt (s : State) (t reason : Nat) : State :=
  let n := s.rd (Reg.LANE_STATE.attempts t) + 1
  let s := (s.wrs [(Reg.LANE_STATE.attempts t, n), (Reg.LANE_STATE.last_fail t, reason)]).raise 0x0402 [w t, w reason]
  if s.rd Reg.LANE_BRINGUP.retries ≤ n then (s.setLaneSt t lnFailed).raise 0x0403 [w t, w reason]
  else s.holdIdle t 100000

/-- R220: a refusal under R207 or R209. -/
def State.refuseLane (s : State) (t reason code value : Nat) : State :=
  let s := (s.wr (Reg.LANE_STATE.last_fail t) reason).raise code [w t, w value]
  (s.setLaneSt t lnFailed).raise 0x0403 [w t, w reason]

/-! ### Back-channel messages (R194) -/

/-- States in which the receiver's back channel can speak. -/
def State.hears (s : State) (t : Nat) : Bool := s.fitted t && decide (lnTrain ≤ s.laneSt t) && decide (s.laneSt t ≤ lnTest)

/-- R194: a message whose CRC-16 fails is discarded. -/
def State.discardMsg (s : State) (t : Nat) : State :=
  (s.inc (Reg.LANE_PROTO_ERR.msg_crc t)).raiseLane s.seqNow t 0x0427 [w s.seqNow, w t]

/-- R225: the sync header of one more block of the back channel, valid or not. -/
def State.noteHead (s : State) (t : Nat) (valid : Bool) : State :=
  s.setTx t { s.txLine t with heads := (valid :: (s.txLine t).heads).take 64 }

/-- R194: receive a message of a type: discarded when its check fails, otherwise given to its function. (log 65) -/
def State.onMessage (s : State) (t typ : Nat) (b : Bytes) (f : State → State) : State :=
  if s.hears t = false then s
  else if setGood b = false then (s.noteHead t true).discardMsg t
  else if byteAt b 0 = typ then f (s.noteHead t true)
  else s

/-! ### Acknowledgement and credit (R199, R202) -/

def State.replayOf (s : State) (t n : Nat) : Option ReplayTick := (s.lane t).replay.find? (fun r => r.n = n)

def State.updReplay (s : State) (t n : Nat) (f : ReplayTick → ReplayTick) : State :=
  s.updLane t (fun l => { l with replay := updWhere (fun r => r.n = n) f l.replay })

/-- The TICK of a tick has not been launched (R199). -/
def State.tickOpen (s : State) (n : Nat) : Bool := s.shot.tlog.any (fun e => e.n = n && e.launched && !e.tickSent)

/-- R199: the message came too early to cover the latest replay of a unit. -/
def State.tooEarly (s : State) (t : Nat) (r : ReplayTick) (u : Nat) : Bool :=
  let l := s.lane t
  decide (0 < r.counts.getD u 0) && decide (s.ps < r.copies.getD u 0 + (l.loop - l.dfwd))

/-- R199: one unit of an ACK. -/
def State.ackUnit (s : State) (t n : Nat) (good : Bool) (u : Nat) : State :=
  match s.replayOf t n with
  | none => s
  | some r =>
    if s.tooEarly t r u then s
    else if good then s.updReplay t n (fun r => { r with acked := withBit r.acked u, cand := withoutBit r.cand u })
    else s.updReplay t n (fun r => { r with cand := withBit r.cand u })

/-- ACK_RECEIVE (R194, R199). -/
def execAckReceive (t : Nat) (b : Bytes) (s : State) : Host.Outcome State Fault Refusal :=
  .next (s.onMessage t 0x81 b fun s =>
    let n := beAt b 1 5
    if s.tickOpen n then
      let s := (List.range 16).foldl (fun s j => s.ackUnit t n ((beAt b 6 2).testBit j) j) s
      let s := s.ackUnit t n ((byteAt b 8).testBit 0) 16
      s.updReplay t n (fun r => { r with acks := true })
    else s)

/-- NAK_RECEIVE (R194, R199). -/
def execNakReceive (t : Nat) (b : Bytes) (s : State) : Host.Outcome State Fault Refusal :=
  .next (s.onMessage t 0x82 b fun s =>
    let s := s.inc (Reg.LANE_NAKS.naks t)
    let n := beAt b 1 5
    let u := byteAt b 6 % 32
    if s.tickOpen n && decide (u ≤ 16) then s.ackUnit t n false u else s)

/-- R202: credits in flight, modulo 65,536. -/
def State.setCredit (s : State) (t cum : Nat) : State :=
  let out := serialDiff 16 cum (s.lane t).spent
  s.wrs [(Reg.LANE_CREDIT.cum_rx t, cum), (Reg.LANE_CREDIT.avail t, s.rd (Reg.LANE_RX_CAPS0.credits t) - out)]

/-- CREDIT_RECEIVE (R194, R202). -/
def execCreditReceive (t : Nat) (b : Bytes) (s : State) : Host.Outcome State Fault Refusal :=
  .next (s.onMessage t 0x83 b fun s => if s.laneSt t = lnActive then s.setCredit t (beAt b 1 2) else s)

/-- ACK_TIMEOUT (R199): no ACK for a tick frame by its end, 200 ns, the loop flight and the slack. -/
def execAckTimeout (t n : Nat) (s : State) : Host.Outcome State Fault Refusal :=
  match s.replayOf t n with
  | none => .next s
  | some r =>
    let l := s.lane t
    let due := r.frameEnd - l.dfwd + 200000 + l.loop + 1000 * s.rd Reg.LANE_PROTO_CTRL.ack_slack_ns
    if r.acks || !s.tickOpen n || decide (s.ps < due) then .next s
    else
      let s := s.updReplay t n (fun r => { r with acks := true, cand := r.cand ||| (0x1FFFF ^^^ r.acked) })
      let seq := ((s.shot.tlog.find? (fun e => e.n = n)).map (·.seq)).getD s.seqNow
      .next ((s.inc (Reg.LANE_PROTO_ERR.ack_timeouts t)).raiseLane seq t 0x0422 [w seq, w t, wd n])

/-! ### STATUS (R196, R197) -/

/-- One block that STATUS reports receiver-blanked. -/
def State.statusBlock (s : State) (t : Nat) (e : TickEntry) (bad : List BadRead) (j : Nat) : State :=
  let blk := 16 * t + j
  let s := s.inc (Reg.LANE_RX_BLANK.blanked t)
  let s := match s.replayOf t e.n with
    | some r => if r.refused.testBit j then
        (s.inc (Reg.LANE_PROTO_ERR.late_naks t)).raiseLane e.seq t 0x0421 [w e.seq, w t, wd e.n, w j] else s
    | none => s
  s.receiverBlanked e bad blk

/-- R197: what a STATUS says of one tick that was sent on the lane and is not yet resolved there. -/
def State.statusTick (s : State) (t n bitmap : Nat) (missed : Bool) (bad : List BadRead) : State :=
  match s.shot.tlog.find? (fun e => e.n = n) with
  | none => s
  | some e =>
    if !e.launched || !e.sent.testBit t || e.resolved.testBit t then s
    else
      let s := if missed then s.raiseLane e.seq t 0x0425 [w e.seq, w t, wd n] else s
      let s := (setBits bitmap 16).foldl (fun s j => s.statusBlock t e bad j) s
      let s := s.resolve n t bad
      let s := s.updLane t (fun l => { l with replay := l.replay.filter (fun r => r.n ≠ n) })
      s

/-- STATUS_RECEIVE (R166, R194, R196, R197). `bad` lists the reads that fail their check: undo
entries, and what completions read. -/
def execStatusReceive (t : Nat) (b : Bytes) (bad : List BadRead) (s : State) : Host.Outcome State Fault Refusal :=
  .next (s.onMessage t 0x84 b fun s =>
    let n := beAt b 1 5
    let f := byteAt b 12
    let s := s.wr (Reg.LANE_LAST_STATUS.tick_lo t) (n % 2 ^ 32)
    let s := s.updLane t (fun l => { l with lastStatus := some (n, beAt b 6 2, beAt b 8 2, beAt b 10 2, f) })
    let s := if f.testBit 3 then s.raiseLane s.seqNow t 0x0424 [w t, w (t % 64)] else s
    let s := if f.testBit 6 then s.raiseLane s.seqNow t 0x0426 [w t, wd n] else s
    if f.testBit 5 then s
    else
      let s := if 2 ≤ n then s.statusTick t (n - 2) (beAt b 10 2) (f.testBit 2) bad else s
      let s := if 1 ≤ n then s.statusTick t (n - 1) (beAt b 8 2) (f.testBit 1) bad else s
      s.statusTick t n (beAt b 6 2) (f.testBit 0) bad)

/-! ### Capability and latency (R207, R209) -/

/-- R209: send CONFIG; the guard in force on the lane is the one sent (R205). -/
def State.sendConfig (s : State) (t : Nat) : State :=
  let g := s.rd Reg.LANE_GUARD.guard_ns
  let s := s.updLane t (fun l => { l with sends := l.sends + 1, lastSend := s.now, guardNs := g })
  s.laneOut t (configSet t s.variant g (s.rd Reg.GLOBAL_REV.fw_rev))

/-- R209: why CAPS is refused: 1 credits, 2 tick range, 3 A_rx, 4 a reserved bit (numbered by the model, log 20). -/
def capsRefusal (b : Bytes) : Nat :=
  let lo := beAt b 5 2
  let hi := beAt b 7 2
  if beAt b 3 2 < 48 then 1
  else if hi < lo ∨ hi < 800 ∨ 6400 < lo then 2
  else if 20000 < beAt b 11 2 then 3
  else if 4 ≤ byteAt b 13 then 4
  else 0

/-- CAPS_RECEIVE (R194, R209). (log 63) -/
def execCapsReceive (t : Nat) (b : Bytes) (s : State) : Host.Outcome State Fault Refusal :=
  .next (s.onMessage t 0x86 b fun s =>
    if s.laneSt t ≠ lnCaps then s
    else
      let s := s.wrs [(Reg.LANE_RX_CAPS0.rx_type t, beAt b 1 2), (Reg.LANE_RX_CAPS0.credits t, beAt b 3 2),
        (Reg.LANE_RX_TICKS.tick_min t, Nat.min 8191 (beAt b 5 2)), (Reg.LANE_RX_TICKS.tick_max t, Nat.min 8191 (beAt b 7 2)),
        (Reg.LANE_RX_CAPS1.fw_rev t, beAt b 9 2), (Reg.LANE_RX_APPLY.apply_ps t, beAt b 11 2),
        (Reg.LANE_RX_CAPS1.monitor t, bitOf (byteAt b 13) 1), (Reg.LANE_RX_CAPS1.far_loop t, bitOf (byteAt b 13) 0)]
      if capsRefusal b = 0 then
        (s.updLane t (fun l => { l with
          probes := [], flights := [], since := s.now, farLoop := (byteAt b 13).testBit 0 })).setLaneSt t lnLatency
      else s.refuseLane t 4 0x0428 (capsRefusal b))

/-- CONFIG_RESEND (R209, Table 8.2): every 2 µs in CAPS, up to 8 sends. -/
def execConfigResend (t : Nat) (s : State) : Host.Outcome State Fault Refusal :=
  let l := s.lane t
  if s.laneSt t = lnCaps ∧ l.sends < 8 ∧ l.lastSend + 2000 ≤ s.now then .next (s.sendConfig t) else .next s

/-- LAT_PROBE_SEND (R207): one of eight probes, 10 µs apart. -/
def execLatProbeSend (t : Nat) (s : State) : Host.Outcome State Fault Refusal :=
  let l := s.lane t
  if s.laneSt t = lnLatency ∧ l.probes.length < 8 ∧ (l.probes = [] ∨ l.since + 10000 * l.probes.length ≤ s.now) then
    let id := l.probes.length
    let s := s.updLane t (fun l => { l with
      since := if l.probes = [] then s.now else l.since, probes := l.probes ++ [(id, s.ps + blkPs 1)] })
    .next (s.laneOut t (latProbeSet id))
  else .next s

/-- Insert into a list in increasing order. -/
def insertNat (x : Nat) : List Nat → List Nat
  | [] => [x]
  | y :: ys => if x ≤ y then x :: y :: ys else y :: insertNat x ys

def sortNat (l : List Nat) : List Nat := l.foldr insertNat []

/-- R207: the median, the mean of the two middle values of an even number rounded down. -/
def median (l : List Nat) : Nat :=
  let l := sortNat l
  let n := l.length
  if n % 2 = 1 then l.getD (n / 2) 0 else (l.getD (n / 2 - 1) 0 + l.getD (n / 2) 0) / 2

/-- R207: the measurement is judged. -/
def State.judgeLatency (s : State) (t : Nat) : State :=
  let fl := (s.lane t).flights
  let loops := fl.map (·.2)
  let loop := median loops
  let fwd : Int := (loop / 2 : Nat) + signedOf 16 (s.rd (Reg.LANE_SKEW.skew_ps t))
  let sorted := sortNat loops
  let units := Nat.min 65535 (fwd.toNat * 64 / 1000)
  if sorted.headD 0 + 500 < sorted.getLastD 0 ∨ 250000 < fwd then s.refuseLane t 5 0x0429 units
  else
    let s := s.wrs [(Reg.LANE_LATENCY.rtt_ns t, Nat.min 65535 (median (fl.map (·.1)) / 1000)), (Reg.LANE_LATENCY.fwd t, units)]
    (s.updLane t (fun l => { l with loop := loop, dfwd := fwd.toNat })).enterActive t

/-- LATENCY_RECEIVE (R194, R207): `sub` is the picosecond within the core cycle at which the last symbol arrived. -/
def execLatencyReceive (t : Nat) (b : Bytes) (sub : Nat) (s : State) : Host.Outcome State Fault Refusal :=
  .next (s.onMessage t 0x87 b fun s =>
    let l := s.lane t
    match l.probes.find? (fun p => p.1 = byteAt b 1) with
    | none => s
    | some p =>
      if s.laneSt t ≠ lnLatency ∨ l.since + 100000 < s.now then s
      else
        let rtt := s.ps + sub - p.2
        let s := s.updLane t (fun l => { l with
          probes := l.probes.map (fun q => if q.1 = p.1 then (256 + q.1, q.2) else q)
          flights := l.flights ++ [(rtt, rtt - beAt b 2 4)] })
        if (s.lane t).flights.length = 8 then s.judgeLatency t else s)

/-! ### Training (R222, R223) -/

/-- One tap after a step request of two bits, within its range and the total of the others. -/
def stepTap (req cur top others : Nat) : Nat :=
  if req = 1 then (if cur < top ∧ cur + others < 32 then cur + 1 else cur)
  else if req = 2 then cur - 1
  else cur

/-- R222: apply a tap request. -/
def State.stepTaps (s : State) (t steps : Nat) : State :=
  let a := s.rd (Reg.LANE_FFE.pre2 t)
  let b := s.rd (Reg.LANE_FFE.pre1 t)
  let c := s.rd (Reg.LANE_FFE.post1 t)
  let d := s.rd (Reg.LANE_FFE.post2 t)
  let a' := stepTap (bitsOf steps 6 2) a 4 (b + c + d)
  let b' := stepTap (bitsOf steps 4 2) b 16 (a' + c + d)
  let c' := stepTap (bitsOf steps 2 2) c 16 (a' + b' + d)
  let d' := stepTap (bitsOf steps 0 2) d 4 (a' + b' + c')
  s.setTaps t (a', b', c', d')

/-- R222: the request of a TRN_STAT. -/
def State.trainRequest (s : State) (t : Nat) (b : Bytes) : State :=
  if (s.lane t).lastReq = some (byteAt b 2) then s
  else
    let s := s.updLane t (fun l => { l with lastReq := some (byteAt b 2) })
    let r := byteAt b 3
    if 1 ≤ r ∧ r ≤ 4 then s.setTaps t (presetTaps r) else if r = 5 then s.stepTaps t (byteAt b 4) else s

/-- TRN_STAT_RECEIVE (R194, R219, R222, R226): `lock` says that the back channel has held block lock. -/
def execTrnStatReceive (t : Nat) (b : Bytes) (lock : Bool) (s : State) : Host.Outcome State Fault Refusal :=
  .next (s.onMessage t 0x89 b fun s =>
    let s := s.updLane t (fun l => { l with blockLock := lock })
    let st := s.laneSt t
    if st = lnActive then s.loseLane t 8
    else if st = lnTrain then
      let s := s.trainRequest t b
      if (byteAt b 1).testBit 0 && lock then s.enterLock t else s
    else if st = lnLock then
      if (byteAt b 1).testBit 1 && lock then
        ((s.updLane t (fun l => { l with since := s.now, sends := 0 })).setLaneSt t lnCaps).sendConfig t
      else s
    else s)

/-- RECEIVER_DETECT_PROBE (R219): every 1,000 µs in DETECT; two loads in a row start training. -/
def execReceiverDetectProbe (t : Nat) (load : Bool) (s : State) : Host.Outcome State Fault Refusal :=
  let l := s.lane t
  if s.laneSt t ≠ lnDetect ∨ l.hold.isSome ∨ s.now < l.lastSend + 1000000 then .next s
  else
    let s := s.updLane t (fun l => { l with lastSend := s.now, hits := if load then l.hits + 1 else 0 })
    if 2 ≤ (s.lane t).hits then .next (s.enterTrain t true) else .next s

/-- BRINGUP_TIMEOUT (R207, R220, Table 8.2). -/
def execBringupTimeout (t : Nat) (s : State) : Host.Outcome State Fault Refusal :=
  let l := s.lane t
  let st := s.laneSt t
  if st = lnTrain ∧ l.since + 2000000 ≤ s.now then .next (s.failAttempt t 1)
  else if st = lnLock ∧ l.since + 100000 ≤ s.now then .next (s.failAttempt t 2)
  else if st = lnCaps ∧ 8 ≤ l.sends ∧ l.lastSend + 2000 ≤ s.now then .next (s.failAttempt t 3)
  else if st = lnLatency ∧ l.probes ≠ [] ∧ l.since + 100000 ≤ s.now then
    if 6 ≤ l.flights.length then .next (s.judgeLatency t) else .next (s.failAttempt t 5)
  else .next s

/-- ELECTRICAL_IDLE_HOLD_END (R220, R226). -/
def execElectricalIdleHoldEnd (t : Nat) (s : State) : Host.Outcome State Fault Refusal :=
  match (s.lane t).hold with
  | none => .next s
  | some due => if s.now < due then .next s else .next (s.enterDetect t)

/-- LANE_LOST (R225, R226): loss of signal (6) or of lock (7) on the back channel. -/
def execLaneLost (t : Nat) (lock : Bool) (s : State) : Host.Outcome State Fault Refusal :=
  if s.laneSt t = lnActive then .next (s.loseLane t (if lock then 7 else 6))
  else .next (s.updLane t (fun l => { l with blockLock := false }))

/-- R226: a message of an unknown type counts towards the loss of the lane; the reason code of such a loss has no value in
Table 8.7, so it is free. -/
def State.unknownType (s : State) (t : Nat) : State :=
  let s := s.inc (Reg.LANE_PROTO_ERR.msg_crc t)
  let recent := s.now :: (s.lane t).unknown.filter (fun x => decide (s.now < x + 1000000))
  let s := s.updLane t (fun l => { l with unknown := recent })
  if s.laneSt t = lnActive ∧ 16 ≤ recent.length then s.bumpFree.loseLane t (Config.freeNat s.freeCnt % 16) else s

/-- R218, R225: an invalid sync header is counted; the 16th among the last 64 blocks is a loss of lock. -/
def State.badHead (s : State) (t : Nat) : State :=
  let s := (s.noteHead t false).inc (Reg.LANE_PROTO_ERR.msg_crc t)
  if (s.txLine t).heads.countP (fun v => !v) < 16 then s
  else
    let s := s.setTx t { s.txLine t with heads := [] }
    if s.laneSt t = lnActive then s.loseLane t 7 else s.updLane t (fun l => { l with blockLock := false })

/-- UNKNOWN_BACK_CHANNEL_BLOCK (R194, R217, R218, R225, R226): a block by its two sync header bits (2 control, 1 data) and its
16 bytes. -/
def execUnknownBackChannelBlock (t hdr : Nat) (b : Bytes) (s : State) : Host.Outcome State Fault Refusal :=
  if s.hears t = false then .next s
  else if hdr = 1 then .next (s.noteHead t true)
  else if hdr ≠ 2 then .next (s.badHead t)
  else if setGood b = false then .next ((s.noteHead t true).discardMsg t)
  else if 0x81 ≤ byteAt b 0 ∧ byteAt b 0 ≤ 0x8A then .next (s.noteHead t true)
  else .next ((s.noteHead t true).unknownType t)

/-! ### Enable, restart, lane test (R219, R227) -/

/-- A lane is taken to DISABLED. -/
def State.disableLane (s : State) (t : Nat) : State :=
  let s := if s.laneSt t = lnActive then s.leaveActive t else s
  let s := s.wr (Reg.LANE_TEST.running t) 0
  (s.updLane t (fun l => { l with hold := none, hits := 0, slot := false, test := none })).setLaneSt t lnDisabled

/-- Table 8.2: a DISABLED lane that is enabled, fitted and whose module holds the lanes enters DETECT. -/
def State.startLane (s : State) (t : Nat) : State :=
  if s.fitted t && s.holdsLanes && s.rd (Reg.LANE_CTRL.enable t) = 1 && s.laneSt t = lnDisabled then
    s.enterDetect t
  else s

/-- LANE_ENABLE_WRITE (R219). -/
def execLaneEnableWrite (t : Nat) (v : Bool) (s : State) : Host.Outcome State Fault Refusal :=
  if !s.fitted t then .next s
  else
    let s := s.wr (Reg.LANE_CTRL.enable t) (b2n v)
    .next (if v then s.startLane t else s.disableLane t)

/-- R219: a FAILED lane goes to DETECT with its attempt count cleared. -/
def State.restartLane (s : State) (t : Nat) : State :=
  if s.laneSt t = lnFailed then (s.wr (Reg.LANE_STATE.attempts t) 0).enterDetect t else s

/-- LANE_RESTART (R219). -/
def execLaneRestart (t : Nat) (v : Bool) (s : State) : Host.Outcome State Fault Refusal :=
  .next (if v then s.restartLane t else s)

/-- LANE_TEST_WRITE (R227): the lane goes out of service or back into it. -/
def execLaneTestWrite (t : Nat) (v : Bool) (s : State) : Host.Outcome State Fault Refusal :=
  .next (if s.fitted t then s.wr (Reg.LANE_CTRL.lane_test t) (b2n v) else s)

/-- P6_DETECT_LIMIT (R221): 2,000 ms into P6 a lane is still in DETECT. -/
def execP6DetectLimit (t : Nat) (s : State) : Host.Outcome State Fault Refusal :=
  if s.rd Reg.RCU_PHASE.phase = 6 ∧ s.power.phaseAt + 2000000000 ≤ s.now ∧ s.laneSt t = lnDetect ∧
      ¬ (s.lane t).p6Told then
    .next ((s.updLane t (fun l => { l with p6Told := true })).raise 0x0401 [w t])
  else .next s

/-! ### Adaptation and retraining (R228 to R232) -/

/-- R231: an ACTIVE lane leaves for TRAIN with 16 TRAIN_START sets. (log 64) -/
def State.retrainLane (s : State) (t reason : Nat) (slot : Bool) : State :=
  let s := s.leaveActive t
  let s := (List.replicate 16 ()).foldl (fun s _ => s.laneOut t (trainStartSet reason)) s
  (s.updLane t (fun l => { l with slot := slot })).enterTrain t false

/-- R231, R232: retraining is scheduled, and starts at once when the job is quiet. -/
def State.scheduleRetrain (s : State) (t reason : Nat) : State :=
  let s := s.wr (Reg.LANE_STATE.retrain_pending t) 1
  if s.jobQuiet then s.retrainLane t reason false else s

/-- R229: a low check; the first one freezes adaptation and schedules retraining. -/
def State.lowCheck (s : State) (t : Nat) : State :=
  if (s.lane t).lowSeen then s
  else
    let s := (s.updLane t (fun l => { l with lowSeen := true })).wr (Reg.LANE_STATE.frozen t) 1
    let s := s.raise 0x0405 [w s.seqNow, w t, w (s.rd (Reg.LANE_MARGIN.fwd_last t)), w (s.rd (Reg.LANE_MARGIN.back_last t))]
    s.scheduleRetrain t 1

/-- R229: a check that was not answered. -/
def State.missCheck (s : State) (t : Nat) : State :=
  let n := (s.lane t).misses + 1
  let s := s.updLane t (fun l => { l with misses := n })
  if Nat.max 1 (s.rd Reg.LANE_ADAPT.miss_limit) ≤ n then (s.updLane t (fun l => { l with misses := 0 })).lowCheck t else s

/-- ADAPT_CHECK_SEND (R228, R229): every 64 ± 1 µs while ACTIVE; `own` is the margin figure of the back-channel receiver. -/
def execAdaptCheckSend (t own : Nat) (s : State) : Host.Outcome State Fault Refusal :=
  let l := s.lane t
  if s.laneSt t ≠ lnActive ∨ s.now < l.lastCheck + 63000 then .next s
  else
    let s := if l.answered then s else s.missCheck t
    if s.laneSt t ≠ lnActive then .next s
    else
      let no := ((s.lane t).checkNo + 1) % 65536
      let s := s.laneOut t (adaptCheckSet no (s.rd (Reg.LANE_STATE.frozen t) = 1))
      let s := s.updLane t (fun l => { l with checkNo := no, lastCheck := s.now, answered := false })
      let s := s.wrs [(Reg.LANE_MARGIN.back_last t, own), (Reg.LANE_MARGIN.back_min t, Nat.min own (s.rd (Reg.LANE_MARGIN.back_min t)))]
      .next (if own < s.rd Reg.LANE_ADAPT.margin_min then s.lowCheck t else s)

/-- MARGIN_RECEIVE (R194, R228, R229). -/
def execMarginReceive (t : Nat) (b : Bytes) (s : State) : Host.Outcome State Fault Refusal :=
  .next (s.onMessage t 0x88 b fun s =>
    let l := s.lane t
    if s.laneSt t ≠ lnActive ∨ l.answered ∨ beAt b 1 2 ≠ l.checkNo then s
    else
      let m := byteAt b 3
      let s := s.updLane t (fun l => { l with answered := true, misses := 0 })
      let s := s.wrs [(Reg.LANE_MARGIN.fwd_last t, m), (Reg.LANE_MARGIN.fwd_min t, Nat.min m (s.rd (Reg.LANE_MARGIN.fwd_min t)))]
      if m < s.rd Reg.LANE_ADAPT.margin_min then s.lowCheck t else s)

/-- LANE_RETRAIN_REQUEST (R231, R232). -/
def execLaneRetrainRequest (t : Nat) (v : Bool) (s : State) : Host.Outcome State Fault Refusal :=
  if v ∧ s.laneSt t = lnActive then .next (s.scheduleRetrain t 2) else .next s

/-- Lanes by number. -/
def State.lanesWhere (s : State) (p : Nat → Bool) : List Nat := (List.range (lanesOf s.variant)).filter p

/-- R231: a lane is scheduled for retraining. -/
def State.retrainDue (s : State) (t : Nat) : Bool :=
  s.rd (Reg.LANE_STATE.retrain_pending t) = 1 && s.laneSt t = lnActive

/-- R34: lane retraining is scheduled. -/
def State.anyRetrain (s : State) : Bool := (List.range (lanesOf s.variant)).any s.retrainDue

/-! ### Lane tests (R233 to R239) -/

/-- The stripe whose first_tick is pending, with that time (ns). -/
def State.pendingFirst (s : State) : Option (Stripe × Nat) :=
  match s.sieve.stripes.find? (fun x => x.firstTick.isSome && x.st = .admitted || x.firstTick.isSome && x.st = .pending) with
  | none => none
  | some x => x.firstTick.map (fun f => (x, f))

/-- R33: a turnaround runs: from the end of a stripe's last tick to the first_tick of the next, a suspend that took effect at or
after that end and the resume after it included. -/
def State.inTurn (s : State) : Bool :=
  s.jobSt = jobTurnaround || (s.trig.endedStripe.isSome && (s.jobSt = jobSuspended || s.jobSt = jobArmed))

/-- The retraining slot and the calibration window of the turnaround are over, or there is none of them in it. -/
def State.slotsOver (s : State) : Bool :=
  s.cal.window.isNone && s.trig.calStart.isNone && s.trig.slot ≠ 1 && s.trig.slot ≠ 2

/-- R237: ns left for a pattern test in the turnaround part that allows it; none when it is shorter than 100 µs. -/
def State.testRoom (s : State) : Option Nat :=
  if s.inTurn = false ∨ s.slotsOver = false then none
  else
    match s.pendingFirst with
    | none => some (2 ^ 62)
    | some (x, f) =>
      let stop := f - 3 * x.d.tau - 300000
      if s.ns + 100000 ≤ stop then some (stop - s.ns) else none

/-- R233: tests whose pattern the DK1 sends on the outbound pair. -/
def sendsPattern (code : Nat) : Bool := code = 1 || code = 2 || code = 4

/-- Begin the pattern or loopback of a lane for a time (R233, R235): the pattern goes out 1 µs after the TEST_START sets; in tests 5
and 6 it stays inside the DK1, with the pair in electrical idle. -/
def State.beginTest (s : State) (t code runNs leftUs : Nat) (clipped : Bool) : State :=
  let s := if s.laneSt t = lnActive then s.leaveActive t else s
  let s := if code ≤ 4 then
      (List.replicate 16 ()).foldl (fun s _ => s.laneOut t (testStartSet code (runNs / 1000))) s
    else s
  let start := s.now + (if code ≤ 4 then 1000 else 0)
  let s := s.updLane t (fun l => { l with test := some ⟨code, start, start + runNs, leftUs, clipped, []⟩ })
  let s := (s.wrs [(Reg.LANE_TEST.running t, 1), (Reg.LANE_TEST.synced t, 0)]).setLaneSt t (if code ≤ 4 then lnTest else lnLoop)
  if sendsPattern code then s.runPattern t (code ≠ 2) else s

/-- R237: begin or continue a test of `us` microseconds, clipped to the turnaround or put off to a later one. -/
def State.runTest (s : State) (t code us : Nat) : State :=
  if 4 ≤ code ∨ s.rd (Reg.LANE_CTRL.lane_test t) = 1 ∨ s.jobQuiet then s.beginTest t code (1000 * us) 0 false
  else
    match s.testRoom with
    | some room => if 1000 * us ≤ room then s.beginTest t code (1000 * us) 0 false
        else s.beginTest t code (room / 1000 * 1000) (us - room / 1000) true
    | none => s.updLane t (fun l => { l with test := some ⟨code, 0, 0, us, true, []⟩ })

/-- R237, R238: the lane may run the test its LANE_TEST names. -/
def State.testAllowed (s : State) (t : Nat) : Bool :=
  let code := s.rd (Reg.LANE_TEST.test t)
  let st := s.laneSt t
  s.fitted t &&
    (if 1 ≤ code ∧ code ≤ 3 then
      st = lnActive && (s.rd (Reg.LANE_CTRL.lane_test t) = 1 || s.inTurn || s.jobQuiet)
    else if 4 ≤ code ∧ code ≤ 6 then
      (st = lnActive || st = lnFailed) && (s.rd Reg.RCU_PHASE.phase = 6 || st = lnFailed || s.jobQuiet) &&
        (code ≠ 4 || (s.lane t).farLoop)
    else false)

/-- A first test of a lane: its counts start from 0. -/
def State.startTest (s : State) (t : Nat) : State :=
  let s := s.wrs [(Reg.LANE_TEST_ERR.errors t, 0), (Reg.LANE_TEST_BITS_LO.bits_lo t, 0), (Reg.LANE_TEST_BITS_HI.bits_hi t, 0)]
  s.runTest t (s.rd (Reg.LANE_TEST.test t)) (s.rd (Reg.LANE_TEST_DUR.dur_us t))

/-- R235: counts are latched, errors saturating and bits over 48 bits. -/
def State.latchCounts (s : State) (t errors bits : Nat) (synced : Bool) : State :=
  let total := s.rd (Reg.LANE_TEST_BITS_HI.bits_hi t) * 2 ^ 32 + s.rd (Reg.LANE_TEST_BITS_LO.bits_lo t) + bits
  (s.incBy (Reg.LANE_TEST_ERR.errors t) errors).wrs [(Reg.LANE_TEST_BITS_LO.bits_lo t, total % 2 ^ 32),
    (Reg.LANE_TEST_BITS_HI.bits_hi t, total / 2 ^ 32), (Reg.LANE_TEST.synced t, b2n synced)]

/-- Kind of the lane BER test operation (Table 15.6). -/
abbrev kindBer : Nat := 6

/-- R235, R402: a cancelled BER operation drops what is left of the tests of its lanes. -/
def State.dropTests (s : State) (mask : Nat) : State :=
  (s.lanesWhere (fun t => mask.testBit t && s.rd (Reg.LANE_TEST.running t) = 0)).foldl (fun s t =>
    s.updLane t (fun l => { l with test := match l.test with
      | some x => if x.clipped ∧ 0 < x.leftUs then none else some x
      | none => none })) s

/-- R236 to R238: a test is refused. -/
def State.refuseTest (s : State) (t : Nat) : State := s.raise 0x0408 [w t, w (s.rd (Reg.LANE_TEST.test t))]

/-- The operation goes to its next lane, the lowest one not tested; each lane is judged by R237 or R238 as its turn comes, and one that
may not run its test then is refused it (log 86). The operation ends when none is left. (log 29) -/
def State.nextBer (s : State) : State :=
  match s.opOfKind kindBer with
  | none => s
  | some o =>
    if o.cancelling then (s.dropTests o.arg).setOp false o.handle (fun o => { o with st := .cancelled })
    else if o.st = .suspending then s.setOp false o.handle (fun o => { o with st := .suspended })
    else
      let left := (List.range 64).filter (fun t => o.arg.testBit t && decide (o.pos ≤ t))
      let s := (left.takeWhile (fun t => !s.testAllowed t)).foldl State.refuseTest s
      match left.find? s.testAllowed with
      | none => s.setOp false o.handle (fun o => { o with st := .done, permille := 1000 })
      | some t =>
        let s := s.setOp false o.handle (fun o => { o with
          pos := t + 1, permille := 1000 * popcount (o.arg % 2 ^ t) 64 / Nat.max 1 (popcount o.arg 64) })
        let s := s.startTest t
        s.setOp false o.handle (fun o => { o with
          st := if (s.laneSt t = lnTest ∨ s.laneSt t = lnLoop) then .running else .waiting })

/-- The lane returns by the path of its test (Table 8.5). -/
def State.testReturn (s : State) (t code : Nat) : State :=
  if code ≤ 3 then (s.updLane t (fun l => { l with blockLock := false })).enterLock t
  else if code = 4 then s.enterTrain t false
  else s.enterDetect t

/-- R239: bits of the first 500 µs of a far-end loopback at 56.25 Gbit/s. -/
def adaptBits : Nat := 28125000

/-- R234, R236, R239: the DK1's checker over the bits it received in a test: the inversions of a near-end loopback are in them, and the
time in which the receiver adapts to a far-end loopback is not counted. -/
def testChecker (x : LaneTest) (rx : List Bool) : Checker :=
  let bits := if x.code = 4 then rx.drop adaptBits else if 5 ≤ x.code then invertRuns x.flips rx else rx
  Checker.run 31 prbs31Next (Checker.start 31 0 0) bits

/-- LANE_TEST_END (R234, R235, R237): the duration or its clip ends; for tests 3 to 6 the DK1's own checker gives the
counts from the bits `rx` that reached it, in a near-end loopback without the inversions of R236. -/
def execLaneTestEnd (t : Nat) (rx : List Bool) (s : State) : Host.Outcome State Fault Refusal :=
  match (s.lane t).test with
  | none => .next s
  | some x =>
    if s.rd (Reg.LANE_TEST.running t) = 0 ∨ s.now < x.endsAt then .next s
    else
      let s := (s.wr (Reg.LANE_TEST.running t) 0).testReturn t x.code
      let c := testChecker x rx
      let s := if 3 ≤ x.code then s.latchCounts t c.errors c.bits c.synced else s
      if x.clipped ∧ 0 < x.leftUs then
        let s := s.updLane t (fun l => { l with test := some { x with endsAt := 0 } })
        .next (match s.opOfKind kindBer with
          | none => s
          | some o => (if o.cancelling then s.dropTests o.arg else s).setOp false o.handle (fun o => { o with
              st := if o.cancelling then .cancelled else if o.st = .suspending then .suspended else .waiting }))
      else
        let s := s.updLane t (fun l => { l with test := if x.code ≤ 2 then some { x with leftUs := 0, endsAt := 0 } else none })
        let s := if 3 ≤ x.code then s.raise 0x0409 [w t, w x.code, w (s.rd (Reg.LANE_TEST_ERR.errors t))] else s
        .next (if (s.opOfKind kindBer).any (fun o => o.arg.testBit t) then s.nextBer else s)

/-- TEST_RESULT_RECEIVE (R194, R235). -/
def execTestResultReceive (t : Nat) (b : Bytes) (s : State) : Host.Outcome State Fault Refusal :=
  .next (s.onMessage t 0x8A b fun s =>
    match (s.lane t).test with
    | none => s
    | some x =>
      if x.code ≠ byteAt b 1 ∨ 2 < x.code ∨ s.rd (Reg.LANE_TEST.running t) = 1 then s
      else
        let s := s.latchCounts t (beAt b 3 4) (beAt b 7 6) ((byteAt b 2).testBit 0)
        if 0 < x.leftUs then s
        else
          (s.updLane t (fun l => { l with test := none })).raise 0x0409 [w t, w x.code, w (s.rd (Reg.LANE_TEST_ERR.errors t))])

/-- R237, R402: the lane's rest of a test belongs to a BER operation that does not run. -/
def State.testHeld (s : State) (t : Nat) : Bool :=
  (s.opOfKind kindBer).any (fun o => o.arg.testBit t && o.st ≠ .running && o.st ≠ .waiting)

/-- Tests put off or clipped go on (R237). -/
def State.resumeTests (s : State) : State :=
  (s.lanesWhere (fun t => s.laneSt t = lnActive && !s.testHeld t)).foldl (fun s t =>
    match (s.lane t).test with
    | some x =>
      if x.clipped ∧ 0 < x.leftUs then
        let s := s.runTest t x.code x.leftUs
        match s.opOfKind kindBer with
        | some o => if s.laneSt t = lnTest ∧ o.arg.testBit t then s.setOp false o.handle (fun o => { o with st := .running }) else s
        | none => s
      else s
    | none => s) s

/-- R216, R236: number of the first bit of the next symbol of a pattern that began at a core cycle: two bits to a symbol, 28.125 symbols
to 1 ns. -/
def nextSymbol (from_ now : Nat) : Nat := 2 * ((now - from_) * 28125 / 1000 + 1)

/-- R236: invert n bits of the running pattern from the next symbol on; the pattern of test 3 is the receiver's (log 66). -/
def State.injectErrors (s : State) (t n : Nat) : State :=
  match (s.lane t).test with
  | none => s
  | some x =>
    if s.rd (Reg.LANE_TEST.running t) = 1 ∧ x.code ≠ 3 then
      let at_ := nextSymbol x.from_ s.now
      let s := s.updLane t (fun l => { l with test := some { x with flips := x.flips ++ [(at_, n)] } })
      if sendsPattern x.code then
        s.setTx t { s.txLine t with carried := .inverted at_ n :: (s.txLine t).carried }
      else s
    else s

/-- INJECT_BIT (R236). -/
def execInjectBit (t : Nat) (v : Bool) (s : State) : Host.Outcome State Fault Refusal :=
  .next (if v then s.injectErrors t 1 else s)

/-- R236, R240: burst_len bits are inverted, 0 meaning 64. -/
def State.injectBurst (s : State) (t : Nat) : State :=
  let n := s.rd (Reg.LANE_TEST.burst_len t)
  s.injectErrors t (if n = 0 then 64 else n)

/-- R236, R240: crc_count block frames are to be corrupted, 0 meaning 16; accepted only in lane test. -/
def State.injectCrc (s : State) (t : Nat) : State :=
  if s.rd (Reg.LANE_CTRL.lane_test t) = 1 then
    let n := s.rd (Reg.LANE_TEST.crc_count t)
    s.updLane t (fun l => { l with corrupt := if n = 0 then 16 else n })
  else s.refuseTest t

/-- INJECT_BURST (R236). -/
def execInjectBurst (t : Nat) (v : Bool) (s : State) : Host.Outcome State Fault Refusal :=
  .next (if v then s.injectBurst t else s)

/-- INJECT_CRC (R236). -/
def execInjectCrc (t : Nat) (v : Bool) (s : State) : Host.Outcome State Fault Refusal :=
  .next (if v then s.injectCrc t else s)

end Sys2Proof.Machine
end

