-- ==== Sys2Proof/Machine/Trim.lean ====
section
/-! DEFINITION. The trim banks: entries, host sessions, commits and the trim mirror (ch. 12, R325, R334 to R337). -/

namespace Sys2Proof.Machine

/-! ### Banks -/

/-- R341: a bank with an entry written; the entry that nothing has loaded is not listed. -/
def bankSet (b : Tab Nat) (beam v : Nat) : Tab Nat := tabSet trimDefault b beam v

/-- R338: the entry that reads of the trim table return. -/
def State.trimView (s : State) (beam : Nat) : Nat :=
  if beamsOf s.variant ≤ beam then 0
  else trimAt (if s.rd Reg.CAL_CTRL.view_live = 1 then s.cal.live else s.cal.shadow) beam

/-- Bytes of a whole bank, beam order (R339, Table 13.3). -/
def bankBytes (v : Nat) (bank : Tab Nat) : Bytes := (List.range (beamsOf v)).flatMap (fun b => toBE 4 (trimAt bank b))

/-! ### Host sessions (R335) -/

/-- R335: a host session is open. -/
def State.sessionOpen (s : State) : Bool := s.rd Reg.CAL_HOST.open_ = 1

/-- R335: open a session. -/
def State.openSession (s : State) : State := s.wr Reg.CAL_HOST.open_ 1

/-- R335, R431: a host write to the shadow entry of a beam, opening the session when none is. -/
def State.hostTrim (s : State) (beam v : Nat) : State :=
  if beamsOf s.variant ≤ beam then s
  else
    let s := s.openSession
    let sess := if s.cal.session.contains beam then s.cal.session else beam :: s.cal.session
    let s := { s with cal := { s.cal with shadow := bankSet s.cal.shadow beam v, session := sess } }
    s.wr Reg.CAL_HOST.dirty sess.length

/-- Close the session. -/
def State.closeSession (s : State) : State :=
  { s with cal := { s.cal with session := [] } }.wrs [(Reg.CAL_HOST.open_, 0), (Reg.CAL_HOST.dirty, 0)]

/-- R335: abort: the session's entries return to their live values. -/
def State.abortSession (s : State) : State :=
  let sh := s.cal.session.foldl (fun t b => bankSet t b (trimAt s.cal.live b)) s.cal.shadow
  { s with cal := { s.cal with shadow := sh } }.closeSession

/-! ### Commits (R336) -/

/-- The beam of the highest gain among live-state entries, with that gain. -/
def gainMax (v : Nat) (bank : Tab Nat) : Nat × Nat :=
  (List.range (beamsOf v)).foldl (fun m b =>
    let e := trimAt bank b
    if e / 2 ^ 28 = 0 ∧ m.2 < e % 65536 then (b, e % 65536) else m) (0, 0)

/-- R358: the live bank to the standby, 1,024 entries a frame, then TRIM_COMMIT. -/
def State.mirrorBank (s : State) (seq : Nat) : State :=
  if s.role ≠ roleActive then s
  else
    let s := (List.range (beamsOf s.variant / 1024)).foldl (fun s i =>
      s.mirror 0 (.trim (1024 * i) ((List.range 1024).map (fun k => trimAt s.cal.live (1024 * i + k))))) s
    s.mirror seq (.trimCommit seq (crc32c (bankBytes s.variant s.cal.live)))

/-- A line of the trim mirror, by its number in region 6, lies on a failed subchannel. -/
def State.mirrorOff (s : State) (i : Nat) : Bool :=
  (s.rd Reg.DMC_STATUS.sc_failed).testBit (s.placeOf (s.regionLine 6 + i)).sc

/-- R299: a group cannot be read from the trim mirror: one of its four lines has failed or lies on a failed subchannel. -/
def State.mirrorFails (s : State) (g : Nat) : Bool :=
  s.cal.badMirror.contains g || (s.rd Reg.DMC_STATUS.sc_failed ≠ 0 && (List.range 4).any (fun i => s.mirrorOff (4 * g + i)))

/-- R285: a verified write has failed. -/
def State.verifyFailed (s : State) (line region : Nat) : State := (s.inc Reg.DMC_VERIFY.fails).raise 0x0306 [w line, w region]

/-- R336: a line of the trim mirror, by its number, is not as it was written. -/
def State.badMirrorLine (s : State) (i : Nat) : State :=
  { s with cal := { s.cal with badMirror := i / 4 :: s.cal.badMirror.filter (fun g => g ≠ i / 4) } }

/-- R285, R336: the live bank is written to the trim mirror as verified writes; those to a failed subchannel fail (Table 10.6), and one
whose line fails later does so at its DRAM_REQUEST_ISSUE (log 94). -/
def State.writeMirror (s : State) : State :=
  let s := { s with cal := { s.cal with mirror := s.cal.live, badMirror := [] } }
  if s.rd Reg.DMC_STATUS.sc_failed = 0 then s
  else
    ((List.range (beamsOf s.variant / 16)).filter s.mirrorOff).foldl (fun (s : State) (i : Nat) =>
      let line := s.regionLine 6 + i
      ((s.noteBad (readReq 0 line 6 0) 0).badMirrorLine i).verifyFailed line 6) s

/-- R334, R336: the whole shadow bank becomes live, the mirror is rewritten, and the highest gain is judged. -/
def State.commit (s : State) (seq : Nat) : State :=
  let s := { s with cal := { s.cal with live := s.cal.shadow, badGroups := [], badShadow := [], toldBad := [], injected := [] } }.writeMirror
  let (beam, gain) := gainMax s.variant s.cal.live
  let s := s.wrs [(Reg.CAL_STATUS.commit_pending, 0), (Reg.CAL_GAIN_MAX.gain, gain), (Reg.CAL_GAIN_MAX_BEAM.beam, beam)]
  let s := if s.rd Reg.CAL_GAIN_WARN.warn < gain then s.raise 0x0805 [w beam, w gain] else s
  s.mirrorBank seq

/-- R336: a commit point. A standby follows the active's commits and makes none of its own (R333). -/
def State.commitPoint (s : State) (stripeEnd : Option Nat) : State :=
  if s.role = roleStandby then s
  else if s.sessionOpen then
    let s := s.inc Reg.CAL_SKIP.skips
    let n := s.rd Reg.CAL_SKIP.skips
    if n % 64 = 1 then s.raise 0x0806 [w (stripeEnd.getD s.seqNow), w n] else s
  else
    let s := s.commit (stripeEnd.getD s.seqNow)
    match stripeEnd with
    | some q => s.wr Reg.CAL_STATUS.seq q
    | none => s

/-- R335, R336: a commit is requested; it is done at once when the job is not ARMED, EXPOSING or TURNAROUND. -/
def State.requestCommit (s : State) : State :=
  let s := s.wr Reg.CAL_STATUS.commit_pending 1
  if s.jobSt = jobArmed ∨ s.jobSt = jobExposing ∨ s.jobSt = jobTurnaround then s else s.commitPoint none

/-- R331, R335: the host commits its session: the measurement history of its entries is cleared, the session closes and a
commit is requested. -/
def State.hostCommit (s : State) : State :=
  let mine := s.cal.session
  let s := { s with cal := { s.cal with
    prevLow := s.cal.prevLow.filter (fun b => !mine.contains b)
    suspect := tabKeep (fun b => !mine.contains b) s.cal.suspect } }
  s.closeSession.requestCommit

/-- R337: a trim chunk is malformed. -/
def trimBad (v bid : Nat) (raw : Bytes) : Bool :=
  decide (raw.length < 16) || beAt raw 0 4 ≠ 0x54520001 || bid / 65536 ≠ 0 || raw.length ≠ 16 + 4 * beAt raw 8 4 || beAt raw 8 4 = 0 ||
    decide (262140 < beAt raw 8 4) || decide (beamsOf v < beAt raw 4 4 + beAt raw 8 4) || decide (1 < beAt raw 12 4)

/-- R337: a trim chunk that has passed the codec: refused (event 0x080B with a reason of the model's numbering, log 20), or
its entries written and, when asked, committed. -/
def State.trimChunk (s : State) (bid : Nat) (raw : Bytes) : State :=
  let n := beAt raw 8 4
  let first := beAt raw 4 4
  if trimBad s.variant bid raw then s.raise 0x080B [w (bid % 65536), w 1]
  else
    let s := (List.range n).foldl (fun s i => s.hostTrim (first + i) (beAt raw (16 + 4 * i) 4)) s
    if beAt raw 12 4 = 1 then s.hostCommit else s

/-! ### Commands -/

/-- CAL_COMMIT (R335): a write of 1 to CAL_COMMIT.commit. -/
def execCalCommit (v : Bool) (s : State) : Host.Outcome State Fault Refusal := .next (if v then s.hostCommit else s)

/-- CAL_ABORT (R335): a write of 1 to CAL_COMMIT.abort. -/
def execCalAbort (v : Bool) (s : State) : Host.Outcome State Fault Refusal := .next (if v then s.abortSession else s)

/-- CAL_HOST_OPEN (R335): a write of 1 to CAL_HOST.open; writing 0 does nothing. -/
def execCalHostOpen (v : Bool) (s : State) : Host.Outcome State Fault Refusal := .next (if v then s.openSession else s)

/-- TRIM_ENTRY_WRITE (R335, R431). -/
def execTrimEntryWrite (beam v : Nat) (s : State) : Host.Outcome State Fault Refusal := .next (s.hostTrim beam v)

end Sys2Proof.Machine
end

