-- ==== Sys2Proof/Machine/Tick.lean ====
section
/-! DEFINITION. Ticks: fixing the stage offset, computing, launching, TICK, replays and the expiry of the undo ring (ch. 1,
R36; ch. 6, R166, R167; ch. 7, R199 to R206; ch. 9, R251, R260 to R267). -/

namespace Sys2Proof.Machine

/-- R407: the stripe runs in effective dry-run. -/
def Stripe.dry (x : Stripe) : Bool := x.lat.expose = 1

/-- Every block of the fitted lanes. -/
def allBlocks (v : Nat) : Nat := 2 ^ blocksOf v - 1

/-- The bits of a lane's blocks in a bitmap. -/
def laneBits (t : Nat) : Nat := 0xFFFF <<< (16 * t)

/-- R210: the CAPS range of a lane excludes a tick period; without a CAPS accepted there is no range. -/
def State.laneExcludes (s : State) (t tau : Nat) : Bool :=
  decide (48 ≤ s.rd (Reg.LANE_RX_CAPS0.credits t)) &&
    !(decide (s.rd (Reg.LANE_RX_TICKS.tick_min t) ≤ tau) && decide (tau ≤ s.rd (Reg.LANE_RX_TICKS.tick_max t)))

/-- R210, R227: a lane on which a stripe of a tick period is sent. -/
def State.laneServes (s : State) (t tau : Nat) : Bool := s.laneSt t = lnActive && !s.laneExcludes t tau

/-- R210, R227, R408: a lane whose tile is blanked for a tick computed now; lane test has no effect in dry-run (Table 15.9a). -/
def State.laneOut? (s : State) (dry : Bool) (tau t : Nat) : Bool :=
  !s.laneServes t tau || (s.rd (Reg.LANE_CTRL.lane_test t) = 1 && !dry)

/-- The blocks of lanes out of service. -/
def State.outBlocks (s : State) (dry : Bool) (tau : Nat) : Nat :=
  (List.range (lanesOf s.variant)).foldl (fun m t => if s.laneOut? dry tau t then m ||| laneBits t else m) 0

/-! ### The stage offset (R260 to R263) -/

/-- R261: a report with the velocities it gives, 2^-16 pixel per µs. -/
structure StageFix where
  rep : StageRep
  vx : Int
  vy : Int
deriving DecidableEq, Repr

/-- R261: velocities from the difference with the report before. -/
def differenced (k p : StageRep) : StageFix :=
  let dt : Int := isub k.time p.time
  ⟨k, (2000 * (k.xs - p.xs) + dt) / (2 * dt), (2000 * (k.ys - p.ys) + dt) / (2 * dt)⟩

/-- R261: with differenced velocity, the newest report whose predecessor lies within the gap. -/
def pickDifferenced (gap : Nat) : List StageRep → Option StageFix
  | k :: p :: rest => if k.time ≤ p.time + gap then some (differenced k p) else pickDifferenced gap (p :: rest)
  | _ => none

/-- R261: report k for an instant C. -/
def State.pickReport (s : State) (c : Nat) : Option StageFix :=
  let rs := s.stage.reps.filter (fun r => decide (r.arrived ≤ c * 65536))
  if s.rd Reg.STG_CTRL.vel_src = 1 then pickDifferenced (1000 * s.rd Reg.STG_GAP.gap_us) rs
  else rs.head?.map (fun r => ⟨r, r.vx, r.vy⟩)

/-- R261: an offset saturated to −127 … 127. -/
def sat8 (x : Int) : Int := clampInt (-127) 127 x

/-- R260: nominal position of a stripe tick, 2^-16 pixel. -/
def nominalPos (v : Nat) (d : Desc) (s : Nat) : Int × Int :=
  (65536 * (widthOf v : Int) * d.slot,
   65536 * (if d.dir = 0 then d.yOrigin + s else d.yOrigin + d.len + 8175 - s))

/-- R261: dx and dy of a stripe tick from a report. -/
def State.offsetOf (s : State) (x : Stripe) (tick : Nat) (k : StageFix) : Int × Int :=
  let h2 : Int := 2 * isub (tickTime x tick) k.rep.time + x.d.tau
  let xe := (k.rep.xs - s.stage.xoff) + (k.vx * h2 + 1000) / 2000
  let ye := (k.rep.ys - s.stage.yoff) + (k.vy * h2 + 1000) / 2000
  let (xn, yn) := nominalPos s.variant x.d tick
  (sat8 ((xe - xn + 512) / 1024), sat8 ((ye - yn + 512) / 1024))

/-- What is judged of a tick's stage data: offset, rseq, excursion, coast, gap, fault, age (ns). -/
structure StageJudge where
  dx : Int
  dy : Int
  rseq : Nat
  excursion : Bool
  coast : Bool
  gap : Bool
  fault : Bool
  age : Nat
deriving DecidableEq, Repr

/-- R261 to R263, R407: judge a stripe tick. -/
def State.judgeStage (s : State) (x : Stripe) (tick : Nat) : StageJudge :=
  if x.dry && s.rd Reg.STG_CTRL.enable = 0 then ⟨0, 0, 0, false, false, false, false, 0⟩
  else
    let t := tickTime x tick
    let c := t - 3 * x.d.tau - 64
    match s.pickReport c with
    | none => ⟨0, 0, 0, false, true, true, false, 0⟩
    | some k =>
      let (dx, dy) := s.offsetOf x tick k
      let lim := s.rd Reg.STG_EXC_LIMIT.limit
      { dx := dx, dy := dy, rseq := k.rep.seq,
        excursion := decide (lim < dx.natAbs) || decide (lim < dy.natAbs) || k.rep.fault,
        coast := decide (1000 * s.rd Reg.STG_GAP.gap_us < c - k.rep.time),
        gap := decide (2000 * s.rd Reg.STG_GAP.coast_us + 2 * k.rep.time < 2 * t + x.d.tau) || decide (k.rep.time < s.stage.readyFrom),
        fault := k.rep.fault, age := c - k.rep.time }

/-- R262, R263: registers and events of a judged tick. -/
def State.stageEvents (s : State) (seq n : Nat) (j : StageJudge) : State :=
  let s := s.wrs [(Reg.STG_LAST_OFFSET.dx, toField 8 j.dx), (Reg.STG_LAST_OFFSET.dy, toField 8 j.dy),
    (Reg.STG_STATUS.coasting, b2n j.coast), (Reg.STG_STATUS.blanking, b2n (j.excursion || j.gap)),
    (Reg.STG_AGE_MAX.age_ns, Nat.max j.age (s.rd Reg.STG_AGE_MAX.age_ns))]
  let s := if j.excursion then
      let s := s.inc Reg.STG_BLANKED.excursion
      if j.fault then s.raiseFor seq 0x0214 [w seq, wd n]
      else s.raiseFor seq 0x0213 [w seq, wd n, w (toField 32 j.dx), w (toField 32 j.dy)]
    else s
  let s := if j.coast then s.raiseFor seq 0x0211 [w seq, wd n] else s
  if j.gap then (s.inc Reg.STG_BLANKED.coast).raiseFor seq 0x0212 [w seq, wd n] else s

/-- R126, R152, R178, R240, R269, R304: what starts again at a stripe's first tick (log 21). -/
def State.startStripeRegs (s : State) : State :=
  let s := s.wrs [(Reg.RENDER_LEAD_MIN.lead_min, 0), (Reg.RENDER_LATE.late, 0), (Reg.RENDER_EDGE_MAX.edge_max, s.render.edge),
    (Reg.PEC_LATE.late, 0), (Reg.SHOT_MISSED.missed, 0), (Reg.SHOT_MADEUP.made_up, 0), (Reg.SHOT_SAT.sat, 0),
    (Reg.SHOT_REPORTS.reports, 0), (Reg.SHOT_LOSS_FILL.peak, 0), (Reg.SHOT_UNDO.restores, 0), (Reg.SHOT_UNDO.unconfirmed, 0),
    (Reg.SHOT_RHO_REBUILD.rebuilt, 0), (Reg.SHOT_RHO_REBUILD.failed, 0), (Reg.STG_BLANKED.excursion, 0),
    (Reg.STG_BLANKED.coast, 0), (Reg.STG_AGE_MAX.age_ns, 0), (Reg.DMC_PANIC.count, 0)]
  let s := (List.range 64).foldl (fun s t => s.wrs [(Reg.LANE_MARGIN.fwd_min t, 0xFF), (Reg.LANE_MARGIN.back_min t, 0xFF)]) s
  { s with
    shot := { s.shot with loss := [], early := [], lateCells := [], lateSegs := [], reportNo := 0, vals := [] }
    dram := { s.dram with panicTold := false, streak := [] }
    check := { s.check with reportChunk := 0, tlogChunk := 0 } }

/-- The tick log keeps its newest 8,192 entries (R267). -/
def State.pushTick (s : State) (e : TickEntry) : State :=
  { s with shot := { s.shot with tlog := (e :: s.shot.tlog).take 8192 } }

/-- A tick log entry as it is first written. -/
def newTick (n seq s time tau : Nat) : TickEntry :=
  { n := n, seq := seq, s := s, excursion := false, coast := false, gapBlank := false, fault := false, cal := false,
    final := false, posComp := false, dx := 0, dy := 0, rseq := 0, unconf := 0, dk1 := 0, rx := 0, time := time, tau := tau,
    computed := false, launched := false, sent := 0, tickSent := false, resolved := 0, codes := [], undo := [], fired := [],
    unknown := 0, badUndo := 0 }

/-- R261, R266, R267: fix the next tick of a stripe. -/
def State.fixTick (s : State) (x : Stripe) : State :=
  let s := if x.fixed = 0 then s.startStripeRegs else s
  let n := x.nFirst + x.fixed
  let j := s.judgeStage x x.fixed
  let s := s.stageEvents x.d.seq n j
  let blank := if j.excursion || j.gap then allBlocks s.variant else s.outBlocks x.dry x.d.tau
  let e := { newTick n x.d.seq x.fixed (tickTime x x.fixed) x.d.tau with
    excursion := j.excursion, coast := j.coast, gapBlank := j.gap, fault := j.fault, posComp := x.lat.posComp, dx := j.dx,
    dy := j.dy, rseq := j.rseq, dk1 := blank }
  let s := (s.pushTick e).updStripe x.d.seq (fun x => { x with fixed := x.fixed + 1 })
  s.mirror x.d.seq (.tlogFix (tlogFixBytes e))

/-- TICK_FIX (R261): at C_s = T_s − 3τ − 64 ns. No tick of an abandoned stripe is fixed (R400). A standby takes its entries from TLOG_FIX (R357). -/
def execTickFix (s : State) : Host.Outcome State Fault Refusal :=
  match s.current with
  | none => .next s
  | some x =>
    if s.follows ∨ x.truncated ∨ stripeTicks x.d.len ≤ x.fixed ∨ s.ns + 3 * x.d.tau + 64 < tickTime x x.fixed then .next s
    else .next (s.fixTick x)

/-! ### Computation (R36, R155 to R174) -/

/-- R176, R210, R227: when the computation of a tick ends, it is resolved on every lane in dry-run, otherwise on the lanes that
it is not sent on. A standby resolves from TLOG_FINAL. -/
def State.resolveComputed (s : State) (x : Stripe) (bad : List BadRead) (n : Nat) : State :=
  if s.follows then s
  else
    (s.lanesWhere (fun t => x.dry || !s.laneServes t x.d.tau)).foldl (fun s t => s.resolve n t bad) s

/-- Table 10.1: stored entries that no longer pass their check from this computation on: undo entries of the tick, loss table entries. (log 99) -/
def State.spoil (s : State) (e : TickEntry) (bad : List BadRead) : State :=
  bad.foldl (fun s b => match b with
    | .undo n blk => if n = e.n then s.updTick n (fun e => { e with badUndo := withBit e.badUndo blk }) else s
    | .loss px y => (match tabFind s.shot.loss (pixKey px y) with
      | some l => { s with shot := { s.shot with loss := tabPut s.shot.loss (pixKey px y) { l with bad := true } } }
      | none => s)
    | _ => s) s

/-- R36: compute one tick: every block of the array as its inputs stand, the causes of blanking answered, each once, then the results
entered; the lead is judged as the computation begins (R120), and slots are released as it ends (R124). -/
def State.computeTick (s : State) (x : Stripe) (e : TickEntry) (bad : List BadRead) : State :=
  let s := bad.foldl (fun s b => match b with
    | .tlog k => (match s.tickAt x.d.seq k with
      | some te => if te.unknown = 2 ^ blocksOf s.variant - 1 then s else s.tlogLost x te
      | none => s)
    | _ => s) s
  let s := s.judgeLead x.d.seq e.s
  let out := if s.follows then e.dk1 else e.dk1 ||| s.outBlocks x.dry x.d.tau
  let res := (List.range (blocksOf s.variant)).map (fun b => (b, s.blockRes x e bad (out.testBit b) b))
  let s := (res.flatMap (fun r => r.2.causes)).eraseDups.foldl (fun s c => s.applyCause x e c) s
  let s := res.foldl (fun (s : State) (r : Nat × BlockRes) => s.applyBlock x e r.1 r.2) s
  let s := (s.updTick e.n (fun e => { e with computed := true })).updStripe x.d.seq (fun x => { x with computed := x.computed + 1 })
  ((s.spoil e bad).dropStale { x with computed := e.s + 1 }).resolveComputed x bad e.n

/-- TICK_COMPUTE (R36): from T − 3τ, but in an abandoned stripe (R400); `bad` lists the reads that fail their check. -/
def execTickCompute (bad : List BadRead) (s : State) : Host.Outcome State Fault Refusal :=
  match s.current with
  | none => .next s
  | some x =>
    if x.truncated ∨ x.fixed ≤ x.computed ∨ s.ns + 3 * x.d.tau < tickTime x x.computed then .next s
    else
      match s.tickAt x.d.seq x.computed with
      | none => .next s
      | some e => .next (s.computeTick x e bad)

/-! ### Launch (R180 to R186, R202 to R206) -/

/-- R201: replay capacity of a tick period. -/
def replayCapacity (tau : Nat) : Nat := Nat.min 16 ((tau * 5625 / 13000 - 274) / 18)

/-- R184 to R186: block j of a lane's tick frame, with whether it is ZERO. A calibration tick sends the block that carries
the measured beam as CAL with monitor set. -/
def frameBlock (e : TickEntry) (t j : Nat) : Bytes × Bool :=
  let blk := 16 * t + j
  let codes := (tabFind e.codes blk).getD (List.replicate 256 0)
  let fired : Bool := e.fired.any (fun f => f.1 = t && blockOf f.2 = blk)
  if e.cal && fired then (blockFrame blk e.n .cal false true false 0 codes, false)
  else if codes.all (· = 0) then (blockFrame blk e.n .zero (e.dk1.testBit blk) false false 0 [], true)
  else (blockFrame blk e.n (if e.cal then .cal else .dose) false false false 0 codes, false)

/-- R183: the block frames of a lane, with the crc of the first `bad` inverted (R236). -/
def frameBlocksOf (e : TickEntry) (t bad : Nat) : List (Bytes × Bool) :=
  (List.range 16).map fun j => let (b, z) := frameBlock e t j; (if j < bad then corruptCrc b else b, z)

/-- Positions of the ends of byte strings laid one after another, from a start. -/
def ends : Nat → List Bytes → List Nat
  | _, [] => []
  | p, b :: bs => (p + b.length) :: ends (p + b.length) bs

/-- R180, R199, R202, R204, R214: SOF and frame of a tick on a lane, after everything planned on its pair. -/
def State.sendFrame (s : State) (e : TickEntry) (t dir : Nat) (first last : Bool) : State :=
  let l := s.lane t
  let hdr := tickHeader e.n e.seq t dir e.cal last first l.resync
  let bs := frameBlocksOf e t l.corrupt
  let zmap := (List.range 16).foldl (fun m j => if (bs.getD j ([], false)).2 then withBit m j else m) 0
  let body := padTo (16 * frameBlocks (popcount zmap 16)) (hdr ++ bs.flatMap (·.1))
  let start9 := 9000 * (e.time - 2 * e.tau)
  let s := s.putBlocks t .back (⟨start9 - blk9, true, sofSet e.n zmap, false⟩ :: dataBlocks start9 body)
  let at_ := ((s.txLine t).plan.filter (fun x => !x.fixed)).drop (((s.txLine t).plan.filter (fun x => !x.fixed)).length - frameBlocks (popcount zmap 16) - 1)
  let fin (p : Nat) : Nat := ((at_.map (fun x => (x.at9 + blk9) / 9)).getD (cdiv p 16) 0)
  let stops := ends 32 (bs.map (·.1))
  let r : ReplayTick :=
    { n := e.n, acked := 0, cand := 0, refused := 0, counts := List.replicate 17 0, copies := stops.map fin ++ [fin 32],
      frameEnd := fin body.length, acks := false, hdr := hdr }
  let s := (s.send (.lane t (fin 0 - blkPs 1) (sofSet e.n zmap))).send (.lane t (fin 0) body)
  let s := s.updLane t (fun l => { l with
    resync := false, corrupt := l.corrupt - 16, spent := (l.spent + 16) % 65536, replay := l.replay ++ [r],
    replays := (e.n, 0) :: l.replays.filter (fun q => decide (e.n < q.1 + 4)) })
  let s := s.wr (Reg.LANE_CREDIT.avail t) (s.rd (Reg.LANE_CREDIT.avail t) - 16)
  s.updTick e.n (fun e => { e with sent := withBit e.sent t })

/-- R203: no frame for lack of credit. -/
def State.creditStall (s : State) (e : TickEntry) (t : Nat) : State :=
  ((s.withhold e t).inc (Reg.LANE_PROTO_ERR.credit_stalls t)).raiseLane e.seq t 0x0423 [w e.seq, w t, wd e.n]

/-- R203, R204, R227: the launch of a tick on one lane: a frame when the lane is ACTIVE, was so when the tick was computed,
and holds 16 credits. -/
def State.launchLane (s : State) (e : TickEntry) (dir : Nat) (first last : Bool) (t : Nat) : State :=
  if s.laneSt t ≠ lnActive || e.resolved.testBit t then s
  else if s.rd (Reg.LANE_CREDIT.avail t) < 16 then s.creditStall e t
  else s.sendFrame e t dir first last

/-- R359: the active checks that the tick's TLOG_FIX is committed. -/
def State.checkMirrored (s : State) (n : Nat) : State :=
  let waiting := s.pair.store.any (fun f => match f.2.body with
    | .tlogFix b => beAt b 0 5 = n
    | _ => false)
  if s.role = roleActive ∧ s.rd Reg.PAIR_STRICT.strict = 1 ∧ s.rd Reg.PAIR_STATUS.slow_link = 0 ∧ waiting then
    s.unprotect n whyNotCommitted
  else s

/-- R359: the first tick of a stripe armed with the link up and the standby synced protects the active again. -/
def State.protectAt (s : State) (seq : Nat) : State :=
  if s.pair.protectFrom = some seq then
    { s with pair := { s.pair with protectFrom := none } }.wr Reg.PAIR_STATUS.unprotected 0
  else s

/-- R157: columns with no live pass are told at a stripe's first tick. -/
def State.tellDead (s : State) (x : Stripe) : State :=
  let dead := (x.lat.cols.filter (fun c => c.live = 0)).length
  if dead = 0 then s else s.raiseFor x.d.seq 0x0501 [w x.d.seq, w dead]

/-- R70, R100, R103, R157, R396: what the launch of a stripe's first tick does. -/
def State.firstLaunch (s : State) (x : Stripe) : State :=
  let dyn : Bool := s.rd Reg.CODEC_CTRL.rec_effort = 1
  let s := s.updStripe x.d.seq (fun x => { x with st := .exposing, dynRec := dyn && decide (1024 ≤ x.d.tau) })
  let s := if dyn && decide (x.d.tau < 1024) && x.lat.recMode = 1 then
      (s.inc Reg.CODEC_REC_STAT.lowered).raise 0x0903 [w x.d.seq] else s
  let s := s.tellDead x
  let s := (s.protectAt x.d.seq).setJob false jobExposing
  s.mirrorPointers x.d.seq

/-- Table 14.1: the lanes on which a frame of tick n has been sent. -/
def State.sentOn (s : State) (n : Nat) : List Nat := setBits (((s.shot.tlog.find? (fun e => e.n = n)).map (·.sent)).getD 0) 64

/-- R30, R39, R309, R374: the position registers, counters and retained marks of a launched tick. -/
def State.noteLaunch (s : State) (n : Nat) (cal : Bool) : State :=
  let s := s.wrs [(Reg.SHOT_TICK_LO.tick_lo, n % 2 ^ 32), (Reg.SHOT_TICK_HI.tick_hi, n / 2 ^ 32), (Reg.SHOT_STRIPE.cal, b2n cal)]
  let lanes := (s.sentOn n).foldl (fun m t => tabSet 0 m t n) s.power.laneTicks
  { s with job := { s.job with nextTick := n + 1 }, power := { s.power with lastTick := n, laneTicks := lanes } }.faultTick

/-- R204: launch the next tick of a stripe on every lane. SHOT_STRIPE.running falls with the launch of the last tick, before its dwell
ends (log 79). -/
def State.launchTick (s : State) (x : Stripe) (e : TickEntry) : State :=
  let last : Bool := decide (e.s + 1 = stripeTicks x.d.len)
  let first : Bool := decide (e.s = 0)
  let s := s.checkMirrored e.n
  let s := if x.st = .armed then s.firstLaunch x else s
  let s := if x.dry then s else
    (List.range (lanesOf s.variant)).foldl (fun s t => s.launchLane e x.d.dir first last t) s
  let s := (s.noteLaunch e.n false).wrs [(Reg.SHOT_STRIPE.running, b2n (!last)), (Reg.SHOT_STRIPE.dir, x.d.dir),
    (Reg.SHOT_STRIPE.seq, x.d.seq), (Reg.SHOT_FRONT.front, toField 32 (frontOf x.d.dir x.d.len e.s))]
  let s := { s with power := { s.power with lastJob := s.rd Reg.GLOBAL_JOB_ID.job, lastSeq := x.d.seq, lastS := e.s, exposing := !last } }
  let s := (s.updTick e.n (fun e => { e with launched := true })).updStripe x.d.seq (fun x => { x with
    launched := x.launched + 1, st := if last then .done else .exposing, rawSum := if last then 0 else x.rawSum })
  if last then s.mirrorPointers x.d.seq else s

/-- Largest d_fwd of the ACTIVE lanes (ns, rounded up) (R359). -/
def State.maxFwd (s : State) : Nat :=
  (s.lanesWhere (fun t => s.laneSt t = lnActive)).foldl (fun m t => Nat.max m (cdiv (s.lane t).dfwd 1000)) 0

/-! ### TICK (R203, R204) -/

/-- R192, R204: delay in symbols of 1/28.125 GHz and the arrival (ps) of the TICK's last symbol, so that the codes take
effect at T: the arrival lies in the guard window (log 22). -/
def tickDelay (time guardNs applyPs : Nat) : Nat × Nat :=
  let d := cdiv ((1000 * guardNs - applyPs) * 28125) 1000000
  (d, 1000 * time - applyPs - d * 1000000 / 28125)

/-- TICK on one lane, at its own instant (R181, R204); none of a stripe goes to a lane that is sent none of it (R210). -/
def State.sendTick (s : State) (e : TickEntry) (first last : Bool) (t : Nat) : State :=
  if s.laneSt t ≠ lnActive || (!e.cal && s.laneExcludes t e.tau) then s
  else
    let (d, at_) := tickDelay e.time (s.lane t).guardNs (s.rd (Reg.LANE_RX_APPLY.apply_ps t))
    let b := tickSet e.n d e.tau first last e.cal
    let s := (s.putBlocks t .fixed [⟨9 * (at_ - blkPs 1), true, b, true⟩]).send (.lane t (at_ - blkPs 1) b)
    s.updReplay t e.n (fun r => { r with cand := 0, refused := r.refused ||| r.cand })

/-- R205: the largest guard in force on an ACTIVE lane (ns). -/
def State.guardMax (s : State) : Nat :=
  (s.lanesWhere (fun t => s.laneSt t = lnActive)).foldl (fun m t => Nat.max m (s.lane t).guardNs) 0

/-- The oldest tick launched whose TICK has not been sent. -/
def State.tickDue (s : State) : Option TickEntry := s.shot.tlog.reverse.find? (fun e => e.launched && !e.tickSent)

/-- TICK_SEND (R204): the TICK of the oldest tick that awaits it. In dry-run nothing is sent (R407). A lane whose frame was
withheld is resolved (R203); `bad` lists the reads of its completions that fail their check. -/
def execTickSend (bad : List BadRead) (s : State) : Host.Outcome State Fault Refusal :=
  match s.tickDue with
  | none => .next s
  | some e =>
    let x := s.stripe e.seq
    let dry : Bool := !e.cal && x.any Stripe.dry
    if s.ns + s.guardMax + 260 < e.time then .next s
    else
      let last : Bool := !e.cal && x.any (fun x => e.s + 1 = stripeTicks x.d.len)
      let lanes := List.range (lanesOf s.variant)
      let s := if dry then s else lanes.foldl (fun s t => s.sendTick e (!e.cal && e.s = 0) last t) s
      let s := s.updTick e.n (fun e => { e with tickSent := true })
      let s := if !dry && s.holdsLanes then { s with power := { s.power with blankHigh := true } } else s
      .next (lanes.foldl (fun s t => if e.sent.testBit t || dry then s else s.resolve e.n t bad) s)

/-! ### Replay (R200, R201) -/

/-- Bytes of a unit in a replay run (unit 16 is the header). -/
def unitLen (u : Nat) : Nat := if u = 16 then 32 else 268

/-- R181, R200: when a run of k blocks that begins at an instant (ps) has arrived, the TICKs planned (their instants, ps) in it. -/
def runEnd (ticks : List Nat) (start k : Nat) : Nat :=
  start + blkPs (k + ticks.countP (fun a => decide (a < start + blkPs k)))

/-- R200: of the candidates in order (header first), those that may be replayed in a run launched to arrive at `start`. -/
def eligible (r : ReplayTick) (limit maxRep cap start : Nat) (ticks : List Nat) : Nat → Nat → List Nat → List Nat
  | _, _, [] => []
  | pos, used, u :: us =>
    let stop := pos + unitLen u
    if r.counts.getD u 0 < maxRep ∧ used < cap ∧ runEnd ticks start (1 + cdiv stop 16) ≤ limit then
      u :: eligible r limit maxRep cap start ticks stop (used + 1) us
    else eligible r limit maxRep cap start ticks pos used us

/-- A REPLAY block frame (R184 to R186). -/
def replayBlock (e : TickEntry) (t j attempt : Nat) : Bytes :=
  let blk := 16 * t + j
  let codes := (tabFind e.codes blk).getD (List.replicate 256 0)
  let cal : Bool := e.cal && e.fired.any (fun f => f.1 = t && blockOf f.2 = blk)
  blockFrame blk e.n .replay (e.dk1.testBit blk && codes.all (· = 0)) cal cal attempt codes

/-- Corrupt the first n of a list of block frames (R236). -/
def corruptFirst : Nat → List Bytes → List Bytes
  | 0, l => l
  | _, [] => []
  | n + 1, b :: bs => corruptCrc b :: corruptFirst n bs

/-- R181, R200: when a run launched now on a lane begins to arrive (ps): after the block on the line, suspending a frame. -/
def State.runStart (s : State) (t : Nat) : Nat :=
  cdiv (Nat.max (s.now9 t) ((s.txLine t).commit (s.now9 t)).end9) 9

/-- The TICKs planned on a lane, by the instants of their arrival (ps). -/
def State.plannedTicks (s : State) (t : Nat) : List Nat :=
  ((s.txLine t).plan.filter (fun x => x.fixed)).map (fun x => x.at9 / 9)

/-- R200: the units of a tick waiting as candidates, in the order of a run: the header, then the blocks. -/
def candidates (r : ReplayTick) : List Nat := (if r.cand.testBit 16 then [16] else []) ++ setBits r.cand 16

/-- R200: the candidates of a tick on a lane that a run launched now replays, in its order; a unit whose stored frame fails its check is
not replayed (Table 10.1). -/
def State.replayUnits (s : State) (e : TickEntry) (r : ReplayTick) (t : Nat) (bad : List Nat) : List Nat :=
  let l := s.lane t
  eligible r (1000 * (e.time - l.guardNs)) (s.rd Reg.LANE_PROTO_CTRL.max_replay) (replayCapacity e.tau) (s.runStart t)
    (s.plannedTicks t) 0 (((l.replays.find? (fun q => q.1 = r.n)).map (·.2)).getD 0)
    ((candidates r).filter (fun u => !bad.contains u))

/-- R308: units of a lane's replay buffer fail their check. -/
def State.replayFailed (s : State) (t : Nat) (us : List Nat) : State :=
  us.foldl (fun (s : State) (u : Nat) => s.failAt (entryLoc memReplay (32 * t + u))) s

/-- R200: launch one replay run of a tick on a lane: the frame on the line is suspended, and resumed after it (R181). -/
def State.sendReplay (s : State) (e : TickEntry) (r : ReplayTick) (t : Nat) (bad : List Nat) : State :=
  let l := s.lane t
  let start := s.runStart t
  let ticks := s.plannedTicks t
  let used := ((l.replays.find? (fun q => q.1 = r.n)).map (·.2)).getD 0
  let run := s.replayUnits e r t bad
  let refused := ((candidates r).filter (fun u => !run.contains u)).foldl withBit 0
  if run = [] then s.updReplay t r.n (fun r => { r with cand := 0, refused := r.refused ||| refused })
  else
    let hdr : Bool := run.contains 16
    let js := run.filter (fun u => u ≠ 16)
    let blocks := corruptFirst l.corrupt (js.map (fun j => replayBlock e t j (r.counts.getD j 0 + 1)))
    let umap := js.foldl withBit 0
    let body := padTo (16 * rplBlocks hdr umap) ((if hdr then r.hdr else []) ++ blocks.flatten)
    let stops := (ends 0 ((if hdr then [r.hdr] else []) ++ blocks)).map (fun p => runEnd ticks start (1 + cdiv p 16))
    let upd := run.zip stops
    let s := s.putBlocks t .front (⟨9 * start, true, rplSet r.n umap hdr, false⟩ :: dataBlocks (9 * start + blk9) body)
    let s := s.setTx t { s.txLine t with runEnd9 := 9 * runEnd ticks start (1 + rplBlocks hdr umap) }
    let s := (s.send (.lane t start (rplSet r.n umap hdr))).send (.lane t (start + blkPs 1) body)
    let s := s.updReplay t r.n (fun r => { r with
      cand := 0, refused := r.refused ||| refused, acked := run.foldl withoutBit r.acked
      counts := run.foldl (fun c u => setAt c u (c.getD u 0 + 1)) r.counts
      copies := upd.foldl (fun c q => setAt c q.1 q.2) r.copies })
    let s := s.updLane t (fun l => { l with
      corrupt := l.corrupt - blocks.length, replays := (r.n, used + run.length) :: l.replays.filter (fun q => q.1 ≠ r.n) })
    s.incBy (Reg.LANE_NAKS.replays t) run.length

/-- R200: a replay run is on the line of a lane. -/
def State.runOn (s : State) (t : Nat) : Bool := decide (s.now9 t < (s.txLine t).runEnd9)

/-- REPLAY_LAUNCH (R200): the oldest open tick with candidates, once no other run is on the line; `bad`: its units whose stored frame
fails its check. -/
def execReplayLaunch (t : Nat) (bad : List Nat) (s : State) : Host.Outcome State Fault Refusal :=
  if s.laneSt t ≠ lnActive ∨ s.runOn t then .next s
  else
    match (s.lane t).replay.find? (fun r => r.cand ≠ 0 && s.tickOpen r.n) with
    | none => .next s
    | some r =>
      match s.shot.tlog.find? (fun e => e.n = r.n) with
      | none => .next s
      | some e => .next ((s.sendReplay e r t bad).replayFailed t ((candidates r).filter bad.contains))

/-! ### Expiry of the undo ring (R167, R267) -/

/-- The oldest tick launched that some fitted lane has not resolved. -/
def State.oldestOpen (s : State) : Option TickEntry :=
  s.shot.tlog.reverse.find? (fun e => e.launched && !e.final)

/-- R167: the undo entry of a tick expires: the lanes that have not resolved it are unconfirmed. -/
def State.expireTick (s : State) (e : TickEntry) (bad : List BadRead) : State :=
  let late := s.lanesWhere (fun t => !e.resolved.testBit t)
  let s := s.raise 0x0504 [w e.seq, wd e.n, wd (late.foldl withBit 0)]
  late.foldl (fun s t => s.unconfirmed e bad t) s

/-- UNDO_EXPIRY (R167): at T + 5τ of the oldest tick not resolved; `bad` lists the reads that fail their
check: undo entries, and what completions read. -/
def execUndoExpiry (bad : List BadRead) (s : State) : Host.Outcome State Fault Refusal :=
  match s.oldestOpen with
  | none => .next s
  | some e =>
    .next (if s.ns < e.time + 5 * e.tau then s else s.expireTick e bad)

end Sys2Proof.Machine
end

