-- ==== Sys2Proof/Machine/Turn.lean ====
section
/-! DEFINITION. Between stripes: first_tick, the arm point, the end of a stripe and what the turnaround holds (ch. 1, R31 to
R35; ch. 8, R231, R232; ch. 9, R250 to R256; ch. 15, R396 to R398, R406, R407). -/

namespace Sys2Proof.Machine

/-! ### The turnaround needed (R34, R35, R328) -/

/-- R328: beams measured per lane in a window. -/
def beamsPerWindow (windowUs tau shots : Nat) : Nat :=
  Nat.min 64 ((1000 * windowUs - 4 * tau - 10000) / (shots * tau))

/-- R328: B_w from the registers now. -/
def State.bwNow (s : State) : Nat :=
  beamsPerWindow (s.rd Reg.CAL_WINDOW.window_us) (s.rd Reg.CAL_WINDOW.tau_ns) (s.rd Reg.CAL_CTRL.shots)

/-- R34: a calibration window is due at a boundary. -/
def State.calDue (s : State) : Bool := s.rd Reg.CAL_CTRL.enable = 1 && decide (0 < s.bwNow)

/-- R34, R368: the lane slot of 2,500 µs is claimed. -/
def State.slotClaimed (s : State) : Bool := s.anyRetrain || s.pair.revertGot

/-- R34: SHOT_TURN_REQ. -/
def State.turnReq (s : State) : Nat :=
  3000 + (if s.calDue then s.rd Reg.CAL_WINDOW.window_us else 0) + (if s.slotClaimed then 2500 else 0)

/-- TIME_TRIG1: the start of the next calibration window (R255). -/
def State.setTrig1 (s : State) (t : Nat) : State :=
  s.wrs [(Reg.TIME_TRIG1_SEC_HI.sec_hi, t / giga / 2 ^ 32), (Reg.TIME_TRIG1_SEC_LO.sec_lo, t / giga % 2 ^ 32),
    (Reg.TIME_TRIG1_NS.ns, t % giga)]

/-- R35: the window due is dropped. -/
def State.dropWindow (s : State) : State :=
  { s with trig := { s.trig with calStart := none } }.raise 0x0802 [w s.seqNow]

/-- R35, R232: the retraining due is postponed; its lanes run the stripe with adaptation frozen. -/
def State.postponeRetrain (s : State) : State :=
  let s := { s with trig := { s.trig with slot := 0 } }
  (s.lanesWhere s.retrainDue).foldl (fun s t => (s.wr (Reg.LANE_STATE.frozen t) 1).raise 0x0406 [w s.seqNow, w t]) s

/-- R35: shed lane work that the granted turnaround cannot hold: first the window not yet begun, then the retraining not yet
begun; a window that has begun is cut. -/
def State.fitTurn (s : State) (first tau : Nat) : State :=
  if s.inTurn = false then s
  else
    let granted := first - s.trig.dwellEnd
    let slotNs : Nat := if s.trig.slot = 0 ∧ s.pair.revertGot = false then 0 else 2500000
    let calNs : Nat := 1000 * s.rd Reg.CAL_WINDOW.window_us
    match s.cal.window with
    | some c =>
      if c.sweep ∨ c.start + 1000 * c.windowUs ≤ first - 3 * tau then s
      else
        let told := c.cutAt.isSome
        let s := { s with cal := { s.cal with window := some { c with cutAt := some (first - 3 * tau) } } }
        if told then s else s.raise 0x0802 [w s.seqNow]
    | none =>
      let s := if s.trig.calStart.isSome ∧ granted < 3000000 + calNs + slotNs then s.dropWindow else s
      if s.trig.slot = 1 ∧ granted < 3000000 + slotNs then s.postponeRetrain else s

/-- R231, R237: lane tests that run on in a turnaround are clipped when first_tick becomes known. -/
def State.clipTests (s : State) (first tau : Nat) : State :=
  (s.lanesWhere (fun t => s.laneSt t = lnTest && s.rd (Reg.LANE_CTRL.lane_test t) = 0)).foldl (fun s t =>
    match (s.lane t).test with
    | none => s
    | some x =>
      let stop := s.now + (first - 3 * tau - 300000 - s.ns)
      if x.code ≤ 3 ∧ stop < x.endsAt then
        s.updLane t (fun l => { l with test := some { x with
          endsAt := stop, leftUs := x.leftUs + cdiv (x.endsAt - stop) 1000, clipped := true } })
      else s) s

/-! ### first_tick (R252) -/

/-- R252: the stripe that starts next. -/
def State.nextStripe (s : State) : Option Stripe := s.queue.find? (fun x => x.st = .pending || x.st = .admitted)

/-- Why a first_tick write is refused: 1 stripe, 2 too near, 3 nanoseconds, 4 too near the stripe before, 5 too near the one
replaced; 0 accepted (numbered by the model, log 20). -/
def State.firstRefusal (s : State) (seq ns first : Nat) : Nat :=
  let resumes : Bool := s.rd Reg.PAIR_TAKEOVER.ready = 1 && seq = s.rd Reg.PAIR_TAKEOVER_SEQ.seq
  match (if resumes then s.stripe seq else s.nextStripe) with
  | none => 1
  | some x =>
    if x.d.seq ≠ seq then 1
    else if first < s.ns + 1000000 + 3 * x.d.tau then 2
    else if giga ≤ ns then 3
    else if s.sieve.stripes.any (fun y => running y && decide (first < tickTime y (stripeTicks y.d.len) + 3000000)) then 4
    else if s.sieve.stripes.any (fun y => match y.firstTick with
        | some f => inQueue y && decide (f ≤ s.ns + 1000000 + 3 * y.d.tau)
        | none => false) then 5
    else 0

/-- R252: an accepted first_tick. -/
def State.setFirst (s : State) (seq first : Nat) : State :=
  let marked := s.sieve.stripes.map (fun (y : Stripe) =>
    { y with firstTick := if y.d.seq = seq then some first else none })
  let s : State := { s with sieve := { s.sieve with stripes := marked } }
  let s := s.wr Reg.TIME_TRIG0_CTRL.pending 1
  match s.stripe seq with
  | some x => ((s.fitTurn first x.d.tau).clipTests first x.d.tau).resumeTests
  | none => s

/-- R252: submit the first_tick of TIME_TRIG0 for a stripe. A standby takes its first_tick values from POINTERS (R357). -/
def State.submitFirst (s : State) (seq : Nat) : State :=
  if s.follows then s
  else
    let sec := s.rd Reg.TIME_TRIG0_SEC_HI.sec_hi * 2 ^ 32 + s.rd Reg.TIME_TRIG0_SEC_LO.sec_lo
    let ns := s.rd Reg.TIME_TRIG0_NS.ns
    let first := sec * giga + ns
    let why := s.firstRefusal seq ns first
    if why = 0 then s.setFirst seq first else s.raise 0x0210 [w seq, w why]

/-- FIRST_TICK_WRITE (R252): a write of TIME_TRIG0_CTRL with a stripe and arm. -/
def execFirstTickWrite (seq : Nat) (arm : Bool) (s : State) : Host.Outcome State Fault Refusal :=
  let s := s.wr Reg.TIME_TRIG0_CTRL.seq seq
  .next (if arm then s.submitFirst seq else s)

/-! ### The arm point (R31, R32, R177, R250, R253, R320, R321, R406) -/

/-- R253: the newest reports that are consecutive, close enough and without fault, at most eight. -/
def goodRun (gap : Nat) : Nat → List StageRep → List StageRep
  | 0, _ => []
  | _, [] => []
  | n + 1, k :: rest =>
    if k.fault then []
    else match rest with
      | [] => [k]
      | p :: _ => if k.seq = (p.seq + 1) % 65536 ∧ k.time ≤ p.time + gap then k :: goodRun gap n rest else [k]

/-- The run of reports held at an instant. -/
def State.reportsHeld (s : State) (at_ : Nat) : List StageRep :=
  goodRun (1000 * s.rd Reg.STG_GAP.gap_us) 8 (s.stage.reps.filter (fun r => decide (r.arrived ≤ at_ * 65536)))

/-- R253, R407: the stage is ready at an instant. -/
def State.stageReady (s : State) (eff at_ : Nat) : Bool :=
  if s.rd Reg.STG_CTRL.enable = 0 then decide (eff = 1)
  else
    let rs := s.reportsHeld at_
    decide (rs.length = 8) && (rs.head?.any (fun r => decide (at_ ≤ r.time + 1000 * s.rd Reg.STG_GAP.gap_us)))

/-- Table 15.8: the effective exposure mode. -/
def State.effMode (s : State) : Nat :=
  let m := s.rd Reg.GLOBAL_MODE.expose
  if s.role = roleStandby then 2 else if m = 2 then 1 else m

/-- R210: every lane that has accepted a CAPS takes the tick period. -/
def State.lanesTake (s : State) (tau : Nat) : Bool :=
  (List.range (lanesOf s.variant)).all (fun t => !s.laneExcludes t tau)

/-- R250: lock is there, or not asked for. -/
def State.lockOk (s : State) : Bool := s.rd Reg.TIME_STATUS.locked = 1 || s.rd Reg.TIME_LOCK_STRICT.strict = 0

/-- Why a stripe is not armed (reason of 0x0A01, numbered by the model, log 20); 0 when it is. -/
def State.armReason (s : State) (x : Stripe) (first : Nat) : Nat :=
  if x.st ≠ .admitted then 1
  else if s.prerolled x = false then 2
  else if first < s.trig.dwellEnd + 3000000 then 3
  else if s.effMode = 3 then 4
  else if s.jobSt ≠ jobArmed ∧ s.jobSt ≠ jobTurnaround ∧ s.jobSt ≠ jobExposing then 5
  else if s.holdsLanes = false then 6
  else if s.rd Reg.PWR_THERM.warning = 1 then 7
  else if s.lanesTake x.d.tau = false then 8
  else if s.lockOk = false then 9
  else if s.stageReady s.effMode (first - 3 * x.d.tau) = false then 10
  else if s.spoolRoomFor x = false then 11
  else if s.rd Reg.DMC_STATUS.sc_failed ≠ 0 then 12
  else 0

/-- R32, R253, R321, R358: the arm point passes with the stripe not armed: lock, stage and spool each tell of themselves. -/
def State.notArmed (s : State) (x : Stripe) (first why : Nat) : State :=
  let at_ := first - 3 * x.d.tau
  let s := s.clearFirst x.d.seq
  let s := if s.lockOk then s else s.raise 0x0207 [w x.d.seq]
  let s := if s.stageReady s.effMode at_ then s else s.raise 0x0208 [w x.d.seq, w (s.reportsHeld at_).length]
  let s := if s.spoolRoomFor x then s else s.raise 0x0543 [w x.d.seq]
  (s.raise 0x0A01 [w x.d.seq, w why]).mirrorPointers x.d.seq

/-- R320: the record mode latched at an arm point. -/
def State.latchRecord (s : State) : State × Nat :=
  let m := s.rd Reg.CHECK_CTRL.rec_mode
  let s := if 2 * s.recInUse < s.recSize then { s with check := { s.check with fellBack := false } } else s
  (s, if m = 1 ∧ s.check.fellBack then 2 else m)

/-- R324: the tlog_mode in force from an arm point on. -/
def State.armTlog (s : State) : State := { s with check := { s.check with tlogMode := s.rd Reg.CHECK_CTRL.tlog_mode } }

/-- R157, R177, R406: the latch of a stripe. -/
def State.makeLatch (s : State) (x : Stripe) (rec : Nat) : ArmLatch :=
  let rp := s.rd Reg.SHOT_RESERVE_PASSES.rp
  { rp := rp, nominal := s.rd Reg.SHOT_DOSE_NOMINAL.nominal, posComp := decide (s.rd Reg.SHOT_CTRL.pos_comp = 1),
    expose := s.effMode, recMode := rec, shift := s.rd Reg.CHECK_CTRL.shift, tlogMode := s.rd Reg.CHECK_CTRL.tlog_mode,
    cols := (List.range (widthOf s.variant)).map (fun px => columnEntry s.variant x.d.dir rp s.cal.live px),
    trims := s.cal.live }

/-- R156: live beams outside the gain window. -/
def gainMasked (v : Nat) (bank : Tab Nat) : Nat :=
  ((List.range (beamsOf v)).filter (fun b =>
    let e := trimAt bank b
    trimState e = 0 && !gainOk (trimGain e))).length

/-- R156, R157: the column statistics of an armed stripe. -/
def State.noteColumns (s : State) (seq : Nat) (l : ArmLatch) : State :=
  let m := gainMasked s.variant s.cal.live
  let s := s.wrs [(Reg.SHOT_COLSTAT.zero_l_cols, (l.cols.filter (fun c => c.live = 0)).length),
    (Reg.SHOT_COLSTAT.gain_masked, Nat.min 65535 m)]
  if m = 0 then s else s.raiseFor seq 0x0502 [w seq, w m]

/-- Table 15.8: the effective mode of the stripe, told when it differs from the written one. -/
def State.noteMode (s : State) (seq : Nat) : State :=
  let m := s.rd Reg.GLOBAL_MODE.expose
  let s := s.wr Reg.GLOBAL_MODE_EFF.expose s.effMode
  if s.effMode = m then s else s.raise 0x0A08 [w seq, w m, w s.effMode]

/-- R359, R361: an active that arms with the link up and the standby synced is protected from the first tick on; otherwise it
is unprotected. -/
def State.armProtection (s : State) (seq : Nat) : State :=
  if s.role ≠ roleActive then s
  else if s.rd Reg.PAIR_STATUS.link_up = 1 ∧ ¬ s.pair.mirrorDown ∧ s.pair.partnerSynced then
    { s with pair := { s.pair with protectFrom := some seq } }
  else s.unprotect s.job.nextTick whyNotSynced

/-- R31, R252: the stripe is armed; a stripe resumed after a takeover keeps its tick numbers and what it had latched, but for
the mode (R365, Table 15.8). -/
def State.armStripe (s : State) (x : Stripe) (first : Nat) : State :=
  let s := (s.clearFirst x.d.seq).noteMode x.d.seq
  let oldest : Option StageRep := (s.reportsHeld (first - 3 * x.d.tau)).getLast?
  let s : State := { s with stage := { s.stage with readyFrom := (oldest.map StageRep.time).getD 0 } }
  let s := match x.latch with
    | some l =>
      let s := s.updStripe x.d.seq (fun x => { x with
        st := .armed, latch := some { l with expose := s.effMode }, t0 := first - x.fixed * x.d.tau })
      let s : State := { s with pair := { s.pair with takeover := none } }
      (s.wr Reg.PAIR_TAKEOVER.ready 0).noteColumns x.d.seq l
    | none =>
      let (s, rec) := s.latchRecord
      let l := s.makeLatch x rec
      let s := s.armTlog.updStripe x.d.seq (fun x => { x with
        st := .armed, latch := some l, t0 := first, nFirst := s.job.nextTick })
      s.noteColumns x.d.seq l
  (s.armProtection x.d.seq).mirrorPointers x.d.seq

/-- R250: an arm point passed without lock while none is asked for. -/
def State.passUnlocked (s : State) : State :=
  if s.lockOk && s.rd Reg.TIME_STATUS.locked = 0 then s.raise 0x0202 [w (s.rd Reg.TIME_OFFSET.offset), w 4] else s

/-- ARM_POINT (R31, R32, R250): at first_tick − 3τ of the pending stripe. -/
def execArmPoint (s : State) : Host.Outcome State Fault Refusal :=
  match s.pendingFirst with
  | none => .next s
  | some (x, first) =>
    if s.follows ∨ s.ns + 3 * x.d.tau < first then .next s
    else
      let why := s.armReason x first
      let s := s.passUnlocked
      .next (if why = 0 then s.armStripe x first else s.notArmed x first why)

/-! ### The end of a stripe (R33, R396 to R398) -/

/-- Marks in a stripe's list of what has been told: its end has been handled. -/
def endMark : Nat := 0x10002

/-- R252: every pending first_tick is cleared. -/
def State.clearFirsts (s : State) : State :=
  let cleared := s.sieve.stripes.map (fun (y : Stripe) => { y with firstTick := none })
  let s : State := { s with sieve := { s.sieve with stripes := cleared } }
  s.wr Reg.TIME_TRIG0_CTRL.pending 0

/-- R397: the suspend takes effect. -/
def State.suspendJob (s : State) (hkc : Bool) : State :=
  let s := { s.clearFirsts with job := { s.job with suspendPending := false } }
  let s := s.setJob hkc jobSuspended
  match s.opOfKind 1 with
  | some o => s.setOp hkc o.handle (fun o => { o with st := .suspended })
  | none => s

/-- R71, R398: a stripe that has not started is refused by the cancel of its job: counted and dropped, with no event of its own;
SIEVE_REFUSE_SEQ and SIEVE_REFUSE_INFO stay. -/
def State.cancelStripe (s : State) (seq : Nat) : State :=
  ((s.inc Reg.SIEVE_REFUSE_COUNT.count).dropStripe seq).mirrorPointers seq

/-- R398, R400: every stripe that has not started is refused. -/
def State.refuseWaiting (s : State) : State :=
  (s.queue.filter (fun x => x.st = .pending || x.st = .admitted)).foldl (fun s x => s.cancelStripe x.d.seq) s

/-- R398: the cancel takes effect. -/
def State.cancelJob (s : State) (hkc : Bool) : State :=
  let s := s.refuseWaiting
  let s := { s with job := { s.job with cancelPending := false, suspendPending := false } }
  let s := (s.wr Reg.GLOBAL_JOB.cancelled 1).tell hkc 0x0A05 [w s.seqNow]
  (s.setJob hkc jobDone).endOp hkc 1 .cancelled 0

/-! ### Blank-and-abandon (R400) -/

/-- R364, R400: the lines y_a to y_b of a stripe left wrong when s_last is the last tick launched. -/
def wrongLines (d : Desc) (last : Int) : Int × Int :=
  let top : Int := d.lenM1
  if d.dir = 0 then (max 0 (last - 8175), min top last)
  else (max 0 (top - last), min top (top - last + 8175))

/-- R400: the last tick whose computation had begun has been launched. (log 57) -/
def State.finishAbandon (s : State) (x : Stripe) (hkc : Bool) : State :=
  let (ya, yb) := wrongLines x.d ((x.launched : Int) - 1)
  let s := (s.updStripe x.d.seq (fun x => { x with st := .done, truncated := true, rawSum := 0, told := endMark :: x.told })).wrs
    [(Reg.SHOT_STRIPE.running, 0), (Reg.RENDER_STATUS.active, 0)]
  let s : State := { s with
    trig := { s.trig with dwellEnd := tickTime x x.launched, endedStripe := some x.d.seq, calStart := none, slot := 0 }
    dram := { s.dram with repaired := false, widened := false, swept := [], streak := [] }
    job := { s.job with cancelPending := false, suspendPending := false }
    power := { s.power with exposing := false } }
  let s := (s.refuseWaiting.wr Reg.GLOBAL_JOB.cancelled 1).tell hkc 0x0A06
    [w x.d.seq, w (toField 32 ya), w (toField 32 yb)]
  let s := (s.setJob hkc jobDone).endOp hkc 1 .cancelled 0
  ((s.commitPoint (some x.d.seq)).freeMaps).mirrorPointers x.d.seq

/-- R400: an abandoned stripe ends once every tick computed has been launched. -/
def State.endAbandoned (s : State) (seq : Nat) (hkc : Bool) : State :=
  match s.stripe seq with
  | none => s
  | some x => if x.truncated ∧ x.computed ≤ x.launched then s.finishAbandon x hkc else s

/-- R400: the cancel with abandon: no tick is computed from now on; what was fixed and not computed is dropped. With no stripe
in progress it is a plain cancel. -/
def State.abandonJob (s : State) (hkc : Bool) : State :=
  match s.current with
  | none => s.cancelJob hkc
  | some x =>
    let s : State := { s with
      job := { s.job with cancelPending := true }
      shot := { s.shot with tlog := s.shot.tlog.filter (fun e => e.seq ≠ x.d.seq || decide (e.s < x.computed)) } }
    let s := s.updStripe x.d.seq (fun x => { x with truncated := true, fixed := x.computed })
    s.endAbandoned x.d.seq hkc

/-- R36, Table 1.5: the computation of the tick due at the launch is late: every block of it is replaced by a blanked block. -/
def State.lateTick (s : State) : State :=
  match s.current with
  | none => s
  | some x =>
    if s.follows ∨ x.truncated ∨ x.launched < x.computed ∨ stripeTicks x.d.len ≤ x.launched ∨
        s.ns + 2 * x.d.tau + s.maxFwd < tickTime x x.launched then s
    else
      let s := if x.fixed ≤ x.launched then s.fixTick x else s
      match s.stripe x.d.seq, s.tickAt x.d.seq x.launched with
      | some x, some e =>
        let all := allBlocks s.variant
        (s.updTick e.n (fun e => { e with dk1 := all })).computeTick x { e with dk1 := all } []
      | _, _ => s

/-- FRAME_LAUNCH (R36, R204): from T − 2τ less the longest forward flight. -/
def execFrameLaunch (s : State) : Host.Outcome State Fault Refusal :=
  let s := s.lateTick
  match s.current with
  | none => .next s
  | some x =>
    if s.follows ∨ x.computed ≤ x.launched ∨ s.ns + 2 * x.d.tau + s.maxFwd < tickTime x x.launched then .next s
    else
      match s.tickAt x.d.seq x.launched with
      | none => .next s
      | some e => .next ((s.launchTick x e).endAbandoned x.d.seq false)

/-- R33, R35, R231, R327: the lane work of the turnaround that begins. -/
def State.planTurn (s : State) (dwellEnd : Nat) (dry : Bool) : State :=
  let slot : Nat := if s.anyRetrain then 1 else 0
  let claimed : Bool := s.slotClaimed
  let due : Bool := !dry && s.rd Reg.CAL_CTRL.enable = 1 && s.role ≠ roleStandby
  let s := { s with trig := { s.trig with slot := slot } }
  let s := if due && decide (s.bwNow = 0) && !s.job.noWindowTold then
      ({ s with job := { s.job with noWindowTold := true } }).raise 0x0801
        [w (s.rd Reg.CAL_WINDOW.window_us), w (s.rd Reg.CAL_WINDOW.tau_ns)]
    else s
  let w0 := dwellEnd + (if claimed then 2500000 else 0)
  let s := if due && decide (0 < s.bwNow) then
      ({ s with trig := { s.trig with calStart := some w0 } }).setTrig1 w0 else s
  match s.pendingFirst with
  | some (x, first) => s.fitTurn first x.d.tau
  | none => s

/-- R368: an active that has received REVERT_REQ sends HANDOVER at the end of the dwell. -/
def State.handOver (s : State) (x : Stripe) : State :=
  if s.role = roleActive && s.pair.revertGot then
    let s := s.mirror x.d.seq (.handover x.d.seq (x.nFirst + stripeTicks x.d.len - 1))
    { s with pair := { s.pair with handover := some (x.d.seq, s.now) } }
  else s

/-- R33: the dwell of a stripe's last tick ends; the standby hears of the job state (R399, log 50). -/
def State.endStripe (s : State) (x : Stripe) (dwellEnd : Nat) : State :=
  let s := s.noteTold x.d.seq endMark
  let s := { s with
    trig := { s.trig with dwellEnd := dwellEnd, endedStripe := some x.d.seq, calStart := none, slot := 0 }
    dram := { s.dram with repaired := false, widened := false, swept := [], streak := [] }
    pair := { s.pair with runsOn := false } }
  let s := if s.job.cancelPending then s.cancelJob false
    else if s.job.suspendPending then s.suspendJob false
    else if s.jobSt = jobExposing then s.setJob false jobTurnaround
    else s
  let s := ((s.commitPoint (some x.d.seq)).freeMaps).checkJobEnd
  let s := if s.inTurn then (s.planTurn dwellEnd x.dry).resumeTests else s
  (s.mirrorPointers x.d.seq).handOver x

/-- The stripe whose last tick has been launched and whose end is still to come. -/
def State.stripeToEnd (s : State) : Option Stripe :=
  s.sieve.stripes.find? (fun x => x.st = .done && x.latch.isSome && !x.truncated && !x.told.contains endMark)

/-- STRIPE_END (R33): the dwell of a stripe's last tick ends. -/
def execStripeEnd (s : State) : Host.Outcome State Fault Refusal :=
  match s.stripeToEnd with
  | none => .next s
  | some x =>
    let dwellEnd := tickTime x (stripeTicks x.d.len)
    if s.follows ∨ s.ns < dwellEnd then .next s else .next (s.endStripe x dwellEnd)

/-! ### The retraining slot (R231, R232) -/

/-- RETRAINING_SLOT_START (R231, R232): in the turnaround whose slot is due; when the job is quiet, at once for the lanes still
scheduled. (log 64) -/
def execRetrainingSlotStart (s : State) : Host.Outcome State Fault Refusal :=
  if s.jobQuiet then .next ((s.lanesWhere s.retrainDue).foldl (fun s t => s.retrainLane t 1 false) s)
  else if s.trig.slot ≠ 1 ∨ s.inTurn = false ∨ s.ns < s.trig.dwellEnd then .next s
  else
    let s := { s with trig := { s.trig with slot := 2 } }
    .next ((s.lanesWhere s.retrainDue).foldl (fun s t => s.retrainLane t 1 true) s)

/-- RETRAINING_SLOT_END (R231): 2,500 µs into the turnaround. -/
def execRetrainingSlotEnd (s : State) : Host.Outcome State Fault Refusal :=
  if s.trig.slot ≠ 2 ∨ s.ns < s.trig.dwellEnd + 2500000 then .next s
  else
    let mine := s.lanesWhere (fun t => (s.lane t).slot)
    let s := mine.foldl (fun s t =>
      let s := if s.laneSt t = lnActive then s else (s.loseLane t 9).raise 0x0407 [w t]
      s.updLane t (fun l => { l with slot := false })) s
    .next ({ s with trig := { s.trig with slot := 3 } }.resumeTests)

/-! ### Pulses (R254, R256) -/

/-- Contacts of Out.pulse: TICK_OUT, CYCLE_OUT0, CYCLE_OUT1. -/
abbrev pinTickOut : Nat := 0
abbrev pinCycleOut0 : Nat := 1
abbrev pinCycleOut1 : Nat := 2

/-- TICK_OUT_PULSE (R254): the pulse of the oldest tick launched that has had none. -/
def execTickOutPulse (s : State) : Host.Outcome State Fault Refusal :=
  match s.shot.tlog.reverse.find? (fun e => e.launched && decide (s.trig.tickOut ≤ e.n)) with
  | none => .next s
  | some e =>
    let delay := s.rd Reg.TIME_TICK_OUT.delay_ns
    if s.ns < e.time + delay then .next s
    else
      let s := { s with trig := { s.trig with tickOut := e.n + 1 } }
      if s.rd Reg.TIME_TICK_OUT.enable = 1 ∧ (¬ e.cal ∨ s.rd Reg.TIME_TICK_OUT.cal = 1) then
        .next (s.send (.pulse pinTickOut (64 * (e.time + delay) + s.rd Reg.TIME_TICK_OUT.fine)
          (s.rd Reg.TIME_TICK_OUT_WIDTH.width_ns)))
      else .next s

/-- The settings of a pulse unit in its registers. -/
def State.pulseRegs (s : State) (u : Nat) (last : Option Nat) : PulseUnit :=
  { enable := decide (s.rd (Reg.TIME_PULSE_CTRL.enable u) = 1), mode := s.rd (Reg.TIME_PULSE_CTRL.mode u),
    route := s.rd (Reg.TIME_PULSE_CTRL.route u), everyK := s.rd (Reg.TIME_PULSE_CTRL.every_k u),
    period := s.rd (Reg.TIME_PULSE_PERIOD.period_ns u), phase := s.rd (Reg.TIME_PULSE_PHASE.phase_ns u),
    width := s.rd (Reg.TIME_PULSE_WIDTH.width_ns u), last := last }

/-- R256: the newest rising edge of a train at or before now. -/
def State.edgeAt (s : State) (p : PulseUnit) : Option Nat :=
  if p.mode = 0 then
    if p.period = 0 then none
    else
      let r := p.phase % p.period
      if s.ns < r then none else some (s.ns - (s.ns - r) % p.period)
  else
    match s.current with
    | none => none
    | some x =>
      if x.st ≠ .exposing then none
      else
        match s.shot.tlog.find? (fun e => e.launched && !e.cal && e.seq = x.d.seq &&
            decide (e.s % Nat.max 1 p.everyK = 0) && decide (e.time + p.phase ≤ s.ns)) with
        | none => none
        | some e => some (e.time + p.phase)

/-- PULSE_TRAIN_EDGE (R256): a unit's next rising edge, at which what was last written takes effect. -/
def execPulseTrainEdge (u : Nat) (s : State) : Host.Outcome State Fault Refusal :=
  match s.trig.pulses[u - 2]? with
  | none => .next s
  | some p =>
    if u < 2 then .next s
    else
      let cfg := if p.enable then p else s.pulseRegs u p.last
      match s.edgeAt cfg with
      | none => .next s
      | some t =>
        if ¬ cfg.enable ∨ (p.last.any (fun l => decide (t ≤ l))) then .next s
        else
          let q := s.pulseRegs u (some t)
          let s := { s with trig := { s.trig with pulses := setAt s.trig.pulses (u - 2) q } }
          if q.enable ∧ (q.route = 1 ∨ q.route = 2) then .next (s.send (.pulse q.route (64 * t) q.width)) else .next s

end Sys2Proof.Machine
end

