-- ==== Sys2Proof/Machine/Calib.lean ====
section
/-! DEFINITION. The calibration window: its start, its ticks, the readings of the beam monitor and what they change (ch. 12,
R327 to R332, R342). -/

namespace Sys2Proof.Machine

/-- Kind of the calibration sweep operation (Table 15.6). -/
abbrev kindSweep : Nat := 2

/-- R328: beam offset of a rank within a tile. -/
def offsetOfRank (j : Nat) : Nat := 64 * (j % 64) + j / 64

/-- R328: the beam that a window position measures on a lane. -/
def CalWindow.beamAt (c : CalWindow) (p t : Nat) : Nat := 4096 * t + offsetOfRank ((c.cursor + p) % 4096)

/-- R328: calibration ticks of a window. -/
def CalWindow.ticks (c : CalWindow) : Nat := c.bw * c.shots

/-- R327: the instant of calibration tick i. -/
def CalWindow.tickAt (c : CalWindow) (i : Nat) : Nat := c.start + (3 + i) * c.tau

/-- R35: calibration tick i may be launched: its dwell ends by the next stripe's arm point. -/
def CalWindow.fits (c : CalWindow) (i : Nat) : Bool :=
  match c.cutAt with
  | none => true
  | some e => decide (c.tickAt i + c.tau ≤ e)

def State.setWindow (s : State) (c : Option CalWindow) : State := { s with cal := { s.cal with window := c } }

/-! ### The start (R327, R328, R342, R344) -/

/-- R344: what a window latches. -/
def State.latchWindow (s : State) (start : Nat) (sweep : Bool) : CalWindow :=
  { start := start, tau := s.rd Reg.CAL_WINDOW.tau_ns, windowUs := s.rd Reg.CAL_WINDOW.window_us,
    shots := s.rd Reg.CAL_CTRL.shots, code := s.rd Reg.CAL_CTRL.code, alpha := s.rd Reg.CAL_CTRL.alpha,
    k := s.rd Reg.CAL_SCALE.k, jump := s.rd Reg.CAL_LIMITS.jump, dead := s.rd Reg.CAL_LIMITS.dead, bw := s.bwNow,
    cursor := s.rd Reg.CAL_CURSOR.next, fired := 0, readings := [], seen := [], sweep := sweep, cutAt := none }

/-- R198: each ACTIVE lane whose receiver has no monitor is told once per job. -/
def State.tellNoMonitor (s : State) : State :=
  (s.lanesWhere (fun t => s.laneSt t = lnActive && s.rd (Reg.LANE_RX_CAPS1.monitor t) = 0 && !(s.lane t).noMonTold)).foldl
    (fun s t => (s.raise 0x0808 [w t]).updLane t (fun l => { l with noMonTold := true })) s

/-- A window begins. -/
def State.beginWindow (s : State) (c : CalWindow) : State :=
  (((s.setWindow (some c)).wrs [(Reg.CAL_STATUS.window_active, 1), (Reg.CAL_MEAS.measured, 0),
    (Reg.CAL_MEAS.unmeasured, 0)]).tellNoMonitor)

/-- The window of a turnaround (R30, R35, R250, R327, R328). -/
def State.turnWindow (s : State) (w0 : Nat) : State :=
  let s := { s with trig := { s.trig with calStart := none } }
  if s.rd Reg.CAL_CTRL.enable = 0 ∨ s.lockOk = false then s
  else
    let c := s.latchWindow w0 false
    if c.bw = 0 then
      if s.job.noWindowTold then s
      else ({ s with job := { s.job with noWindowTold := true } }).raise 0x0801 [w c.windowUs, w c.tau]
    else if 2 ^ 40 < s.job.nextTick + c.ticks then s.dropWindow
    else
      let s := s.beginWindow c
      match s.pendingFirst with
      | some (x, first) => s.fitTurn first x.d.tau
      | none => s

/-- R30, R342: the next window of a running sweep; one that would pass the last tick number is not run. -/
def State.sweepWindow (s : State) (o : LongOp) : State :=
  let c := s.latchWindow s.ns true
  if c.bw = 0 then (s.raise 0x0801 [w c.windowUs, w c.tau]).setOp false o.handle (fun o => { o with st := .failed, result := 1 })
  else if 2 ^ 40 < s.job.nextTick + c.ticks then
    (s.raise 0x0802 [w s.seqNow]).setOp false o.handle (fun o => { o with st := .failed, result := 2 })
  else s.beginWindow c

/-- CALIBRATION_WINDOW_START (R327, R342): at W0 of a turnaround, or at once for a sweep, while the job is not ARMED to SUSPENDED. (log 102) -/
def execCalibrationWindowStart (s : State) : Host.Outcome State Fault Refusal :=
  if s.cal.window.isSome ∨ s.role = roleStandby then .next s
  else
    match (if s.inTurn then s.trig.calStart else none) with
    | some w0 => .next (if s.ns < w0 ∨ s.trig.slot = 2 then s else s.turnWindow w0)
    | none =>
      match s.opOfKind kindSweep with
      | none => .next s
      | some o => .next (if o.st = .running ∧ ¬ (jobArmed ≤ s.jobSt ∧ s.jobSt ≤ jobSuspended) then s.sweepWindow o else s)

/-! ### A calibration tick (R186, R204, R264, R327, R329) -/

/-- R198, R227, R329: beams can be measured on a lane. -/
def State.measures (s : State) (c : CalWindow) (t : Nat) : Bool :=
  s.laneSt t = lnActive && s.rd (Reg.LANE_CTRL.lane_test t) = 0 && s.rd (Reg.LANE_RX_CAPS1.monitor t) = 1 &&
    decide (s.rd (Reg.LANE_RX_TICKS.tick_min t) ≤ c.tau) && decide (c.tau ≤ s.rd (Reg.LANE_RX_TICKS.tick_max t))

/-- R329: the lanes and beams of window position p; beams stuck-open, masked or reserved are skipped. -/
def State.beamsOfPosition (s : State) (c : CalWindow) (p : Nat) : List (Nat × Nat) :=
  ((s.lanesWhere (s.measures c)).map (fun t => (t, c.beamAt p t))).filter (fun q =>
    decide (trimState (trimAt s.cal.live q.2) ≤ 1))

/-- R227: the blocks of the lanes that are not ACTIVE or in lane test, which a calibration tick does not use. -/
def State.calOut (s : State) : Nat :=
  (s.lanesWhere (fun t => s.laneSt t ≠ lnActive || s.rd (Reg.LANE_CTRL.lane_test t) = 1)).foldl (fun m t => m ||| laneBits t) 0

/-- R264: the tick log entry of calibration tick i, with its codes. It carries the number of the last stripe (log 23); its
stripe tick index is one the spec does not state, and is free (log 3). -/
def State.calEntry (s : State) (c : CalWindow) (i : Nat) : TickEntry :=
  let fired := s.beamsOfPosition c (i / c.shots)
  { newTick s.job.nextTick s.seqNow (Config.freeNat s.freeCnt % 2 ^ 25) (c.tickAt i) c.tau with
    cal := true, dk1 := s.calOut, computed := true, fired := fired,
    codes := fired.foldl (fun m q => tabPut m (blockOf q.2) (setAt (List.replicate 256 0) (q.2 % 256) c.code)) [] }

/-- Launch calibration tick i of the window. -/
def State.launchCal (s : State) (c : CalWindow) (i : Nat) : State :=
  let e := s.calEntry c i
  let s := (s.bumpFree.pushTick e).mirror e.seq (.tlogFix (tlogFixBytes e))
  let s := (s.lanesWhere (fun t => s.laneSt t ≠ lnActive)).foldl (fun s t => s.resolve e.n t) s
  let s := s.checkMirrored e.n
  let dir := s.rd Reg.SHOT_STRIPE.dir
  let s := (List.range (lanesOf s.variant)).foldl (fun s t => s.launchLane e dir false false t) s
  let s := s.updTick e.n (fun e => { e with launched := true, fired := e.fired.filter (fun q => e.sent.testBit q.1) })
  (s.noteLaunch e.n true).setWindow (some { c with fired := i + 1 })

/-- CAL_TICK (R329): the window's next calibration tick is computed and launched. -/
def execCalTick (s : State) : Host.Outcome State Fault Refusal :=
  match s.cal.window with
  | none => .next s
  | some c =>
    if c.ticks ≤ c.fired ∨ c.fits c.fired = false ∨ s.ns + 2 * c.tau + s.maxFwd < c.tickAt c.fired then .next s
    else .next (s.launchCal c c.fired)

/-! ### Readings (R198, R330) -/

/-- R330: a reading of a beam for a tick; one that was not fired, or that has been answered, is stray (log 24). -/
def State.reading (s : State) (n beam value : Nat) (valid : Bool) : State :=
  let fired : Bool := s.shot.tlog.any (fun e => e.n = n && e.cal && e.fired.any (fun q => q.2 = beam))
  match s.cal.window with
  | none => s.inc Reg.CAL_SKIP.stray
  | some c =>
    if !fired || n < s.job.nextTick - c.fired || c.seen.contains (n, beam) then s.inc Reg.CAL_SKIP.stray
    else s.setWindow (some { c with
      seen := (n, beam) :: c.seen, readings := if valid then (beam, value) :: c.readings else c.readings })

/-- MONITOR_RECEIVE (R194, R198, R330). -/
def execMonitorReceive (t : Nat) (b : Bytes) (s : State) : Host.Outcome State Fault Refusal :=
  .next (s.onMessage t 0x85 b fun s =>
    let f := beAt b 6 3
    s.reading (beAt b 1 5) (bitsOf f 0 18) (beAt b 9 2) (!f.testBit 18 && !f.testBit 19))

/-! ### The end (R330 to R332) -/

/-- R330: G_meas of the readings of a beam at code c with scale k; den is 0 for code 0, which the spec gives no value
(log 3). -/
def gMeas (free c k : Nat) (rs : List Nat) : Nat :=
  let den := rs.length * c * 65536
  if den = 0 then Config.freeNat free % 65536 else Nat.min 65535 ((rs.sum * k + den / 2) / den)

/-- A trim entry with a gain, or with state dead. -/
def withGain (e g : Nat) : Nat := e / 65536 * 65536 + g
def withDead (e : Nat) : Nat := 2 ^ 28 + e % 2 ^ 28

/-- R331: the sign of d. -/
def sgn (d : Int) : Int := if d < 0 then -1 else if d = 0 then 0 else 1

/-- R331, R332: the update of one measured beam. -/
def State.measureBeam (s : State) (c : CalWindow) (beam g : Nat) : State :=
  let e := trimAt s.cal.shadow beam
  let d : Int := isub g (trimGain e)
  let low : Bool := decide (g < c.dead)
  let put (s : State) (e : Nat) (sus : Int) : State := { s with cal := { s.cal with
    shadow := bankSet s.cal.shadow beam e, suspect := tabSet 0 s.cal.suspect beam sus } }
  let s :=
    if low && s.cal.prevLow.contains beam then
      if trimState e = 0 then ({ s with cal := { s.cal with shadow := bankSet s.cal.shadow beam (withDead e) } }).raise 0x0804 [w beam]
      else s
    else if c.jump < d.natAbs then
      if tabGet 0 s.cal.suspect beam = sgn d then (put s (withGain e g) 0).raise 0x0803 [w beam, w g]
      else (put s e (sgn d)).raise 0x0803 [w beam, w g]
    else put s (withGain e (clampInt 0 65535 ((trimGain e : Int) + (d * c.alpha + 128) / 256)).toNat) 0
  let others := s.cal.prevLow.filter (fun b => b ≠ beam)
  { s with cal := { s.cal with prevLow := if low then beam :: others else others } }

/-- R330, R335: judge one beam of the window. While k is 0 no gain or state is changed (R326). -/
def State.judgeBeam (s : State) (c : CalWindow) (full : Bool) (beam : Nat) : State :=
  let rs := (c.readings.filter (fun r => r.1 = beam)).map (·.2)
  if full && decide (cdiv c.shots 2 ≤ rs.length) && !s.cal.session.contains beam then
    let g := gMeas s.freeCnt c.code c.k rs
    let s := (if c.code = 0 then s.bumpFree else s).inc Reg.CAL_MEAS.measured
    if c.k = 0 then s else s.measureBeam c beam g
  else s.inc Reg.CAL_MEAS.unmeasured

/-- R328: window positions whose shots were all launched. -/
def CalWindow.positions (c : CalWindow) : Nat := c.fired / c.shots

/-- R328: the window's end (ns); a cut window ends with the dwell of its last tick. -/
def CalWindow.endsAt (c : CalWindow) : Nat :=
  match c.cutAt with
  | none => c.start + 1000 * c.windowUs
  | some _ => if c.fired = 0 then c.start else c.tickAt (c.fired - 1) + c.tau

/-- R342: a sweep after one of its windows. -/
def State.sweepOn (s : State) (n : Nat) : State :=
  let left := s.cal.sweepLeft - n
  let s := { s with cal := { s.cal with sweepLeft := left } }
  match s.opOfKind kindSweep with
  | none => s
  | some o =>
    if o.cancelling then s.setOp false o.handle (fun o => { o with st := .cancelled })
    else if left = 0 then s.requestCommit.setOp false o.handle (fun o => { o with st := .done, permille := 1000 })
    else if o.st = .suspending then s.setOp false o.handle (fun o => { o with st := .suspended })
    else s

/-- R330, R331: close the window. -/
def State.endWindow (s : State) (c : CalWindow) : State :=
  let n := c.positions
  let cut := cdiv c.fired c.shots
  let lanes := List.range (lanesOf s.variant)
  let judge (full : Bool) (s : State) (p : Nat) : State := lanes.foldl (fun s t => s.judgeBeam c full (c.beamAt p t)) s
  let s := (List.range n).foldl (judge true) s
  let s := (List.range (cut - n)).foldl (fun s p => judge false s (n + p)) s
  let s := ((s.setWindow none).wr Reg.CAL_STATUS.window_active 0).wr Reg.CAL_CURSOR.next ((c.cursor + n) % 4096)
  let s := if c.sweep then s.sweepOn n else s
  s.resumeTests

/-- CALIBRATION_WINDOW_END (R330). -/
def execCalibrationWindowEnd (s : State) : Host.Outcome State Fault Refusal :=
  match s.cal.window with
  | none => .next s
  | some c => .next (if s.ns < c.endsAt ∨ (c.fired < c.ticks ∧ c.fits c.fired) then s else s.endWindow c)

end Sys2Proof.Machine
end

