-- ==== Sys2Proof/Machine/Clock.lean ====
section
/-! DEFINITION. The PTP slave, captured edges and stage reports (ch. 9, R241 to R249, R257 to R259). -/

namespace Sys2Proof.Machine

/-! ### What the PTP port accepts (R243, R429) -/

/-- Nanoseconds of a PTP interval 2^l s. -/
def intervalNs (l : Int) : Nat := if 0 ≤ l then giga * 2 ^ l.toNat else giga / 2 ^ (-l).toNat

/-- R429: a PTP message arrives on a port; the Bool says that the slave takes it: port selected, transport and domain as
set. On a port that TIME_CTRL.port does not select it is dropped. -/
def State.rxPtp (s : State) (h : PtpHdr) : State × Bool :=
  if s.portUp h.iface = false then (s, false)
  else
    let s := s.inc (Reg.PORT_RX_FRAMES.frames h.iface)
    if h.iface ≠ s.rd Reg.TIME_CTRL.port then (s.inc (Reg.PORT_RX_DROP.drops h.iface), false)
    else (s, h.transport = s.rd Reg.TIME_CTRL.transport && h.domain = s.rd Reg.TIME_CTRL.domain)

/-- The sender's port identity. -/
def senderOf (h : PtpHdr) : Nat := h.clock * 65536 + h.portNo

/-- Local time in 2^-16 ns (R244). -/
def State.now16 (s : State) : Int := (s.clk / 65536 : Nat)

/-- R244: a PHY latency of ps in 2^-16 ns. -/
def ps16 (ps : Nat) : Int := (ps * 65536 / 1000 : Nat)

/-- A PTP timestamp in 2^-16 ns. -/
def time16 (t : PtpTime) : Int := ((t.sec * giga + t.ns) * 65536 : Nat)

/-- TIME_STATUS.port_state in IEEE 1588 codes (Table 9.8, log 25): DISABLED with the port disabled, INITIALIZING until its link
first comes up, FAULTY when the link has gone down, then LISTENING, UNCALIBRATED with a master, SLAVE with lock. -/
def State.ptpState (s : State) : Nat :=
  let p := s.rd Reg.TIME_CTRL.port
  if s.rd (Reg.PORT_CTRL.enable p) = 0 then 3
  else if s.portUp p = false then (if s.rd (Reg.PORT_STATUS.link_downs p) = 0 then 1 else 2)
  else if s.ptp.master.isNone then 4
  else if s.rd Reg.TIME_STATUS.locked = 1 then 9 else 8

/-! ### Lock, steps, holdover (R247 to R249) -/

/-- Reasons of 0x0202 and 0x0206, numbered by the model (log 20). -/
abbrev lockOffsets : Nat := 1
abbrev lockStep : Nat := 2
abbrev lockHoldover : Nat := 3
abbrev lockMaster : Nat := 5
abbrev holdAnnounce : Nat := 1
abbrev holdSync : Nat := 2
abbrev holdPort : Nat := 3
abbrev holdLink : Nat := 4

/-- R248: lock is cleared. -/
def State.clearLock (s : State) (reason : Nat) : State :=
  let was := s.rd Reg.TIME_STATUS.locked
  let s := { s with ptp := { s.ptp with badRun := 0 } }.wrs [(Reg.TIME_STATUS.locked, 0), (Reg.TIME_STATUS.good_syncs, 0)]
  if was = 1 then s.raise 0x0202 [w (s.rd Reg.TIME_OFFSET.offset), w reason] else s

/-- R247: no stripe lies between its arm point and the end of its last dwell, and no calibration window runs. -/
def State.stepWindow (s : State) : Bool :=
  s.current.isNone && s.stripeToEnd.isNone && decide (s.trig.dwellEnd ≤ s.ns) && s.cal.window.isNone

/-- R257: a time-mode unit after a step: the pulse it is emitting is finished, and the stepped grid goes on from its end, or at
once when none is emitted. -/
def steppedPulse (old new : Nat) (p : PulseUnit) : PulseUnit :=
  if p.mode = 0 then { p with last := p.last.map (fun l => new + (if p.enable then l + p.width - old else 0) - 1) } else p

/-- A local instant (ns) of the turnaround in progress, after a step by −o (2^-16 ns): the time elapsed since it stays (DEDUCED,
log 93). -/
def stepped (o : Int) (t : Nat) : Nat := ((t : Int) - o / 65536).toNat

/-- R247, R257: the triggers after a step of the clock by −o, from `old` to `new` ns. -/
def TrigState.step (o : Int) (now old new : Nat) (x : TrigState) : TrigState :=
  { x with
    pulses := x.pulses.map (steppedPulse old new)
    dwellEnd := stepped o x.dwellEnd
    calStart := x.calStart.map (stepped o)
    stepFrom := some (now, old) }

/-- R247: step the clock by −o (2^-16 ns). -/
def State.stepClock (s : State) (o : Int) : State :=
  let old := s.ns
  let s := { s with clk := (((s.clk : Int) - o * 65536) % clkSpan).toNat }
  let s := { s with trig := s.trig.step o s.now old s.ns }
  let s := match s.trig.calStart with
    | some t => s.setTrig1 t
    | none => s
  let s := { s with ptp := { s.ptp with lastOffset := some (o, s.ns) } }
  let s := ((s.clearLock lockStep).wr Reg.TIME_STATUS.step_pending 0).inc Reg.TIME_STEPS.steps
  s.raise 0x0203 [wd (toField 64 ((-o) / 65536))]

/-- R249: holdover. -/
def State.holdover (s : State) (reason : Nat) : State :=
  if s.rd Reg.TIME_STATUS.holdover = 1 then s
  else ((s.clearLock lockHoldover).wr Reg.TIME_STATUS.holdover 1).raise 0x0206 [w reason]

/-! ### The servo (R245, R246) -/

/-- R246: 500 ppm in 2^-32 ns per ns. -/
def alim : Int := 2147484

/-- R246: one update of the servo: the new integ and adj. -/
def servo (kp ki : Int) (o16 : Int) (dt : Int) (integ : Int) : Int × Int :=
  let e := (o16 * 65536) / dt
  let integ := clampInt (-alim) alim (integ + (ki * e) / 65536)
  (integ, clampInt (-alim) alim ((kp * e) / 65536 + integ))

/-- R246: run the servo on an offset dt ns after the one before. Two offsets at one instant have no dt: the spec gives no
error then, and it is free (log 3). -/
def State.runServo (s : State) (o : Int) (dt : Nat) : State :=
  let kp : Int := s.rd Reg.TIME_KP.kp
  let ki : Int := s.rd Reg.TIME_KI.ki
  let (integ, adj) := if dt = 0 then servo kp ki (Config.freeNat s.freeCnt) 65536 s.ptp.integ else servo kp ki o dt s.ptp.integ
  let s := if dt = 0 then s.bumpFree else s
  let inc := ((2 : Int) ^ 32 - adj).toNat
  let was := s.rd Reg.TIME_STATUS.inc_limit
  let lim := b2n (decide (adj.natAbs = alim.natAbs))
  let s := { s with ptp := { s.ptp with integ := integ } }.wrs [(Reg.TIME_INC_HI.inc_ns, inc / 2 ^ 32),
    (Reg.TIME_INC_LO.inc_frac, inc % 2 ^ 32), (Reg.TIME_STATUS.inc_limit, lim)]
  if was = 0 ∧ lim = 1 then s.raise 0x0209 [w (toField 32 adj)] else s

/-- R248: the lock rule on an offset. -/
def State.judgeLock (s : State) (o : Int) : State :=
  let good := decide (o.natAbs < 50 * 65536)
  let n := if good then Nat.min 255 (s.rd Reg.TIME_STATUS.good_syncs + 1) else 0
  let bad := if o.natAbs < s.rd Reg.TIME_UNLOCK.unlock_ns * 65536 then 0 else s.ptp.badRun + 1
  let s := { s with ptp := { s.ptp with badRun := bad } }.wr Reg.TIME_STATUS.good_syncs n
  if 16 ≤ n ∧ s.rd Reg.TIME_STATUS.locked = 0 then
    ((s.wr Reg.TIME_STATUS.locked 1).raise 0x0201 [w (s.rd Reg.TIME_OFFSET.offset)]).endP7
  else if 2 ≤ bad ∧ s.rd Reg.TIME_STATUS.locked = 1 then s.clearLock lockOffsets
  else s

/-- R247: an offset above 100,000 ns: stepped now, or deferred. The Bool says that it was stepped. -/
def State.judgeStep (s : State) (o : Int) : State × Bool :=
  if o.natAbs ≤ 100000 * 65536 then (s, false)
  else if s.rd Reg.TIME_CTRL.step_en = 1 ∧ s.stepWindow then (s.stepClock o, true)
  else if s.rd Reg.TIME_STATUS.step_pending = 1 then (s, false)
  else (((s.wr Reg.TIME_STATUS.step_pending 1).inc Reg.TIME_STEPS.deferred).raise 0x0204 [w (s.rd Reg.TIME_OFFSET.offset)], false)

/-- R245 to R249: an offset from master in 2^-16 ns. It ends holdover. -/
def State.newOffset (s : State) (o : Int) : State :=
  let before := s.ptp.lastOffset
  let s := s.wrs [(Reg.TIME_OFFSET.offset, toField 32 (clampInt (-2147483648) 2147483647 (o / 65536))), (Reg.TIME_STATUS.holdover, 0)]
  let s := { s with ptp := { s.ptp with lastOffset := some (o, s.ns) } }
  let (s, stepped) := s.judgeStep o
  if stepped then s
  else
    let s := match before with
      | some (_, t) => if s.rd Reg.TIME_CTRL.servo_en = 1 then s.runServo o (s.ns - t) else s
      | none => s
    s.judgeLock o

/-- R245: a complete Sync: t1, t2, cS. -/
def State.syncDone (s : State) (t1 t2 cs : Int) : State :=
  let s := { s with ptp := { s.ptp with sync := none, lastPair := some (t1, t2, cs) } }
  match s.ptp.mpd with
  | none => s
  | some mpd =>
    let a := signedOf 32 (s.rd (Reg.TIME_ASYM.asym_ps (s.rd Reg.TIME_CTRL.port))) * 65536 / 1000
    s.newOffset (t2 - t1 - cs - mpd - a)

/-- The current master sent the message. -/
def State.fromMaster (s : State) (h : PtpHdr) : Bool := s.ptp.master = some (senderOf h)

/-- SYNC_RECEIVE (R243 to R245). -/
def execSyncReceive (h : PtpHdr) (twoStep : Bool) (t1 : PtpTime) (s : State) : Host.Outcome State Fault Refusal :=
  let (s, ok) := s.rxPtp h
  .next (if ok ∧ s.fromMaster h ∧ -7 ≤ h.logInterval ∧ h.logInterval ≤ 1 then
      let t2 := s.now16 - ps16 (s.rd (Reg.TIME_PHY_LAT.rx_ps h.iface))
      let s := { s with ptp := { s.ptp with lastSync := s.now, syncLog := h.logInterval } }
      if twoStep then { s with ptp := { s.ptp with sync := some (h.seq, t2, h.corr) } }
      else s.syncDone (time16 t1) t2 h.corr
    else s)

/-- R245: the mean path delay of a Delay_Req whose Sync and Delay_Resp are both complete (log 92). -/
def State.settleReq (s : State) : State :=
  match s.ptp.req with
  | some ⟨_, t3, _, some (t1, t2, cs), some (t4, cd)⟩ =>
    let mpd := ((t2 - t3) + (t4 - t1) - cs - cd) / 2
    { s with ptp := { s.ptp with req := none, mpd := some mpd } }.wr Reg.TIME_PATH_DELAY.mpd (toField 32 (mpd / 65536))
  | _ => s

/-- R245: a Follow_Up completes the Sync that preceded the Delay_Req. -/
def DelayReq.follow (q : Nat) (t1 c : Int) (r : DelayReq) : DelayReq :=
  match r.sync with
  | some (n, t2, cs) => if n = q then { r with sync := none, pair := some (t1, t2, cs + c) } else r
  | none => r

/-- FOLLOW_UP_RECEIVE (R245). -/
def execFollowUpReceive (h : PtpHdr) (t1 : PtpTime) (s : State) : Host.Outcome State Fault Refusal :=
  let (s, ok) := s.rxPtp h
  .next (if ok ∧ s.fromMaster h then
      let s := ({ s with ptp := { s.ptp with req := s.ptp.req.map (DelayReq.follow h.seq (time16 t1) h.corr) } }).settleReq
      match s.ptp.sync with
      | some (q, t2, c) => if q = h.seq then s.syncDone (time16 t1) t2 (c + h.corr) else s
      | none => s
    else s)

/-- DELAY_RESP_RECEIVE (R243, R245): `mine` says that it names the DK1's own port identity. -/
def execDelayRespReceive (h : PtpHdr) (mine : Bool) (t4 : PtpTime) (s : State) : Host.Outcome State Fault Refusal :=
  let (s, ok) := s.rxPtp h
  .next (if ok ∧ mine ∧ s.fromMaster h ∧ s.ptp.req.any (fun r => r.seq = h.seq) then
      ({ s with ptp := { s.ptp with
          req := s.ptp.req.map (fun (r : DelayReq) => { r with resp := some (time16 t4, h.corr) }), reqLog := h.logInterval } }).settleReq
    else s)

/-- DELAY_REQ_SEND (R243 to R245): at an instant the randomised interval gives, once a Sync has been received. -/
def execDelayReqSend (s : State) : Host.Outcome State Fault Refusal :=
  let p := s.rd Reg.TIME_CTRL.port
  if (s.ptp.lastPair.isNone ∧ s.ptp.sync.isNone) ∨ s.ptp.master.isNone ∨ s.portUp p = false then .next s
  else
    let q := s.ptp.reqSeq
    let t3 := s.now16 + ps16 (s.rd (Reg.TIME_PHY_LAT.tx_ps p))
    let r : DelayReq := ⟨q, t3, s.ptp.sync, if s.ptp.sync.isSome then none else s.ptp.lastPair, none⟩
    let s := { s with ptp := { s.ptp with req := some r, reqSeq := (q + 1) % 65536 } }
    .next ((s.inc (Reg.PORT_TX_FRAMES.frames p)).send
      (.delayReq p (s.rd Reg.TIME_CTRL.transport) (s.rd Reg.TIME_CTRL.domain) q))

/-- DEFERRED_STEP (R247): the step window opens with a step pending. -/
def execDeferredStep (s : State) : Host.Outcome State Fault Refusal :=
  if s.rd Reg.TIME_STATUS.step_pending = 0 ∨ s.rd Reg.TIME_CTRL.step_en = 0 ∨ s.stepWindow = false then .next s
  else
    match s.ptp.lastOffset with
    | some (o, _) =>
      .next (if 100000 * 65536 < o.natAbs then s.stepClock o else s.wr Reg.TIME_STATUS.step_pending 0)
    | none => .next (s.wr Reg.TIME_STATUS.step_pending 0)

/-! ### Masters (R243, R249) -/

/-- The data set of a master in the order the best-master comparison takes it. -/
def Master.rank (m : Master) : List Nat := [m.prio1, m.cls, m.acc, m.variance, m.prio2, m.id, m.steps, m.sender]

/-- A rank precedes another. -/
def rankBefore : List Nat → List Nat → Bool
  | a :: as, b :: bs => decide (a < b) || (a = b && rankBefore as bs)
  | _, _ => false

/-- Announces of a master within four of its intervals. -/
def Master.heard (now : Nat) (m : Master) : Nat := m.times.countP (fun t => decide (now ≤ t + 4 * intervalNs m.interval))

/-- The best of the qualified masters. -/
def bestMaster (now : Nat) (ms : List Master) : Option Master :=
  (ms.filter (fun m => decide (2 ≤ m.heard now) && decide (m.steps < 255))).foldl (fun (b : Option Master) (m : Master) =>
    match b with
    | none => some m
    | some x => if rankBefore m.rank x.rank then some m else b) none

/-- R249: another master is selected. -/
def State.setMaster (s : State) (m : Master) : State :=
  if s.ptp.master = some m.sender then s
  else
    let id := m.sender / 65536
    let s := { s with ptp := { s.ptp with master := some m.sender, sync := none, lastPair := none, req := none, lastSync := s.now } }
    let s := s.wrs [(Reg.TIME_MASTER_HI.id_hi, id / 2 ^ 32), (Reg.TIME_MASTER_LO.id_lo, id % 2 ^ 32)]
    (s.clearLock lockMaster).raise 0x0205 [wd id]

/-- R243: select by the best-master comparison, if anyone qualifies. -/
def State.selectMaster (s : State) : State :=
  match bestMaster s.now s.ptp.masters with
  | none => s
  | some m => s.setMaster m

/-- A master with one more Announce. -/
def addAnnounce (h : PtpHdr) (d : PtpData) (now : Nat) (ms : List Master) : List Master :=
  let kept := ms.filter (fun m => m.sender = (senderOf h) || decide (0 < m.heard now))
  let times := ((kept.find? (fun m => m.sender = (senderOf h))).map (·.times)).getD []
  let m : Master := ⟨d.gm, d.prio1, d.cls, d.acc, d.variance, d.prio2, d.steps, (senderOf h), (now :: times).take 2, h.logInterval⟩
  if kept.any (fun m => m.sender = (senderOf h)) then updWhere (fun x => x.sender = (senderOf h)) (fun _ => m) kept
  else if kept.length < 4 then kept ++ [m] else kept

/-- ANNOUNCE_RECEIVE (R243). -/
def execAnnounceReceive (h : PtpHdr) (d : PtpData) (s : State) : Host.Outcome State Fault Refusal :=
  let (s, ok) := s.rxPtp h
  .next (if ok then
      ({ s with ptp := { s.ptp with masters := addAnnounce h d s.now s.ptp.masters } }).selectMaster
    else s)

/-- ANNOUNCE_RECEIPT_TIMEOUT (R249): three intervals without an Announce of the master; without one at all the command is
the timeout itself. -/
def execAnnounceReceiptTimeout (s : State) : Host.Outcome State Fault Refusal :=
  let mine := s.ptp.masters.find? (fun m => s.ptp.master = some m.sender)
  let early : Bool := mine.any (fun m => decide (s.now < m.times.headD 0 + 3 * intervalNs m.interval))
  if early then .next s
  else
    let s := { s with ptp := { s.ptp with masters := s.ptp.masters.filter (fun m => s.ptp.master ≠ some m.sender), master := none } }
    .next (match bestMaster s.now s.ptp.masters with
      | some m => s.setMaster m
      | none => s.holdover holdAnnounce)

/-- SYNC_TIMEOUT (R249): four Sync intervals without a Sync. -/
def execSyncTimeout (s : State) : Host.Outcome State Fault Refusal :=
  if s.ptp.master.isNone ∨ s.now < s.ptp.lastSync + 4 * intervalNs s.ptp.syncLog then .next s
  else .next (s.holdover holdSync)

/-- R249: the slave port is lost or changed: what was known of its masters goes with it. -/
def State.leavePort (s : State) (reason : Nat) : State :=
  ({ s with ptp := { s.ptp with masters := [], master := none, sync := none, lastPair := none, req := none } }).holdover reason

/-- PORT_LINK_DOWN (R249, R428): a port's link goes down, or its cage module is removed. -/
def execPortLinkDown (p : Nat) (s : State) : Host.Outcome State Fault Refusal :=
  if s.rd (Reg.PORT_STATUS.link_up p) = 0 then .next s
  else
    let s := (s.wrs [(Reg.PORT_STATUS.link_up p, 0), (Reg.PORT_STATUS.aligned p, 0)]).inc (Reg.PORT_STATUS.link_downs p)
    .next (if p = s.rd Reg.TIME_CTRL.port then s.leavePort holdLink else s)

/-- PORT_LINK_UP (R428): the port carries traffic again. -/
def execPortLinkUp (p : Nat) (s : State) : Host.Outcome State Fault Refusal :=
  if s.rd (Reg.PORT_CTRL.enable p) = 0 then .next s
  else .next (s.wrs [(Reg.PORT_STATUS.link_up p, 1), (Reg.PORT_STATUS.aligned p, 1)])

/-! ### TIME_INC (R241, R242) -/

/-- R242: a host write of TIME_INC_HI waits for TIME_INC_LO. -/
def State.writeIncHi (s : State) (v : Nat) : State :=
  if s.rd Reg.TIME_CTRL.servo_en = 1 then s else { s with ptp := { s.ptp with incHi := v } }

/-- R242: a host write of TIME_INC_LO takes effect with the TIME_INC_HI last written. -/
def State.writeIncLo (s : State) (v : Nat) : State :=
  if s.rd Reg.TIME_CTRL.servo_en = 1 then s
  else s.wrs [(Reg.TIME_INC_HI.inc_ns, s.ptp.incHi), (Reg.TIME_INC_LO.inc_frac, v)]

/-- TIME_INC_WRITE (R242). -/
def execTimeIncWrite (v : Nat) (s : State) : Host.Outcome State Fault Refusal := .next (s.writeIncLo v)

/-! ### Captures (R258) -/

/-- The edge field of a unit selects the direction. -/
def edgeWanted (field : Nat) (rising : Bool) : Bool := field.testBit (if rising then 0 else 1)

/-- Table 9.4: the time an edge is stamped with: in the cycle of a step, the time before it. -/
def State.edgeTime (s : State) : Nat :=
  match s.trig.stepFrom with
  | some (n, t) => if n = s.now then t else s.ns
  | none => s.ns

/-- A captured edge enters its unit's FIFO. -/
def State.capture (s : State) (c : Nat) (rising : Bool) : State :=
  let fifo := s.trig.caps.getD c []
  if 16 ≤ fifo.length then
    let s := s.wr (Reg.TIME_CAP_CTRL.overflow c) 1
    let early : Bool := (s.trig.capTold.getD c none).any (fun t => decide (s.now < t + giga))
    if early then s
    else ({ s with trig := { s.trig with capTold := setAt s.trig.capTold c (some s.now) } }).raise 0x0215 [w c]
  else
    let s := { s with trig := { s.trig with
      caps := setAt s.trig.caps c (fifo ++ [(⟨s.edgeTime, rising⟩ : CapEdge)])
      strobes := if c = 0 then s.edgeTime :: s.trig.strobes else s.trig.strobes } }
    s.wr (Reg.TIME_CAP_CTRL.count c) (fifo.length + 1)

/-- CAPTURE_EDGE (R258): an edge on the input of unit c (`out`: on HALYARD_OUT, which unit 3 takes when halyard_out is 1).
The instant of the command is the corrected time of the edge. -/
def execCaptureEdge (c : Nat) (rising out : Bool) (s : State) : Host.Outcome State Fault Refusal :=
  let mine : Bool := if c = 3 ∧ s.rd (Reg.TIME_CAP_CTRL.halyard_out 3) = 1 then out else !out
  .next (if mine && edgeWanted (s.rd (Reg.TIME_CAP_CTRL.edge c)) rising then s.capture c rising else s)

/-- R258: a read of TIME_CAPc_TAG pops the oldest entry: it is answered with its TAG word and its seconds and nanoseconds. -/
def State.popCapture (s : State) (c : Nat) : State × Nat × Nat × Nat :=
  match s.trig.caps.getD c [] with
  | [] => (s, 0, 0, 0)
  | e :: rest =>
    let s := { s with trig := { s.trig with caps := setAt s.trig.caps c rest } }
    let s := s.wr (Reg.TIME_CAP_CTRL.count c) rest.length
    let sec := e.time / giga
    (s, 2 ^ 31 + b2n e.rising * 2 ^ 30 + sec / 2 ^ 32 % 65536, sec % 2 ^ 32, e.time % giga)

/-! ### Stage reports (R259) -/

/-- Table 9.3: the report a payload carries, at its arrival (2^-16 ns, R244). -/
def reportOf (b : Bytes) (arrived : Nat) : StageRep :=
  { seq := beAt b 2 2, time := beAt b 4 6 * giga + beAt b 10 4, arrived := arrived, xs := signedOf 48 (beAt b 14 6),
    ys := signedOf 48 (beAt b 20 6), vx := signedOf 32 (beAt b 26 4), vy := signedOf 32 (beAt b 30 4), fault := (byteAt b 1).testBit 0 }

/-- R259: the payload itself is right: length, version, reserved fields, crc. -/
def reportSound (b : Bytes) : Bool :=
  b.length = 40 && byteAt b 0 = 1 && decide (byteAt b 1 < 2) && beAt b 34 2 = 0 && beAt b 36 4 = crc32c (b.take 36)

/-- R259: a report is accepted. -/
def State.reportOk (s : State) (b : Bytes) (r : StageRep) : Bool :=
  reportSound b &&
    (match s.stage.reps.head? with
      | some l => serialBefore 16 l.seq r.seq && decide (l.time < r.time)
      | none => true) &&
    decide (r.time * 65536 ≤ r.arrived + 2000 * 65536) &&
    (s.rd Reg.STG_CTRL.strobe_check = 0 || s.trig.strobes.any (fun t =>
      decide (t ≤ r.time + s.rd Reg.STG_STROBE_TOL.tol_ns) && decide (r.time ≤ t + s.rd Reg.STG_STROBE_TOL.tol_ns)))

/-- An accepted report; it ends coasting, with differenced velocity when its predecessor lies within the gap (R263). -/
def State.acceptReport (s : State) (r : StageRep) : State :=
  let near : Bool := s.stage.reps.head?.any (fun l => decide (r.time ≤ l.time + 1000 * s.rd Reg.STG_GAP.gap_us))
  let s := { s with stage := { s.stage with reps := r :: s.stage.reps } }
  let s := s.wrs [(Reg.STG_STATUS.fault, b2n r.fault), (Reg.STG_STATUS.last_seq, r.seq)]
  if s.rd Reg.STG_CTRL.vel_src = 0 || near then s.wr Reg.STG_STATUS.coasting 0 else s

/-- A discarded report. -/
def State.discardReport (s : State) : State :=
  let s := s.inc Reg.STG_DISCARD.discarded
  if s.stage.lastTold.any (fun t => decide (s.now < t + giga)) then s
  else ({ s with stage := { s.stage with lastTold := some s.now } }).raise 0x0216 [w (s.rd Reg.STG_DISCARD.discarded)]

/-- STAGE_REPORT (R244, R259): a datagram to port 47103; on ETH0 or ETH1 it is dropped. -/
def execStageReport (src : Src) (b : Bytes) (s : State) : Host.Outcome State Fault Refusal :=
  let (s, ok) := s.rxUdp src b.length
  .next (if !ok then s
    else if src.iface ≠ 2 then s.inc (Reg.PORT_RX_DROP.drops src.iface)
    else if s.rd Reg.STG_CTRL.enable = 0 then s
    else
      let r := reportOf b (s.now16 - ps16 (s.rd (Reg.TIME_PHY_LAT.rx_ps 2))).toNat
      if s.reportOk b r then s.acceptReport r else s.discardReport)

end Sys2Proof.Machine
end

