-- ==== Sys2Proof/Machine/Net.lean ====
section
/-! DEFINITION. What the ports answer themselves: ARP, neighbour discovery, echo, multicast groups; and what they discard
(ch. 16, R422, R428, R429). The bytes of ARP, ICMP, ICMPv6, IGMPv3 and MLDv2 are those of the RFCs that R429 names or
implies (PRESUMED, log 32). -/

namespace Sys2Proof.Machine

/-! ### Addresses -/

/-- The MAC address of a port. -/
def State.macOf (s : State) (p : Nat) : Nat := s.rd (Reg.PORT_MAC_HI.mac_hi p) * 2 ^ 32 + s.rd (Reg.PORT_MAC_LO.mac_lo p)

/-- R429: the IPv6 link-local address of a port, modified EUI-64. -/
def State.linkLocal (s : State) (p : Nat) : Nat :=
  let m := s.macOf p
  0xFE80 * 2 ^ 112 + (((m / 2 ^ 24) ^^^ 0x020000) * 2 ^ 40 + 0xFFFE * 2 ^ 24 + m % 2 ^ 24)

/-- R429: an IPv4 address of the port. -/
def State.ownsV4 (s : State) (p addr : Nat) : Bool :=
  s.rd (Reg.PORT_CTRL.ipv4_en p) = 1 && addr ≠ 0 && s.rd (Reg.PORT_IPV4.addr p) = addr

/-- R422, R429: an IPv6 address of the port: link-local, or the global one in force. -/
def State.ownsV6 (s : State) (p addr : Nat) : Bool :=
  s.rd (Reg.PORT_CTRL.ipv6_en p) = 1 && (addr = s.linkLocal p || (addr ≠ 0 && s.net.ip6.getD p 0 = addr))

/-! ### Frames -/

/-- A frame arrives: counted when the port is up. -/
def State.rxFrame (s : State) (p : Nat) : State := s.inc (Reg.PORT_RX_FRAMES.frames p)

/-- R429: a frame is discarded. -/
def State.dropFrame (s : State) (p : Nat) : State := s.inc (Reg.PORT_RX_DROP.drops p)

/-- A frame is sent and counted. -/
def State.sendFrame_ (s : State) (p kind dest : Nat) (payload : Bytes) : State :=
  (s.inc (Reg.PORT_TX_FRAMES.frames p)).send (.frame p kind dest payload)

/-- One's complement sum of 16-bit words, an odd last byte padded with zero. -/
def sum16 : Bytes → Nat
  | [] => 0
  | [a] => a.toNat * 256
  | a :: b :: r => a.toNat * 256 + b.toNat + sum16 r

/-- The Internet checksum. -/
def inetSum (b : Bytes) : Nat :=
  let x := sum16 b
  let y := x % 65536 + x / 65536
  0xFFFF - (y % 65536 + y / 65536)

/-- A message with its checksum written at bytes 2 and 3, over itself and a pseudo header. -/
def withSum (pseudo m : Bytes) : Bytes :=
  m.take 2 ++ toBE 2 (inetSum (pseudo ++ m.take 2 ++ [0#8, 0#8] ++ m.drop 4)) ++ m.drop 4

/-- The pseudo header of an ICMPv6 message. -/
def pseudo6 (src dst len : Nat) : Bytes := toBE 16 src ++ toBE 16 dst ++ toBE 4 len ++ toBE 4 58

/-- EtherType of ARP; protocol numbers of ICMP, IGMP and ICMPv6, as the trace names frames. -/
abbrev kindArp : Nat := 0x0806
abbrev kindIcmp : Nat := 1
abbrev kindIgmp : Nat := 2
abbrev kindIcmp6 : Nat := 58

/-- ARP_REQUEST (R429): sender's MAC and address, and the address asked for. -/
def execArpRequest (p mac ip target : Nat) (s : State) : Host.Outcome State Fault Refusal :=
  if s.portUp p = false then .next s
  else
    let s := s.rxFrame p
    if s.ownsV4 p target then
      .next (s.sendFrame_ p kindArp mac (toBE 2 1 ++ toBE 2 0x0800 ++ toBE 1 6 ++ toBE 1 4 ++ toBE 2 2 ++ toBE 6 (s.macOf p) ++
        toBE 4 target ++ toBE 6 mac ++ toBE 4 ip))
    else .next (s.dropFrame p)

/-- NEIGHBOUR_SOLICITATION (R429): answered by a solicited advertisement with the link-layer address. -/
def execNeighbourSolicitation (p mac src target : Nat) (s : State) : Host.Outcome State Fault Refusal :=
  if s.portUp p = false then .next s
  else
    let s := s.rxFrame p
    if s.ownsV6 p target then
      let m := toBE 1 136 ++ toBE 3 0 ++ toBE 4 0x60000000 ++ toBE 16 target ++ toBE 1 2 ++ toBE 1 1 ++ toBE 6 (s.macOf p)
      .next (s.sendFrame_ p kindIcmp6 mac (withSum (pseudo6 target src m.length) m))
    else .next (s.dropFrame p)

/-- ECHO_REQUEST (R429): the ICMP or ICMPv6 message sent to one of the port's addresses is answered with its own content. -/
def execEchoRequest (src : Src) (dst : Nat) (b : Bytes) (s : State) : Host.Outcome State Fault Refusal :=
  let p := src.iface
  if s.portUp p = false then .next s
  else
    let s := s.rxFrame p
    let own : Bool := if src.v6 then s.ownsV6 p dst else s.ownsV4 p dst
    let len := b.length + (if src.v6 then 40 else 20) + 18
    if own && s.frameFits p len then
      let m := toBE 1 (if src.v6 then 129 else 0) ++ toBE 1 0 ++ b.drop 2
      .next (s.sendFrame_ p (if src.v6 then kindIcmp6 else kindIcmp) src.mac
        (withSum (if src.v6 then pseudo6 dst src.addr m.length else []) m))
    else .next (s.dropFrame p)

/-- OTHER_FRAME (R429): any other frame, or one that is too long. -/
def execOtherFrame (p : Nat) (s : State) : Host.Outcome State Fault Refusal :=
  if s.portUp p = false then .next s else .next ((s.rxFrame p).dropFrame p)

/-- BAD_FCS_FRAME (R428). -/
def execBadFcsFrame (p : Nat) (s : State) : Host.Outcome State Fault Refusal :=
  if s.portUp p = false then .next s else .next (s.inc (Reg.PORT_RX_FCS.fcs p))

/-! ### Multicast groups (R429) -/

/-- IGMPv3: a report of (record type, group). -/
def State.reportV4 (s : State) (p : Nat) (rs : List (Nat × Nat)) : State :=
  if rs = [] ∨ s.portUp p = false then s
  else s.sendFrame_ p kindIgmp 0x01005E000016 (withSum [] (toBE 1 0x22 ++ toBE 5 0 ++ toBE 2 rs.length ++
    rs.flatMap (fun (r : Nat × Nat) => toBE 1 r.1 ++ toBE 3 0 ++ toBE 4 r.2)))

/-- MLDv2: a report of (record type, group), to ff02::16. -/
def State.reportV6 (s : State) (p : Nat) (rs : List (Nat × Nat)) : State :=
  if rs = [] ∨ s.portUp p = false then s
  else
    let m := toBE 1 143 ++ toBE 5 0 ++ toBE 2 rs.length ++ rs.flatMap (fun (r : Nat × Nat) => toBE 1 r.1 ++ toBE 3 0 ++ toBE 16 r.2)
    s.sendFrame_ p kindIcmp6 0x333300000016 (withSum (pseudo6 (s.linkLocal p) (0xFF02 * 2 ^ 112 + 0x16) m.length) m)

/-- Record types: member of a group, leaving it, joining it. -/
abbrev recMember : Nat := 2
abbrev recLeave : Nat := 3
abbrev recJoin : Nat := 4

/-- The records of a change of group. -/
def groupChange (old new : Nat) : List (Nat × Nat) :=
  if old = new then []
  else (if old = 0 then [] else [(recLeave, old)]) ++ (if new = 0 then [] else [(recJoin, new)])

/-- R429: the IPv4 group of a port changes. -/
def State.setGroup4 (s : State) (p g : Nat) : State :=
  let old := s.net.group4.getD p 0
  let s : State := { s with net := { s.net with group4 := setAt s.net.group4 p g } }
  s.reportV4 p (groupChange old g)

/-- R422, R429: the IPv6 group of a port changes. -/
def State.setGroup6 (s : State) (p g : Nat) : State :=
  let old := s.net.group6.getD p 0
  let s : State := { s with net := { s.net with group6 := setAt s.net.group6 p g } }
  s.reportV6 p (groupChange old g)

/-- R422: the 128 bits of four words of a port. -/
def State.words6 (s : State) (f : Nat → Fld) : Nat :=
  s.rd (f 0) * 2 ^ 96 + s.rd (f 1) * 2 ^ 64 + s.rd (f 2) * 2 ^ 32 + s.rd (f 3)

/-- MCAST_GROUP_WRITE (R422, R429): MCAST4, or MCAST6_0 to MCAST6_3 of a host port. -/
def execMcastGroupWrite (p : Nat) (v6 : Bool) (g : Nat) (s : State) : Host.Outcome State Fault Refusal :=
  if v6 then
    .next ((s.wrs ((List.range 4).map (fun n => (Reg.PORT_MCAST6.group p n, bitsOf g (96 - 32 * n) 32)))).setGroup6 p g)
  else .next ((s.wr (Reg.PORT_MCAST4.group p) g).setGroup4 p (g % 2 ^ 32))

/-- MULTICAST_QUERY (R429): IGMP or MLD, general (group 0) or for one group. -/
def execMulticastQuery (p : Nat) (v6 : Bool) (g : Nat) (s : State) : Host.Outcome State Fault Refusal :=
  if s.portUp p = false then .next s
  else
    let s := s.rxFrame p
    let own := (if v6 then s.net.group6 else s.net.group4).getD p 0
    let rs := if own ≠ 0 ∧ (g = 0 ∨ g = own) then [(recMember, own)] else []
    .next (if v6 then s.reportV6 p rs else s.reportV4 p rs)

end Sys2Proof.Machine
end

