-- ==== Sys2Proof/Machine/Memory.lean ====
section
/-! DEFINITION. The DRAM: placement, tags, the scheduler, the Ladle, refresh, training, repair, Whisk and the regions (ch. 10,
R273 to R303). -/

namespace Sys2Proof.Machine

/-! ### Lines and tags (R276, R277) -/

/-- R277: the CRC-32C of a line's tag. -/
def lineCrc (line data region gen : Nat) (poison : Bool) : Nat :=
  crc32c (toBE 4 line ++ toBE 64 data ++ toBE 12 (gen * 2 ^ 72 + region * 2 ^ 64 + b2n poison * 2 ^ 56))

/-- A line as it is written, with its tag. -/
def lineOf (line data region gen : Nat) (poison : Bool) : DramLine :=
  ⟨data, region, gen, poison, lineCrc line data region gen poison⟩

/-- A free line (R276, R298, log 6): zero data, region 0, generation 0. -/
def freeLine (line : Nat) : DramLine := lineOf line 0 0 0 false

/-- What a line holds. -/
def State.dramLine (s : State) (line : Nat) : DramLine := (tabFind s.dram.lines line).getD (freeLine line)

/-- The lines with one written; a line equal to a free one is not listed. -/
def linesSet (t : Tab DramLine) (line : Nat) (x : DramLine) : Tab DramLine :=
  if x = freeLine line then tabErase t line else tabPut t line x

def State.setLine (s : State) (line : Nat) (x : DramLine) : State :=
  { s with dram := { s.dram with lines := linesSet s.dram.lines line x, injected := s.dram.injected.filter (fun l => l ≠ line) } }

/-- R279: why a read fails: 0 crc, 1 generation, 2 region, 3 poison; none when it passes. -/
def State.readFault (s : State) (line region gen : Nat) : Option Nat :=
  let x := s.dramLine line
  if (s.rd Reg.DMC_STATUS.sc_failed).testBit (s.placeOf line).sc then some 0
  else if x.crc ≠ lineCrc line x.data x.region x.gen x.poison then some 0
  else if x.gen ≠ gen then some 1
  else if x.region ≠ region then some 2
  else if x.poison then some 3
  else none

/-! ### Failures (R279, R285, R295, R296) -/

/-- R295: the subchannel has failed; a solo module is suspended, at the end of a stripe that runs (Table 15.5). -/
def State.failSubchannel (s : State) (sc reason : Nat) : State :=
  if (s.rd Reg.DMC_STATUS.sc_failed).testBit sc then s
  else
    let s := (s.wr Reg.DMC_STATUS.sc_failed (withBit (s.rd Reg.DMC_STATUS.sc_failed) sc)).raise 0x030B [w sc, w reason]
    if s.role ≠ roleSolo then s
    else if s.jobSt = jobExposing ∨ s.current.isSome then { s with job := { s.job with suspendPending := true } }
    else if s.jobSt = jobArmed ∨ s.jobSt = jobTurnaround then s.suspendJob false
    else s

/-- The 64 entries of a group in a bank taken from another. -/
def copyGroup (g : Nat) (dst src : Tab Nat) : Tab Nat :=
  (List.range 64).foldl (fun t i => bankSet t (64 * g + i) (trimAt src (64 * g + i))) dst

/-- R276: bytes as the data of a line. -/
def lineData (b : Bytes) : Nat := beNat (padTo 64 (b.take 64))

/-- R267: the on-chip log still holds the entry of a slot of region 7. -/
def State.onChip (s : State) (r : RingEnt) : Bool := r.load = s.check.loads && s.shot.tlog.any (fun e => e.n = r.ent.n)

/-- The entries of region 7 with bytes in a line of it. -/
def State.entriesIn (s : State) (line : Nat) : List RingEnt :=
  let o := 64 * (line - s.regionLine 7)
  s.check.ring.filter (fun r => decide (288 * r.slot < o + 64) && decide (o < 288 * r.slot + 288))

/-- R268, Table 10.3: a line of region 7 is lost: an entry that the on-chip log holds is written again, any other is unreadable. No pixel
with a pass in its tick is open any more (R267). -/
def State.tlogLineLost (s : State) (line : Nat) : State :=
  (s.entriesIn line).foldl (fun (s : State) (r : RingEnt) =>
    if r.lost || s.onChip r then s
    else
      let s := { s with check := { s.check with ring := updWhere (fun x => x.slot = r.slot) (fun x => { x with lost := true }) s.check.ring } }
      (s.inc Reg.TIME_TLOG_STAT.check_fail).raise 0x0217 [w r.ent.seq, w r.ent.s]) s

/-- Table 10.3: a line of the trim mirror is lost: its group is written again from the trim SRAM, when the live group is good. -/
def State.mirrorLineLost (s : State) (o : Nat) : State :=
  let g := o / 4
  if beamsOf s.variant / 64 ≤ g then s
  else if s.cal.badGroups.contains g ∨ s.mirrorOff o then
    { s with cal := { s.cal with badMirror := g :: s.cal.badMirror.filter (fun x => x ≠ g) } }
  else
    { s with cal := { s.cal with
      mirror := copyGroup g s.cal.mirror s.cal.live, badMirror := s.cal.badMirror.filter (fun x => x ≠ g) } }

/-- Table 10.3: what the loss of a line after refetch does to what its region holds. The reads of regions 1 to 4 act on it where
they are made (log 67). -/
def State.lineLost (s : State) (region line : Nat) : State :=
  let o := line - s.regionLine region
  if line < s.regionLine region ∨ s.rd (Reg.DMC_REGION.size region) * 2 ^ 22 ≤ o then s
  else if region = 5 then (if o < s.recLines then s.recordLost o else s)
  else if region = 6 then s.mirrorLineLost o
  else if region = 7 then s.tlogLineLost line
  else if region = 8 then { s with evt := { s.evt with ring := s.evt.ring.filter (fun e => e.index % 4096 ≠ o) } }
  else s

/-- R296: one more refetch of a subchannel has failed in a row; the 256th during a stripe fails the subchannel. -/
def State.countStreak (s : State) (sc : Nat) : State :=
  let n := tabGet 0 s.dram.streak sc + 1
  let s := { s with dram := { s.dram with streak := tabSet 0 s.dram.streak sc n } }
  if 256 ≤ n ∧ s.current.isSome then s.failSubchannel sc 2 else s

/-- R279, R296: a read has failed for good, and what the line held is lost. -/
def State.readFailed (s : State) (r : DramReq) (kind : Nat) (refetched : Bool) : State :=
  let s := (s.noteBad r kind).lineLost r.region r.line
  if refetched then s.countStreak (s.placeOf r.line).sc else s

/-- R279: a refetch has passed. -/
def State.refetchPassed (s : State) (r : DramReq) : State :=
  let s := { s with dram := { s.dram with streak := tabSet 0 s.dram.streak (s.placeOf r.line).sc 0 } }.inc Reg.DMC_RD_ERR.refetch_ok
  if s.dram.toldRd.any (fun t => decide (s.now < t + giga)) then s
  else ({ s with dram := { s.dram with toldRd := some s.now } }).raise 0x0301 [w r.line, w r.cls]

/-- R279: a read with its refetch, in one: whether it passes, and the state after it. -/
def State.checkRead (s : State) (r : DramReq) (x : Transfer) : State × Bool :=
  match s.readFault r.line r.region r.gen, x with
  | some k, _ => (s.readFailed r k (decide (k ≠ 3)), false)
  | none, .good => (s, true)
  | none, .once => (s.refetchPassed r, true)
  | none, .twice => (s.readFailed r 0 true, false)

/-- R288: under PANIC bulk and scrub are not issued. -/
def State.classWaits (s : State) (c : Nat) : Bool := s.rd Reg.DMC_STATUS.panic ≠ 0 && (c = 1 || c = 3)

/-- DRAM_REFETCH (R279): the oldest refetch whose class may be issued and whose subchannel is not under training; `bad`: the transfer
fails again. -/
def execDramRefetch (bad : Bool) (s : State) : Host.Outcome State Fault Refusal :=
  match s.dram.refetch.find? (fun r => !s.classWaits r.cls && !(s.rd Reg.DMC_STATUS.sc_training).testBit (s.placeOf r.line).sc) with
  | none => .next s
  | some r =>
    let s := { s with dram := { s.dram with refetch := s.dram.refetch.erase r } }
    .next (s.checkRead r (if bad then .twice else .once)).1

/-! ### Reads and writes of the array -/

/-- R279: one read: it passes, is queued for its refetch, or fails at once when the line is poisoned. -/
def State.dramRead (s : State) (r : DramReq) (x : Transfer) : State :=
  match s.readFault r.line r.region r.gen with
  | some 3 => s.readFailed r 3 false
  | some _ => { s with dram := { s.dram with refetch := s.dram.refetch ++ [r] } }
  | none => if x = Transfer.good then s else { s with dram := { s.dram with refetch := s.dram.refetch ++ [r] } }

/-- What a line must read as: region and generation of its allocation; a free line 0 and 0 (R276, R278). -/
def State.expected (s : State) (line : Nat) : Nat × Nat := (tabFind s.dram.allocs line).getD (0, 0)

/-- R278: a line belongs from now on to an allocation; in region 0 it is free. -/
def State.setAlloc (s : State) (r : DramReq) : State :=
  { s with dram := { s.dram with
    allocs := if r.region = 0 then tabErase s.dram.allocs r.line else tabPut s.dram.allocs r.line (r.region, r.gen) } }

/-- Byte i of a line's data. -/
def lineByte (data i : Nat) : Nat := bitsOf data (8 * (63 - i)) 8

/-- R282: the bytes of a mask taken from `new`, the rest from `old`. -/
def mergeBytes (old new mask : Nat) : Nat :=
  (List.range 64).foldl (fun a i => a * 256 + (if mask.testBit i then lineByte new i else lineByte old i)) 0

/-- Every byte of a line. -/
def fullMask : Nat := 2 ^ 64 - 1

/-- R285: a line written with verification is read back. -/
def State.verifyWrite (s : State) (r : DramReq) (x : Transfer) : State :=
  match s.checkRead r x with
  | (s, true) => s
  | (s, false) => (if r.region = 6 then s.badMirrorLine (r.line - s.regionLine 6) else s).verifyFailed r.line r.region

/-- R285: writes of the trim mirror are verified, and those that their requester marks. -/
def reqChecked (r : DramReq) : Bool := r.verified || r.region = 6

/-- R284: a part of a line: read, checked, merged and written; with a read that fails, poisoned. -/
def State.mergeWrite (s : State) (r : DramReq) (x : Transfer) : State :=
  let old := s.dramLine r.line
  let data := mergeBytes old.data r.data r.mask
  match (s.inc Reg.DMC_LADLE.rcmw).checkRead r x with
  | (s, true) => s.setLine r.line (lineOf r.line data r.region r.gen false)
  | (s, false) =>
    ((s.setLine r.line (lineOf r.line data r.region r.gen true)).inc Reg.DMC_LADLE.poisoned).raise 0x0304 [w r.line]

/-- R282 to R285, R289: one write: a whole line as it stands, a part of one by read-check-merge-write. `x`: the transfers of the read of
a merge, of the reading back of a verified write; a whole write that is not verified and fails is dropped by the DRAM (R278). -/
def State.dramWrite (s : State) (r : DramReq) (x : Transfer) : State :=
  let s := s.setAlloc r
  let s :=
    if r.mask = fullMask then
      (if reqChecked r then (s.setLine r.line (lineOf r.line r.data r.region r.gen false)).verifyWrite r x
        else if x = Transfer.twice then s else s.setLine r.line (lineOf r.line r.data r.region r.gen false))
    else
      let s := s.mergeWrite r x
      if reqChecked r then s.verifyWrite r .good else s
  if r.region = 7 then s.drainSpool r.line else s

/-! ### Ports, the Ladle, fences (R282, R283, R286) -/

/-- The key of a bank queue. -/
def bankKey (p : Place) : Nat := 32 * p.sc + p.bank

def State.bankQueue (s : State) (k : Nat) : List DramReq := tabGet [] s.dram.queues k

/-- R279: refetches at the head of the queue of a bank. -/
def State.refetches (s : State) (k : Nat) : Nat := s.dram.refetch.countP (fun r => bankKey (s.placeOf r.line) = k)

/-- R273, R286: transactions in flight on a subchannel. -/
def State.inFlight (s : State) (sc : Nat) : Nat :=
  ((List.range 32).map (fun b => (s.bankQueue (32 * sc + b)).length + s.refetches (32 * sc + b))).sum

/-- R286: a request enters its bank's queue when there is room; the Bool says so. -/
def State.enqueue (s : State) (r : DramReq) : State × Bool :=
  let p := s.placeOf r.line
  let q := s.bankQueue (bankKey p)
  if 16 ≤ q.length + s.refetches (bankKey p) ∨ 128 ≤ s.inFlight p.sc then (s, false)
  else ({ s with dram := { s.dram with queues := tabSet [] s.dram.queues (bankKey p) (q ++ [r]) } }, true)

/-- R286: the requests at the ports enter their queues, oldest first; one that finds no room waits. -/
def State.admitPorts (s : State) : State :=
  s.dram.ports.foldl (fun (s : State) (r : DramReq) =>
    let (s, ok) := s.enqueue r
    if ok then s else { s with dram := { s.dram with ports := s.dram.ports ++ [r] } }) { s with dram := { s.dram with ports := [] } }

def State.atPort (s : State) (r : DramReq) : State := { s with dram := { s.dram with ports := s.dram.ports ++ [r] } }

/-- R282: an entry of the Ladle goes to DRAM. -/
def State.flush (s : State) (e : LadleEnt) : State :=
  let s := { s with dram := { s.dram with ladle := s.dram.ladle.filter (fun x => x.line ≠ e.line) } }
  s.atPort { e.req with mask := e.mask, data := e.data }

/-- R282: a write of a requester merges into an entry. -/
def LadleEnt.merge (e : LadleEnt) (r : DramReq) : LadleEnt :=
  { e with
    mask := e.mask ||| r.mask, data := mergeBytes e.data r.data r.mask
    req := { e.req with
      others := if r.requester = e.req.requester ∨ e.req.others.contains r.requester then e.req.others else e.req.others ++ [r.requester]
      verified := e.req.verified || r.verified } }

/-- R282: a write to a line that has an entry merges into it; a narrow one that has none takes an entry. -/
def State.gather (s : State) (r : DramReq) : State :=
  match s.dram.ladle.find? (fun e => e.line = r.line) with
  | some e =>
    let e := e.merge r
    if e.mask = fullMask then s.flush e
    else { s with dram := { s.dram with ladle := updWhere (fun x => x.line = r.line) (fun _ => e) s.dram.ladle } }
  | none =>
    let s : State := if s.dram.ladle.length < 32 then s else match s.dram.ladle with
      | [] => s
      | e :: _ => s.flush e
    { s with dram := { s.dram with ladle := s.dram.ladle ++ [⟨r.line, r.mask, mergeBytes 0 r.data r.mask, s.now, r⟩] } }

/-- A request carries bytes of a requester. -/
def ofRequester (q : Nat) (r : DramReq) : Bool := r.requester = q || r.others.contains q

/-- The writes that are not in DRAM yet and satisfy p. -/
def State.openWrites (s : State) (p : DramReq → Bool) : List DramReq :=
  (s.dram.ports ++ s.dram.queues.flatMap (fun x => x.2)).filter (fun r => r.write && p r)

/-- R282, R283: a fence flushes the entries that hold bytes of its requester, and waits for the writes it then has on their way. -/
def State.fence (s : State) (q : Nat) : State :=
  let s := (s.dram.ladle.filter (fun e => ofRequester q e.req)).foldl State.flush s
  let tags := (s.openWrites (fun r => ofRequester q r)).map (fun r => r.tag)
  { s with dram := { s.dram with fences := s.dram.fences ++ [(q, tags)] } }

/-- R278: the first write of a new allocation takes the next generation of its region. -/
def State.allocate (s : State) (r : DramReq) : State × DramReq :=
  if !(r.write && r.fresh) then (s, r)
  else
    let g := (tabGet 0 s.dram.gens r.region + 1) % 2 ^ 24
    ({ s with dram := { s.dram with gens := tabSet 0 s.dram.gens r.region g } }, { r with gen := g })

/-- R275, R302: the line of a request may be used: it lies outside the training rows, and a retired block takes no allocation it does not
hold already. -/
def State.mayUse (s : State) (r : DramReq) : Bool :=
  decide (r.line < s.whiskLines) &&
    !(r.write && r.region ≠ 0 && (r.fresh || s.expected r.line ≠ (r.region, r.gen)) && s.dram.retired.contains (s.placeOf r.line).row)

/-- A request reaches its port: a fence (a write of no byte), a write or a read. A write of a part of a line, or to a line in the Ladle,
gathers there (R282); a read of a line in the Ladle first flushes it (R283). One for a line that cannot be used has no
effect (log 13). -/
def State.arrive (s : State) (r : DramReq) : State :=
  if r.write ∧ r.mask = 0 then s.fence r.requester
  else if s.mayUse r = false then s
  else
    let (s, r) := s.allocate r
    let r := { r with tag := s.dram.nextTag, others := [] }
    let s : State := { s with dram := { s.dram with nextTag := s.dram.nextTag + 1 } }
    let held := s.dram.ladle.find? (fun e => e.line = r.line)
    if r.write && (decide (r.mask ≠ fullMask) || held.isSome) then s.gather r
    else
      let s : State := match held with
        | some e => s.flush e
        | none => s
      s.atPort r

/-- LADLE_TIMEOUT (R282): the oldest entry, 2 µs after its first write. -/
def execLadleTimeout (s : State) : Host.Outcome State Fault Refusal :=
  match s.dram.ladle with
  | [] => .next s
  | e :: _ => .next (if s.now < e.since + 2000 then s else (s.flush e).admitPorts)

/-- FENCE_COMPLETE (R283): the oldest fence of a requester, once every write it waits for is in DRAM. -/
def execFenceComplete (q : Nat) (s : State) : Host.Outcome State Fault Refusal :=
  match s.dram.fences.find? (fun f => f.1 = q) with
  | none => .next s
  | some f =>
    if s.openWrites (fun r => f.2.contains r.tag) ≠ [] then .next s
    else .next { s with dram := { s.dram with fences := s.dram.fences.erase f } }

/-! ### The scheduler (R286 to R289, R291, R292) -/

/-- R288: weights by class: real-time, bulk, record, scrub, management. -/
def State.weight (s : State) (c : Nat) : Nat :=
  [s.rd Reg.DMC_QOS.w_rt, s.rd Reg.DMC_QOS.w_bulk, s.rd Reg.DMC_QOS.w_record, s.rd Reg.DMC_QOS.w_scrub, s.rd Reg.DMC_QOS.w_mgmt].getD c 0

/-- R288: a class has a request in a queue of a subchannel. -/
def State.classQueued (s : State) (sc c : Nat) : Bool :=
  (List.range 32).any (fun b => (s.bankQueue (32 * sc + b)).any (fun r => r.cls = c))

/-- R288: the rotation of a subchannel starts again once every class with a request has used its slots. -/
def State.rotate (s : State) (sc : Nat) : State :=
  let left := fun c => decide (tabGet 0 s.dram.slots (8 * sc + c) < s.weight c)
  if (List.range 5).any (fun c => s.classQueued sc c && !s.classWaits c && left c) then s
  else { s with dram := { s.dram with slots := (List.range 5).foldl (fun t c => tabSet 0 t (8 * sc + c) 0) s.dram.slots } }

/-- R288: the classes in the order in which the rotation of a subchannel offers the next slot: those that have slots left
first, each group in the order of Table 10.4 (log 26). Under PANIC real-time goes first, bulk and scrub are left out. -/
def State.classOrder (s : State) (sc : Nat) : List Nat :=
  let left := fun c => decide (tabGet 0 s.dram.slots (8 * sc + c) < s.weight c)
  if s.rd Reg.DMC_STATUS.panic ≠ 0 then 0 :: ([2, 4].filter left ++ [2, 4].filter (fun c => !left c))
  else (List.range 5).filter left ++ (List.range 5).filter (fun c => !left c)

/-- R283, R287: the oldest request of a class in a queue that no older request to the same line precedes. -/
def oldestOf (c : Nat) (p : DramReq → Bool) : List DramReq → List Nat → Option DramReq
  | [], _ => none
  | r :: rest, seen =>
    if r.cls = c && p r && !seen.contains r.line then some r else oldestOf c p rest (r.line :: seen)

/-- R291: a requester may still activate on a subchannel in this window. -/
def State.mayActivate (s : State) (sc : Nat) (r : DramReq) : Bool :=
  r.cls = 0 || decide (tabGet 0 s.dram.budget (16 * sc + r.requester) < s.rd Reg.DMC_ACT.per_us)

/-- R287: banks of a subchannel in bank-group order, after the one last activated. -/
def State.bankOrder (s : State) (sc : Nat) : List Nat :=
  (List.range 32).map (fun i => (tabGet 0 s.dram.lastAct sc + i) % 32)

/-- R287: a request hits the open row of its bank. -/
def State.rowOpen (s : State) (k : Nat) (r : DramReq) : Bool := tabGet 0 s.dram.openRow k = (s.placeOf r.line).row + 1

/-- What the scheduler picks for a class: a request with its bank, and whether it activates. A request to a line whose refetch is at the
head of the queue waits for it (R279). -/
def State.pick (s : State) (sc c : Nat) : Option (Nat × DramReq × Bool) :=
  let again := s.dram.refetch.map (fun r => r.line)
  let hit := s.bankOrder sc |>.findSome? (fun b =>
    (oldestOf c (s.rowOpen (32 * sc + b)) (s.bankQueue (32 * sc + b)) again).map (fun r => (b, r, false)))
  match hit with
  | some x => some x
  | none => s.bankOrder sc |>.findSome? (fun b => match oldestOf c (fun _ => true) (s.bankQueue (32 * sc + b)) again with
      | some r => if s.mayActivate sc r then some (b, r, true) else none
      | none => none)

/-- R291: a requester of the class whose request needs an activate beyond its budget waits for the next window; the episode is counted
once. -/
def State.throttle (s : State) (sc c : Nat) : State :=
  (List.range 32).foldl (fun (s : State) (b : Nat) =>
    match oldestOf c (fun _ => true) (s.bankQueue (32 * sc + b)) [] with
    | none => s
    | some r =>
      let k := 16 * sc + r.requester
      if s.rowOpen (32 * sc + b) r ∨ s.mayActivate sc r ∨ s.dram.throttled.contains k then s
      else
        let s := { s with dram := { s.dram with throttled := k :: s.dram.throttled } }.inc Reg.DMC_ACT_STAT.throttled
        if s.dram.toldAct.any (fun t => decide (s.now < t + giga)) then s
        else ({ s with dram := { s.dram with toldAct := some s.now } }).raise 0x0308 [w sc, w c]) s

/-- R292: the count table of a bank after an activate of a row; the Bool says that the threshold is reached. -/
def countRow (row limit : Nat) (t : List (Nat × Nat)) : List (Nat × Nat) × Bool :=
  let t : List (Nat × Nat) :=
    if t.any (fun e => e.1 = row) then t.map (fun e => if e.1 = row then (row, e.2 + 1) else e)
    else if t.length < 32 then t ++ [(row, 1)]
    else
      let least := t.foldl (fun m e => Nat.min m e.2) (t.headD (0, 0)).2
      match t.find? (fun e => e.2 = least) with
      | some v => t.map (fun e => if e = v then (row, least + 1) else e)
      | none => t
  if t.any (fun e => e.1 = row && decide (limit ≤ e.2)) then (t.map (fun e => if e.1 = row then (row, 0) else e), true) else (t, false)

/-- R291, R292: one activate. -/
def State.activate (s : State) (sc b : Nat) (r : DramReq) : State :=
  let row := (s.placeOf r.line).row
  let k := 16 * sc + r.requester
  let (t, hit) := countRow row (s.rd Reg.DMC_ACT.threshold) (tabGet [] s.dram.acts (32 * sc + b))
  let s := { s with dram := { s.dram with
    openRow := tabSet 0 s.dram.openRow (32 * sc + b) (row + 1), lastAct := tabSet 0 s.dram.lastAct sc (b + 1),
    acts := tabSet [] s.dram.acts (32 * sc + b) t,
    budget := if r.cls = 0 then s.dram.budget else tabSet 0 s.dram.budget k (tabGet 0 s.dram.budget k + 1) } }
  if hit then s.inc Reg.DMC_ACT_STAT.drfm else s

/-- R288: a slot of the class is used. -/
def State.useSlot (s : State) (sc c : Nat) : State :=
  { s with dram := { s.dram with slots := tabSet 0 s.dram.slots (8 * sc + c) (tabGet 0 s.dram.slots (8 * sc + c) + 1) } }

/-- R290: the postponed refreshes of every subchannel are made up; a refresh closes the rows. -/
def State.makeUpRefresh (s : State) : State :=
  let owed := fun k => decide (0 < tabGet 0 s.dram.debt (k / 32))
  { s with dram := { s.dram with openRow := tabKeep (fun k => !owed k) s.dram.openRow, debt := [] } }

/-- R289: capacities of the prefetch buffers of the render port and the PEC port (bytes). -/
abbrev renderBuf : Nat := 2 ^ 21
abbrev pecBuf : Nat := 2 ^ 18

/-- R289: the ports in PANIC: render, PEC, trim mirror, tick-log spool. -/
def State.panicPorts (s : State) (f : PortFill) : Nat :=
  let pct := s.rd Reg.DMC_PANIC.low_pct
  b2n (f.demand.testBit 0 && decide (100 * f.render < pct * renderBuf)) + 2 * b2n (f.demand.testBit 1 && decide (100 * f.pec < pct * pecBuf)) +
    4 * b2n f.trimLow + 8 * b2n (decide (4096 < s.backlog))

/-- R289: PANIC of each port rises or ends. -/
def State.setPanic (s : State) (f : PortFill) : State :=
  let p := s.panicPorts f
  let was := s.rd Reg.DMC_STATUS.panic
  let s := s.wr Reg.DMC_STATUS.panic p
  if p = 0 then (if was = 0 then s else s.makeUpRefresh)
  else
    let new := (setBits p 4).countP (fun i => !was.testBit i)
    let s := s.incBy Reg.DMC_PANIC.count new
    if new = 0 ∨ s.dram.panicTold then s
    else ({ s with dram := { s.dram with panicTold := true } }).raise 0x0307 [w s.seqNow, w p]

/-- R287: issue one request. -/
def State.issue (s : State) (sc b : Nat) (r : DramReq) (act : Bool) (x : Transfer) : State :=
  let s := if act then s.activate sc b r else s
  let q := s.bankQueue (32 * sc + b)
  let s := { s with dram := { s.dram with queues := tabSet [] s.dram.queues (32 * sc + b) (q.erase r) } }.useSlot sc r.cls
  if r.write then s.dramWrite r x else s.dramRead r x

/-- DRAM_REQUEST_ISSUE (R286 to R289): the requests that have reached their ports, then one request of a subchannel that is
not under training. `fill`: what the read ports hold; `x`: how the transfers go. -/
def execDramRequestIssue (sc : Nat) (fill : PortFill) (x : Transfer) (arrivals : List DramReq) (s : State) :
    Host.Outcome State Fault Refusal :=
  let s := ((arrivals.foldl State.arrive s).admitPorts).setPanic fill
  if (s.rd Reg.DMC_STATUS.sc_training).testBit sc ∨ ¬ s.subchannels.contains sc then .next s
  else
    let s := s.rotate sc
    let cs := s.classOrder sc
    let s := cs.foldl (fun (s : State) (c : Nat) => s.throttle sc c) s
    match cs.findSome? (s.pick sc) with
    | none => .next s
    | some (b, r, act) => .next (s.issue sc b r act x).admitPorts

/-! ### Refresh and the activate windows (R290 to R292) -/

/-- REFRESH_DUE (R290): issued, or under PANIC postponed up to four. -/
def execRefreshDue (sc : Nat) (s : State) : Host.Outcome State Fault Refusal :=
  let n := tabGet 0 s.dram.debt sc
  if s.rd Reg.DMC_STATUS.panic ≠ 0 ∧ n < 4 then
    .next { s with dram := { s.dram with debt := tabSet 0 s.dram.debt sc (n + 1) } }
  else .next { s with dram := { s.dram with openRow := tabKeep (fun k => k / 32 ≠ sc) s.dram.openRow } }

/-- ACTIVATE_WINDOW (R291): at each whole microsecond of local time. -/
def execActivateWindow (s : State) : Host.Outcome State Fault Refusal :=
  if s.ns / 1000 = s.dram.actWindow then .next s
  else .next { s with dram := { s.dram with actWindow := s.ns / 1000, budget := [], throttled := [] } }

/-- ACTIVATE_COUNT_CLEAR (R292): every 32 ms. -/
def execActivateCountClear (s : State) : Host.Outcome State Fault Refusal :=
  if s.now < s.dram.actClear + 32000000 then .next s
  else .next { s with dram := { s.dram with actClear := s.now, acts := [] } }

/-! ### Training (R294, R295) -/

/-- Kind of the DRAM retrain operation (Table 15.6). -/
abbrev kindRetrain : Nat := 5

/-- R294: the device temperature of a subchannel (°C) has moved by temp_step or more since its last training. -/
def State.tempMoved (s : State) (temps : List Int) (c : Nat) : Bool :=
  match tabFind s.dram.temps c, temps[c]? with
  | some t0, some t => decide (s.rd Reg.DMC_TRAIN_CTRL.temp_step ≤ (t - t0).natAbs)
  | _, _ => false

/-- R294: the subchannels due: interval elapsed, temperature moved, or asked for by the operation. -/
def State.dueNow (s : State) (temps : List Int) : List Nat :=
  s.subchannels.filter (fun c => !(s.rd Reg.DMC_STATUS.sc_failed).testBit c &&
    (s.tempMoved temps c || s.dram.due.contains c ||
      decide (tabGet 0 s.dram.trained c + s.rd Reg.DMC_TRAIN_CTRL.interval_s * giga ≤ s.now)))

/-- R294, R295: a widened sweep is pending on a subchannel. -/
def State.widenDue (s : State) (c : Nat) : Bool := s.rd (Reg.DMC_TRAIN.widen c) = 1

/-- R294, R295: the next sweep, in subchannel order: in a turnaround each subchannel once, and one widened sweep, due or not; otherwise
a quick sweep of each that is due. -/
def State.nextSweep (s : State) (temps : List Int) : Option (Nat × Bool) :=
  let turn : Bool := s.jobSt = jobTurnaround
  let due := s.dueNow temps
  let wide (c : Nat) : Bool := turn && s.widenDue c
  (s.subchannels.find? (fun c => !(turn && s.dram.swept.contains c) && !(s.rd Reg.DMC_STATUS.sc_failed).testBit c &&
    (if wide c then !s.dram.widened else due.contains c))).map (fun c => (c, wide c))

/-- The DRAM retrain operation runs. -/
def State.retrainRuns (s : State) : State :=
  match s.opOfKind kindRetrain with
  | some o => if o.st = .waiting then s.setOp false o.handle (fun o => { o with st := .running }) else s
  | none => s

/-- DRAM_RETRAIN_START (R294): in a turnaround, or at once when the job is quiet; `temps`: the device temperatures by subchannel (°C). -/
def execDramRetrainStart (temps : List Int) (s : State) : Host.Outcome State Fault Refusal :=
  if s.dram.train.isSome ∨ s.rd Reg.DMC_STATUS.ready = 0 ∨ ¬ (s.jobQuiet ∨ s.jobSt = jobTurnaround) then .next s
  else
    match s.nextSweep temps with
    | none => .next s
    | some (c, wide) =>
      let mine := s.dram.due.contains c
      let s := if mine then s.retrainRuns else s
      let s := { s with dram := { s.dram with
        train := some ⟨c, wide, mine, temps.getD c 0⟩, widened := s.dram.widened || wide, swept := c :: s.dram.swept } }
      .next (s.wr Reg.DMC_STATUS.sc_training (withBit 0 c))

/-- R402: the retrain operation after one of its subchannels; a suspended one keeps the mask of those still due. -/
def State.retrainStep (s : State) (c : Nat) : State :=
  let s := { s with dram := { s.dram with due := s.dram.due.filter (fun x => x ≠ c) } }
  match s.opOfKind kindRetrain with
  | none => s
  | some o =>
    let n := popcount o.arg 4
    let failed := (s.rd Reg.DMC_STATUS.sc_failed) &&& o.arg ≠ 0
    let f (o : LongOp) (st : OpSt) (result : Nat) : LongOp := { o with st := st, result := result, permille := 1000 * (n - s.dram.due.length) / Nat.max 1 n }
    if o.cancelling then ({ s with dram := { s.dram with due := [] } }).setOp false o.handle (fun o => f o .cancelled 0)
    else if s.dram.due = [] then s.setOp false o.handle (fun o => if failed then f o .failed 0x0B else f o .done 0)
    else if o.st = .suspending then
      let rest := s.dram.due.foldl withBit 0
      let s := s.setOp false o.handle (fun o => { f o .suspended 0 with pos := rest })
      { s with dram := { s.dram with due := [] } }
    else s.setOp false o.handle (fun o => f o (if s.jobQuiet then .running else .waiting) 0)

/-- R293, R294: the longest of the passing runs of a sweep (Vref step, first step, steps), the first of several. (log 100) -/
def bestRun (runs : List (Nat × Nat × Nat)) : Option (Nat × Nat × Nat) :=
  runs.foldl (fun b r => if r.2.2 = 0 then b else match b with
    | none => some r
    | some x => if x.2.2 < r.2.2 then some r else b) none

/-- R293: the centre of a run, with its Vref step. -/
def runCentre (r : Nat × Nat × Nat) : Nat × Nat := (r.2.1 + r.2.2 / 2, r.1)

/-- R294: the part of a passing run that a sweep of ± reach steps and ± 2 Vref steps around a setting sees. -/
def clipRun (reach : Nat) (cur : Nat × Nat) (r : Nat × Nat × Nat) : Nat × Nat × Nat :=
  let lo := Nat.max r.2.1 (cur.1 - reach)
  let hi := Nat.min (r.2.1 + r.2.2) (cur.1 + reach + 1)
  (r.1, lo, if cur.2 ≤ r.1 + 2 ∧ r.1 ≤ cur.2 + 2 then hi - lo else 0)

/-- The delays of a subchannel: read DQS and write DQ of each of its five byte lanes. -/
def delaysOf (c : Nat) : List Nat := (List.range 10).map (fun i => 10 * c + i)

/-- R294, R295: a sweep of a subchannel: the longest run of each delay, within its reach. -/
def State.sweepRuns (s : State) (t : DramTrain) (runs : List (List (Nat × Nat × Nat))) : List (Option (Nat × Nat × Nat)) :=
  (List.range 10).map (fun i =>
    bestRun ((runs.getD i []).map (clipRun (if t.wide then 16 else 8) (tabGet (0, 0) s.dram.settings (10 * t.sc + i)))))

/-- R293, R294: the delays of a subchannel take the centres of their runs. -/
def State.centre (s : State) (c : Nat) (best : List (Option (Nat × Nat × Nat))) : State :=
  { s with dram := { s.dram with settings := (List.range 10).foldl (fun t i =>
    ((best.getD i none).map (fun r => tabSet (0, 0) t (10 * c + i) (runCentre r))).getD t) s.dram.settings } }

/-- The shortest of the runs chosen: steps, and the byte lane it belongs to. -/
def narrowest (best : List (Option (Nat × Nat × Nat))) : Nat × Nat :=
  let ws := best.map (fun b => (b.map (fun r => r.2.2)).getD 0)
  let m := ws.foldl Nat.min (ws.headD 0)
  (m, ws.findIdx (fun x => x = m) / 2)

/-- DRAM_RETRAIN_DONE (R294, R295): a sweep ends. `runs`: the passing runs of each delay (Vref step, first step, steps), byte lanes
in order, read DQS before write DQ; `pattern`: the pattern test passes. -/
def execDramRetrainDone (runs : List (List (Nat × Nat × Nat))) (pattern : Bool) (s : State) : Host.Outcome State Fault Refusal :=
  match s.dram.train with
  | none => .next s
  | some t =>
    let c := t.sc
    let best := s.sweepRuns t runs
    let (width, byteLane) := narrowest best
    let s := { s with dram := { s.dram with
      train := none, trained := tabSet 0 s.dram.trained c s.now, temps := tabPut s.dram.temps c t.temp } }
    let s := (s.wr Reg.DMC_STATUS.sc_training 0).inc (Reg.DMC_TRAIN.count c)
    let s :=
      if 0 < width then
        (s.centre c best).wrs [(Reg.DMC_TRAIN.result c, 0), (Reg.DMC_TRAIN.widen c, 0), (Reg.DMC_TRAIN.width_min c, width)]
      else if pattern then
        (s.wrs [(Reg.DMC_TRAIN.result c, 1), (Reg.DMC_TRAIN.widen c, 1), (Reg.DMC_TRAIN.width_min c, 0)]).raise 0x030A [w c, w byteLane]
      else (s.wrs [(Reg.DMC_TRAIN.result c, 2), (Reg.DMC_TRAIN.width_min c, 0)]).failSubchannel c 1
    .next ((if t.op then s.retrainStep c else s).admitPorts)

/-! ### Repair (R301, R302) -/

/-- R274 inverted: the lines of a row location. -/
def State.rowLines (s : State) (loc : Nat) : List Nat :=
  let row := locRow loc
  let n := if s.degraded then 3 else 4
  ((List.range 2048).flatMap (fun low => (List.range n).map (fun k => (row * 2048 + low) * n + k))).filter (fun line =>
    let p := s.placeOf line
    p.sc = bitsOf loc 26 2 && p.bank = bitsOf loc 21 5)

/-- R301: a line of a row under repair is written back with its tag, poisoned when it failed its check in the copy, and verified. -/
def State.writeBack (s : State) (bad unverified : List Nat) (line : Nat) : State :=
  let x := s.dramLine line
  let col := (s.placeOf line).col
  let good : Bool := x.crc = lineCrc line x.data x.region x.gen x.poison && !bad.contains col
  let poison := x.poison || !good
  let s := if good then s else s.setLine line (lineOf line x.data x.region x.gen true)
  if poison ∧ ¬ unverified.contains col then s
  else s.verifyWrite (readReq 3 line x.region x.gen) (if unverified.contains col then .twice else .good)

/-- DRAM_REPAIR (R301, R302): the oldest queued row, once in a turnaround. `bad`: columns whose line fails its check in the
copy; `resource`: an sPPR resource remains for the row; `unverified`: columns whose line fails when it is read back. -/
def execDramRepair (bad : List Nat) (resource : Bool) (unverified : List Nat) (s : State) : Host.Outcome State Fault Refusal :=
  match s.dram.repairs with
  | [] => .next s
  | loc :: rest =>
    if s.jobSt ≠ jobTurnaround ∨ s.dram.repaired ∨ s.dram.train.isSome then .next s
    else
      let s := { s with dram := { s.dram with repairs := rest, repaired := true } }.wr Reg.DMC_REPAIR.pending rest.length
      if !resource then .next (s.retireRow (locRow loc))
      else
        let s := (s.rowLines loc).foldl (fun (s : State) (line : Nat) => s.writeBack bad unverified line) s
        let s := ({ s with dram := { s.dram with
          listed := if s.dram.listed.contains loc then s.dram.listed else s.dram.listed ++ [loc] } }).storeLists
        .next (((s.inc Reg.DMC_REPAIR.sppr).forget ⟨1, loc⟩).raise 0x030C [w (bitsOf loc 26 2), w (bitsOf loc 21 5), w (locRow loc)])

/-! ### Whisk (R298 to R300) -/

/-- Kind of the full scrub operation (Table 15.6). -/
abbrev kindScrub : Nat := 4

/-- R298: the least time between two lines (ns). -/
def State.whiskPeriod (s : State) : Nat :=
  if s.dram.scrubOp then 16 else s.rd Reg.DMC_SCRUB.period_h * 3600 * giga / s.whiskLines

/-- Table 10.3: what a line lost is rewritten from, as its data: the trim SRAM, the on-chip log, the code in NVM (log 67); none: there is
no source. -/
def State.lineSource (s : State) (region line : Nat) : Option Nat :=
  let o := line - s.regionLine region
  if region = 6 then
    (if 16 * o < beamsOf s.variant ∧ ¬ s.cal.badGroups.contains (o / 4) then
      some (lineData ((List.range 16).flatMap (fun i => toBE 4 (trimAt s.cal.live (16 * o + i))))) else none)
  else if region = 7 then
    (let es := s.entriesIn line
     if es ≠ [] ∧ es.all s.onChip then
       some (lineData ((List.range 64).flatMap (fun i =>
         let b := 64 * o + i
         match es.find? (fun r => r.slot = b / 288) with
         | some r => [(tlogBytes r.ent).getD (b % 288) 0#8]
         | none => [0#8])))
     else none)
  else if region = 8 then (if o < 4096 then none else some (Config.freeNat s.freeCnt % 2 ^ 512))
  else none

/-- R300: a line that has failed in Whisk is rewritten from its source, or poisoned. -/
def State.whiskFailed (s : State) (line region gen : Nat) : State :=
  let x := s.dramLine line
  let s := match s.lineSource region line with
    | some data => s.bumpFree.setLine line (lineOf line data region gen false)
    | none => s.setLine line (lineOf line x.data region gen true)
  (s.inc Reg.DMC_SCRUB_ERR.dram).raise 0x0303 [w region, w line]

/-- R298, R300: Whisk's work on one line: a line of an allocation is read and checked, a free line is written and verified. `x`: how
the transfers go. -/
def State.whiskOne (s : State) (line : Nat) (x : Transfer) : State :=
  match tabFind s.dram.allocs line with
  | none => (s.setLine line (freeLine line)).verifyWrite (readReq 3 line 0 0) x
  | some (region, gen) =>
    match s.checkRead (readReq 3 line region gen) x with
    | (s, true) => s
    | (s, false) => s.whiskFailed line region gen

/-- R298: Whisk passes over a line that has a Ladle entry or lies on a subchannel under training. -/
def State.whiskSkips (s : State) (line : Nat) : Bool :=
  s.dram.ladle.any (fun e => e.line = line) || (s.rd Reg.DMC_STATUS.sc_training).testBit (s.placeOf line).sc

/-- R402: the full scrub after a line: one whole pass from where Whisk was. -/
def State.scrubStep (s : State) : State :=
  match s.opOfKind kindScrub with
  | none => { s with dram := { s.dram with scrubOp := false } }
  | some o =>
    let n := o.pos + 1
    let f (o : LongOp) (st : OpSt) : LongOp := { o with st := st, pos := n, permille := 1000 * n / s.whiskLines }
    if o.cancelling then ({ s with dram := { s.dram with scrubOp := false } }).setOp false o.handle (fun o => f o .cancelled)
    else if s.whiskLines ≤ n then ({ s with dram := { s.dram with scrubOp := false } }).setOp false o.handle (fun o => f o .done)
    else if o.st = .suspending then ({ s with dram := { s.dram with scrubOp := false } }).setOp false o.handle (fun o => f o .suspended)
    else s.setOp false o.handle (fun o => f o o.st)

/-- WHISK_LINE (R298): the next line, at its rate, in a slot of the scrub class, which PANIC holds back (R288). -/
def execWhiskLine (x : Transfer) (s : State) : Host.Outcome State Fault Refusal :=
  if s.now < s.dram.lastLine + s.whiskPeriod ∨ s.rd Reg.DMC_STATUS.ready = 0 ∨ s.classWaits 3 then .next s
  else
    let line := s.rd Reg.DMC_SCRUB_POS.line
    let s := if s.whiskSkips line then s else (s.whiskOne line x).useSlot (s.placeOf line).sc 3
    let s := { s with dram := { s.dram with lastLine := s.now } }.wr Reg.DMC_SCRUB_POS.line
      (if line + 1 < s.whiskLines then line + 1 else 0)
    .next (if s.dram.scrubOp then s.scrubStep else s)

/-- R299: a live group fails its check: reloaded from the mirror, or bad, when the mirror fails too, until the host restores it. -/
def State.liveGroupFailed (s : State) (g : Nat) (mirrorBad : Bool) : State :=
  let s := if s.cal.injected.contains g then s else s.failAt ⟨3, g⟩
  let bad := s.cal.badGroups.filter (fun x => x ≠ g)
  if mirrorBad ∨ s.mirrorFails g then
    let told := s.cal.toldBad.contains g
    let s := { s with cal := { s.cal with badGroups := g :: bad, toldBad := if told then s.cal.toldBad else g :: s.cal.toldBad } }
    if told then s else s.raise 0x0305 [w g]
  else
    ({ s with cal := { s.cal with live := copyGroup g s.cal.live s.cal.mirror, badGroups := bad, injected := s.cal.injected.filter (fun x => x ≠ g) } }).inc Reg.DMC_SCRUB_ERR.trim

/-- R299: a shadow group fails its check: reloaded from the live bank, and any open session is aborted. -/
def State.shadowGroupFailed (s : State) (g : Nat) : State :=
  let s := s.failAt ⟨3, g⟩
  let s := { s with cal := { s.cal with
    shadow := copyGroup g s.cal.shadow s.cal.live, badShadow := s.cal.badShadow.filter (fun x => x ≠ g) } }
  let s := if s.sessionOpen then s.abortSession else s
  (s.inc Reg.DMC_SCRUB_ERR.trim).raise 0x0305 [w g]

/-- Table 12.5: verified writes of the trim mirror are still on their way. -/
def State.mirrorWriting (s : State) : Bool := s.openWrites (fun r => r.region = 6) ≠ [] || s.dram.ladle.any (fun e => e.req.region = 6)

/-- WHISK_TRIM_CHECK (R299): a live group that failed at shot time comes first; otherwise the next group, every 2,000 ns,
live and shadow in turn. A reload waits until the writes of the mirror are verified (Table 12.5). `bad`: the group fails its check; `mirrorBad`: the mirror line fails too. -/
def execWhiskTrimCheck (bad mirrorBad : Bool) (s : State) : Host.Outcome State Fault Refusal :=
  match s.cal.badGroups.find? (fun g => !s.cal.toldBad.contains g) with
  | some g => .next (if s.mirrorWriting then s else s.liveGroupFailed g mirrorBad)
  | none =>
    if s.now < s.dram.lastTrim + 2000 ∨ (bad ∧ s.mirrorWriting) then .next s
    else
      let n := beamsOf s.variant / 32
      let g := s.dram.trimPos / 2
      let live : Bool := s.dram.trimPos % 2 = 0
      let s := { s with dram := { s.dram with lastTrim := s.now, trimPos := (s.dram.trimPos + 1) % n } }
      .next (if live then (if s.cal.toldBad.contains g then s else if bad then s.liveGroupFailed g mirrorBad else s)
        else if bad || s.cal.badShadow.contains g then s.shadowGroupFailed g else s)

/-! ### Regions (R280) -/

/-- R280: the region bases, in increasing address order IDs 2 to 8 and then 1. -/
def State.setBases (s : State) : State :=
  let (s, b) := [2, 3, 4, 5, 6, 7, 8].foldl (fun (p : State × Nat) (r : Nat) =>
    (p.1.wr (Reg.DMC_REGION.base r) p.2, p.2 + p.1.rd (Reg.DMC_REGION.size r))) (s, 0)
  s.wr (Reg.DMC_REGION.base 1) b

/-- R280: units of 256 MiB in all; the last holds the training rows (R275), which the geometry spool leaves out. -/
def State.units (s : State) : Nat := if s.degraded then 192 else 256

/-- R280, R286: a change of size discards the content of every region; requests on their way stay. (log 40) -/
def State.discardDram (s : State) : State :=
  let codec := s.codec.streams.map (fun (x : DstStream) => { x with saveOut := none, checkpoint := none })
  let recs := s.check.recs.map (fun (r : RecStream) => { r with spool := [], sent := [], queue := [] })
  { s with
    dram := { s.dram with lines := [], injected := [], allocs := [] },
    codec := { s.codec with streams := codec, fwStage := [], fwFull := [] },
    check := { s.check with recs := recs, ring := [], tlogPart := [] },
    cal := { s.cal with mirror := [], badMirror := List.range (beamsOf s.variant / 64) },
    evt := { s.evt with ring := [] } }

/-- R280: a write of a region's size: only while the job is IDLE and the geometry spool keeps at least 16 units. -/
def State.writeRegion (s : State) (r size : Nat) : State :=
  let others := ([2, 3, 4, 5, 6, 7, 8].map (fun k => if k = r then size else s.rd (Reg.DMC_REGION.size k))).sum
  if r < 2 ∨ 7 < r ∨ s.jobSt ≠ jobIdle ∨ s.units < others + 16 ∨ size = s.rd (Reg.DMC_REGION.size r) then s
  else
    let s := s.wrs [(Reg.DMC_REGION.size r, size), (Reg.DMC_REGION.size 1, s.units - others)]
    s.setBases.discardDram

/-- REGION_WRITE (R280). -/
def execRegionWrite (r size : Nat) (s : State) : Host.Outcome State Fault Refusal := .next (s.writeRegion r size)

end Sys2Proof.Machine
end

