-- ==== Sys2Proof/Machine/Record.lean ====
section
/-! DEFINITION. Signatures, the as-exposed record and the record streams (ch. 3, R97 to R100; ch. 11, R313 to R323). -/

namespace Sys2Proof.Machine

/-! ### Signatures (R313 to R319) -/

/-- R314: what both signatures enter first. -/
def sigPrefix (job layer seq : Nat) : Bytes := toBE 4 job ++ toBE 3 layer ++ toBE 3 seq

/-- R314: the flag bits of a block in a final entry. -/
def flagBits (e : TickEntry) (blk : Nat) : Nat :=
  b2n (e.dk1.testBit blk) + 2 * b2n (e.rx.testBit blk) + 4 * b2n (e.unconf.testBit (blk / 16))

/-- R314: what one block of a tick enters: its 256 codes as sent, then a flag byte when a bit is set. -/
def blockInput (e : TickEntry) (blk : Nat) : Bytes :=
  let codes := if e.dk1.testBit blk then List.replicate 256 0 else (tabFind e.codes blk).getD (List.replicate 256 0)
  let f := flagBits e blk
  codes.map (BitVec.ofNat 8) ++ (if f = 0 then [] else [BitVec.ofNat 8 (0x80 + f)])

/-- R314: the running CRC-64 over one tick. -/
def feedTick (blocks : Nat) (sig : Nat) (e : TickEntry) : Nat :=
  (List.range blocks).foldl (fun sig blk => crc64Run sig (blockInput e blk)) sig

/-- The final entries of a stripe, in order of stripe ticks. -/
def State.finalEntries (s : State) (x : Stripe) : List TickEntry :=
  let es := s.check.tlogSpool.filter (fun e => e.seq = x.d.seq && !e.cal && e.launched)
  (List.range x.launched).filterMap (fun k => es.find? (fun e => e.s = k))

/-- R314: the Burgee signature over entries. -/
def burgee (v job : Nat) (x : Stripe) (es : List TickEntry) : Nat :=
  es.foldl (feedTick (blocksOf v)) (crc64Run crc64Ones (sigPrefix job x.d.layer x.d.seq)) ^^^ crc64Ones

/-- R314: flag bytes entered. -/
def flagsIn (v : Nat) (es : List TickEntry) : Nat :=
  (es.map (fun e => (List.range (blocksOf v)).countP (fun b => flagBits e b ≠ 0))).sum

/-- R318: the record value of a pixel: at its completion, or of its passes so far. -/
def State.recVal (s : State) (x : Stripe) (px y : Nat) : Nat :=
  (tabFind s.shot.vals (pixKey px y)).getD (recordValue x.lat.shift (s.emitted x px y))

/-- R319: the record signature. -/
def State.recSig (s : State) (x : Stripe) : Nat :=
  let job := s.rd Reg.GLOBAL_JOB_ID.job
  let start := crc64Run crc64Ones (sigPrefix job x.d.layer x.d.seq ++ toBE 1 x.lat.shift)
  (List.range x.d.len).foldl (fun sig y =>
    (List.range (widthOf s.variant)).foldl (fun sig px => crc64Run sig (toBE 2 (s.recVal x px y))) sig) start ^^^ crc64Ones

/-- Table 11.5: the stripe summary. -/
def State.summary (s : State) (x : Stripe) (sig rsig flags : Nat) : Bytes :=
  let flagsByte := b2n x.truncated * 128 + b2n x.recFallback * 64 + b2n (x.lat.recMode = 2) * 32 + b2n (x.lat.recMode = 0) * 16 +
    b2n (!x.fSubst.isEmpty) * 8 + b2n x.dry * 4
  let m := toBE 4 (s.rd Reg.GLOBAL_JOB_ID.job) ++ toBE 3 x.d.seq ++ toBE 1 flagsByte ++ toBE 3 x.d.layer ++ toBE 1 x.lat.shift ++
    toBE 5 x.nFirst ++ zeros 3 ++ toBE 4 x.launched ++ toBE 8 sig ++ toBE 8 rsig ++ toBE 4 (s.rd Reg.SHOT_MISSED.missed) ++
    toBE 4 (s.rd Reg.SHOT_MADEUP.made_up) ++ toBE 4 (s.rd Reg.SHOT_REPORTS.reports) ++ toBE 4 flags ++ zeros 4
  m ++ toBE 4 (crc32c m)

/-- R317: the oldest stripe over, whose launched ticks are all final, and whose signatures are still to come. -/
def State.stripeToSign (s : State) : Option Stripe :=
  s.sieve.stripes.find? (fun x => x.st = .done && x.latch.isSome && !x.sigDone && decide (0 < x.launched) &&
    (s.finalEntries x).length = x.launched)

/-- R317: latch both signatures, spool the summary, raise 0x0546. -/
def State.signStripe (s : State) (x : Stripe) : State :=
  let es := s.finalEntries x
  let sig := burgee s.variant (s.rd Reg.GLOBAL_JOB_ID.job) x es
  let rsig := if x.lat.recMode = 0 then 0 else s.recSig x
  let flags := flagsIn s.variant es
  let s := s.wrs [(Reg.CHECK_STATUS.sig_ready, 1), (Reg.CHECK_STATUS.truncated, b2n x.truncated),
    (Reg.CHECK_STATUS.fallback, b2n x.recFallback), (Reg.CHECK_STATUS.rec_off, b2n (x.lat.recMode = 0)),
    (Reg.CHECK_STATUS.seq, x.d.seq), (Reg.CHECK_BURGEE_HI.sig_hi, sig / 2 ^ 32), (Reg.CHECK_BURGEE_LO.sig_lo, sig % 2 ^ 32),
    (Reg.CHECK_RECSIG_HI.sig_hi, rsig / 2 ^ 32), (Reg.CHECK_RECSIG_LO.sig_lo, rsig % 2 ^ 32), (Reg.CHECK_TICKS.ticks, x.launched),
    (Reg.CHECK_FLAGS_IN.flags_in, flags)]
  let s := (s.flushReports x.d.seq).flushTlog x.d.seq
  let sum := s.summary x sig rsig flags
  let s := (s.spool 3 true false false (bandId x.d.seq 0) sum sum).updStripe x.d.seq (fun x => { x with sigDone := true })
  let s := { s with check := { s.check with tlogSpool := s.check.tlogSpool.filter (fun e => e.seq ≠ x.d.seq) } }
  s.raise 0x0546 [w x.d.seq]

/-- SIGNATURE_FINAL (R317). (log 72) -/
def execSignatureFinal (s : State) : Host.Outcome State Fault Refusal :=
  match s.stripeToSign with
  | none => .next s
  | some x => .next (s.signStripe x)

/-! ### Record chunks (R97, R100, R320) -/

/-- The stripe whose record values are held: the last whose ticks have begun. -/
def State.recStripe (s : State) : Option Stripe :=
  s.sieve.stripes.foldl (fun (b : Option Stripe) (x : Stripe) =>
    if x.latch.isSome ∧ 0 < x.fixed then (match b with
      | some y => if y.d.seq < x.d.seq then some x else b
      | none => some x) else b) none

/-- The pixels of a band's segment, lines and columns increasing. -/
def bandPixels (x : Stripe) (band seg : Nat) : List (Nat × Nat) :=
  (List.range (Nat.min 256 (x.d.len - 256 * band))).flatMap (fun j => (List.range 256).map (fun i => (256 * seg + i, 256 * band + j)))

/-- R97: the raw bytes of a record chunk. -/
def State.recordRaw (s : State) (x : Stripe) (band seg : Nat) : Bytes :=
  (bandPixels x band seg).flatMap (fun p => toBE 2 (s.recVal x p.1 p.2))

/-- R97: every pixel of the band's segment has completed, or the stripe was cut short. -/
def State.bandDone (s : State) (x : Stripe) (band seg : Nat) : Bool :=
  (x.truncated && x.st = .done) || (bandPixels x band seg).all (fun p => (tabFind s.shot.vals (pixKey p.1 p.2)).isSome)

/-- R97, R320: engine `seg` completes the chunk of a band of the stripe whose record values are held, in full mode. -/
def State.compressChunk (s : State) (band seg : Nat) : State :=
  match s.recStripe with
  | none => s
  | some x =>
    if x.lat.recMode ≠ 1 ∨ x.recFallback ∨ widthOf s.variant ≤ 256 * seg ∨ x.d.len ≤ 256 * band ∨
        s.check.recDone.contains (x.d.seq, 32 * band + seg) ∨ s.bandDone x band seg = false then s
    else
      let s := { s with check := { s.check with
        recDone := (x.d.seq, 32 * band + seg) :: s.check.recDone.filter (fun q => q.1 = x.d.seq) } }
      s.recordChunk x.d.seq band seg x.dynRec (s.recordRaw x band seg)

/-- RECORD_CHUNK_COMPRESS (R97): an engine completes the chunk of a band's segment. -/
def execRecordChunkCompress (band seg : Nat) (s : State) : Host.Outcome State Fault Refusal := .next (s.compressChunk band seg)

/-! ### The record streams (R322) -/

/-- CHECK_SPOOL.attached with a stream's bit. -/
def State.setAttached (s : State) (i : Nat) (on : Bool) : State :=
  let m := s.rd Reg.CHECK_SPOOL.attached
  s.wr Reg.CHECK_SPOOL.attached (if on then withBit m i else withoutBit m i)

/-- R322: attach: the stream is opened with a SYNC and resumes from its oldest unacknowledged chunk. -/
def State.attachRec (s : State) (i : Nat) (src : Src) : State :=
  let r := s.recStream i
  let m := dstBytes ⟨4, i, 0, r.nextSeq, 0, s.rd Reg.GLOBAL_JOB_ID.job, 0, s.ns % 2 ^ 32, toBE 1 (0x81 + i) ++ zeros 3⟩
  let s := (s.sendUdp 47102 src m).setRecStream i { r with
    peer := some src, ackA := r.nextSeq, nextSeq := (r.nextSeq + 1) % 2 ^ 32, window := 128,
    sent := [(r.nextSeq, s.now, m, false)], queue := r.spool.flatMap (fun c => segmentsOf 200 true c.bytes), lastAck := s.now }
  (s.setAttached i true).pumpRec i 128

/-- A sequence that an ACK or NAK acknowledges (R43). -/
def ackedBy (a bits seq : Nat) : Bool := serialBefore 32 seq a || (decide (serialDiff 32 a seq < 128) && bits.testBit (serialDiff 32 a seq))

/-- R322: what an ACK or NAK acknowledges: chunks whose last segment lies before A leave the spool; a segment acknowledged
beyond A is kept without its bytes until A passes it. -/
def State.ackRec (s : State) (i a win bits : Nat) : State :=
  let r := s.recStream i
  let news := r.sent.any (fun e => !e.2.2.1.isEmpty && ackedBy a bits e.1)
  let gone := (r.sent.filter (fun e => serialBefore 32 e.1 a && e.2.2.2)).length
  let sent := (r.sent.filter (fun e => !serialBefore 32 e.1 a)).map (fun e =>
    if ackedBy a bits e.1 then (e.1, e.2.1, [], e.2.2.2) else e)
  let s := if i = 2 then s.ringAcked (r.spool.take gone) else s
  let s := s.setRecStream i { r with
    sent := sent, spool := r.spool.drop gone, ackA := if serialBefore 32 r.ackA a then a else r.ackA, window := win,
    lastAck := if news then s.now else r.lastAck }
  s.pumpRec i 128

/-- R49: resend the segments that p selects. -/
def State.resendRec (s : State) (i : Nat) (p : Nat → Nat → Bool) : State :=
  let r := s.recStream i
  match r.peer with
  | none => s
  | some dest =>
    let sel (e : Nat × Nat × Bytes × Bool) : Bool := !e.2.2.1.isEmpty && p e.1 e.2.1
    let now := s.now
    let s := (r.sent.filter sel).foldl (fun (s : State) (e : Nat × Nat × Bytes × Bool) => s.sendUdp 47102 dest e.2.2.1) s
    s.setRecStream i { r with sent := r.sent.map (fun e => if sel e then (e.1, now, e.2.2.1, e.2.2.2) else e) }

/-- A datagram to port 47102 of ETH0 or ETH1: the segment it carries, when it is well formed (R44). -/
def State.rxRecord (s : State) (src : Src) (b : Bytes) : State × Option DstSeg :=
  let (s, ok) := s.rxHost src b.length
  if !ok then (s, none)
  else
    match parseDst jobTypes b with
    | .unknown => (s, none)
    | .malformed => (s.inc (Reg.PORT_DST_DROP.crc_drops src.iface), none)
    | .seg g => (s, if g.stream < 4 then some g else none)

/-- RECORD_STREAM_ACK (R322): an ACK with A = 0 and window 128 attaches; any other acknowledges. -/
def execRecordStreamAck (src : Src) (b : Bytes) (s : State) : Host.Outcome State Fault Refusal :=
  let (s, g) := s.rxRecord src b
  .next (match g with
    | none => s
    | some g =>
      if g.typ ≠ 2 then s
      else if g.ackLen = 0 ∧ g.window = 128 then s.attachRec g.stream src
      else if (s.recStream g.stream).peer = some src then s.ackRec g.stream g.ackLen g.window (leNat g.payload)
      else s)

/-- RECORD_STREAM_NAK (R49, R322): the missing segments up to the highest one received are sent again. -/
def execRecordStreamNak (src : Src) (b : Bytes) (s : State) : Host.Outcome State Fault Refusal :=
  let (s, g) := s.rxRecord src b
  .next (match g with
    | none => s
    | some g =>
      if g.typ ≠ 3 ∨ (s.recStream g.stream).peer ≠ some src then s
      else
        let bits := leNat g.payload
        let high := (setBits bits 128).foldl Nat.max 0
        (s.ackRec g.stream g.ackLen g.window bits).resendRec g.stream (fun q _ =>
          decide (serialDiff 32 g.ackLen q ≤ high) && !bits.testBit (serialDiff 32 g.ackLen q)))

/-- RECORD_RESEND_TIMEOUT (R322): segments unacknowledged for 1,000 µs. -/
def execRecordResendTimeout (i : Nat) (s : State) : Host.Outcome State Fault Refusal :=
  let now := s.now
  .next (s.resendRec i (fun _ t => decide (t + 1000000 ≤ now)))

/-- RECORD_STREAM_IDLE_TIMEOUT (R322): 100 ms with segments outstanding and none acknowledged. -/
def execRecordStreamIdleTimeout (i : Nat) (s : State) : Host.Outcome State Fault Refusal :=
  let r := s.recStream i
  if r.peer.isNone ∨ r.sent.all (fun e => e.2.2.1.isEmpty) ∨ s.now < r.lastAck + 100000000 then .next s
  else
    let s := s.setRecStream i { r with peer := none, sent := [], queue := [] }
    .next ((s.setAttached i false).raise 0x0545 [w i])

end Sys2Proof.Machine
end

