-- ==== Sys2Proof/Machine/Context.lean ====
section
/-! DEFINITION. Context images: the bytes of a saved decoder context, and the chunk that carries one (ch. 3, R91, R94, R95). -/

namespace Sys2Proof.Machine

/-! ### The image (R91, Table 3.5) -/

/-- Table 3.5: the phase codes. -/
def phaseCode : DecPhase → Nat
  | .between => 0 | .header => 1 | .blockHdr => 2 | .dynHdr => 3 | .stored => 4 | .coded => 5 | .matchCopy => 6 | .finished => 7

/-- The phase of a code. -/
def phaseOf (n : Nat) : Option DecPhase :=
  [DecPhase.between, .header, .blockHdr, .dynHdr, .stored, .coded, .matchCopy, .finished][n]?

/-- Table 3.5: 288 literal/length and 32 distance code lengths, two to a byte. -/
def lensBytes (c : Ctx) : Bytes :=
  let at_ (i : Nat) : Nat := if i < 288 then (if i < c.hlit then c.lens.getD i 0 else 0) else c.lens.getD (c.hlit + (i - 288)) 0
  (List.range 160).map (fun k => BitVec.ofNat 8 (at_ (2 * k) * 16 + at_ (2 * k + 1)))

/-- Code lengths read so far, from their two tables. -/
def lensFrom (b : Bytes) (count hlit : Nat) : List Nat :=
  let at_ (i : Nat) : Nat := if i % 2 = 0 then byteAt b (81 + i / 2) / 16 else byteAt b (81 + i / 2) % 16
  (List.range count).map (fun i => if i < hlit then at_ i else at_ (288 + (i - hlit)))

/-- Table 3.5: 19 code-length-code lengths of 3 bits from bit 63 down. -/
def clWord (c : Ctx) : Nat := ((List.range 19).map (fun i => c.clLens.getD i 0 * 2 ^ (61 - 3 * i))).sum

/-- Table 3.5 has no place for how many code-length-code lengths are read: an image taken among them holds them as unconsumed bits
(R89). -/
def unread (c : Ctx) : Ctx :=
  if c.phase = .dynHdr ∧ c.clLens.length < c.hclen then
    { c with
      clLens := [], bitCount := c.bitCount + 3 * c.clLens.length
      bitBuf := c.clLens.foldr (fun l v => l + 8 * v) c.bitBuf }
  else c

/-- Table 3.5: the state area but for its CRC. -/
def stateArea (i : Nat) (c : Ctx) : Bytes :=
  let flags := b2n c.bfinal + 2 * b2n c.dynBlk + 4 * b2n c.histAvail + 8 * b2n c.rawCopy
  padTo 1020 (toBE 4 0x43585431 ++ toBE 1 i ++ toBE 1 (phaseCode c.phase) ++ toBE 1 flags ++ toBE 1 c.bitCount ++ toBE 8 c.bitBuf ++
    toBE 4 c.nextSeq ++ toBE 4 c.hist.length ++ toBE 4 c.chunkOut ++ toBE 4 c.chunkIn ++ toBE 4 c.crcRun ++ toBE 2 c.pendLen ++
    toBE 2 c.pendDist ++ toBE 2 c.storedLeft ++ toBE 2 c.lens.length ++ toBE 2 c.hlit ++ toBE 1 c.hdist ++ toBE 1 c.hclen ++
    padTo 32 c.dcfHdr ++ toBE 1 c.dcfHdr.length ++ lensBytes c ++ toBE 8 (clWord c))

/-- R91: the history, oldest byte first; the bytes beyond its fill are free (log 11). -/
def histArea (c : Ctx) : Bytes :=
  c.hist.reverse ++ (Config.imagePrivate c.hist ++ zeros 32768).take (32768 - c.hist.length)

/-- R91: the image of a context. -/
def contextImage (i : Nat) (c : Ctx) : Bytes :=
  let b := histArea c ++ stateArea i (unread c)
  b ++ toBE 4 (crc32c b)

/-- The code-length-code lengths of an image: none while all of them are 0, which no code has. -/
def clLensFrom (b : Bytes) : List Nat :=
  let cl := (List.range (byteAt b 47)).map (fun k => bitsOf (beAt b 241 8) (61 - 3 * k) 3)
  if cl.all (fun l => l = 0) then [] else cl

/-- R95: the context an image holds; none when its crc, magic or stream is wrong. -/
def parseImage (i : Nat) (img : Bytes) : Option Ctx :=
  let b := img.drop 32768
  let n := beAt b 42 2
  let hlit := beAt b 44 2
  if img.length ≠ 33792 ∨ beAt b 1020 4 ≠ crc32c (img.take 33788) ∨ beAt b 0 4 ≠ 0x43585431 ∨ byteAt b 4 ≠ i then none
  else (phaseOf (byteAt b 5)).map (fun ph =>
    { phase := ph, bfinal := (byteAt b 6).testBit 0, dynBlk := (byteAt b 6).testBit 1, histAvail := (byteAt b 6).testBit 2,
      rawCopy := (byteAt b 6).testBit 3, bitBuf := beAt b 8 8, bitCount := byteAt b 7, nextSeq := beAt b 16 4,
      hist := (img.take (beAt b 20 4)).reverse, chunkOut := beAt b 24 4, chunkIn := beAt b 28 4, crcRun := beAt b 32 4,
      pendLen := beAt b 36 2, pendDist := beAt b 38 2, storedLeft := beAt b 40 2, hlit := hlit, hdist := byteAt b 46,
      hclen := byteAt b 47, dcfHdr := (sub b 48 32).take (byteAt b 80),
      clLens := clLensFrom b, lens := lensFrom b n hlit, staged := [] })

/-! ### The chunk (R94, R95) -/

/-- R94: the type 0x07 chunk of an image: fixed effort, hist_reset, final, raw when compression does not help. -/
def imageChunk (i bid : Nat) (img : Bytes) : Bytes :=
  let h : DcfHdr :=
    { magic := 0x44434631, seq := 0, stream := i, typ := 7, final := true, histReset := true, dyn := false, fixed := true, raw := false,
      rawSize := img.length, compSize := 0, bandId := bid, crc := crc32c img, reservedOk := true }
  let (h, payload) := engineChunk h false img
  dcfBytes h ++ payload

/-- R95: the image a type 0x07 chunk carries, when its envelope and crc hold. -/
def unpackChunk (b : Bytes) : Option Bytes :=
  let h := parseDcf b
  if b.length < 32 ∨ h.typ ≠ 7 ∨ envelopeOk h h.stream h.seq = false ∨ b.length ≠ 32 + h.compSize then none
  else
    match unpackPayload h (b.drop 32) with
    | none => none
    | some img => if crc32c img = h.crc then some img else none

/-- R94, R358: a save slot that holds a chunk. -/
def chunkSlot (chunk : Bytes) (staged : Bytes) : SaveSlot := ⟨chunk, staged, true⟩

end Sys2Proof.Machine
end

