-- ==== Sys2Proof/Machine/Pair.lean ====
section
/-! DEFINITION. Active and standby pairs: grant and HALYARD, the pair link, shadow operation, takeover and revert (ch. 13). -/

namespace Sys2Proof.Machine

/-! ### Health, grant and HALYARD (R345 to R350) -/

/-- R350: what keeps the heartbeat running. -/
def State.healthy (s : State) : Bool :=
  s.rd Reg.RCU_PHASE.phase = 8 && s.rd Reg.DMC_STATUS.sc_failed = 0 && s.rd Reg.PWR_THERM.warning = 0 && !s.power.hbStale &&
    s.power.sources.isEmpty

/-- R347, Table 14.11: every lane goes to electrical idle, BLANK_ALL_N falls, then HALYARD_OUT. -/
def State.dropHalyard (s : State) : State :=
  let s := (List.range (lanesOf s.variant)).foldl (fun s t => s.disableLane t) s
  { s with power := { s.power with blankHigh := false } }.wr Reg.PAIR_STATUS.halyard_out 0

/-- R219, R362: every enabled lane starts its bring-up. -/
def State.startLanes (s : State) : State := (List.range (lanesOf s.variant)).foldl (fun s t => s.startLane t) s

/-- R347: HALYARD_OUT rises when the request stands and the grant is asserted. -/
def State.gate (s : State) : State :=
  if s.pair.request ∧ s.rd Reg.PAIR_STATUS.grant = 1 ∧ s.rd Reg.PAIR_STATUS.halyard_out = 0 then
    (s.wr Reg.PAIR_STATUS.halyard_out 1).startLanes
  else s

/-- R347, R348: the module requests the active role; the request stands only when HALYARD_IN is low as it rises. -/
def State.requestRole (s : State) : State :=
  if s.rd Reg.PAIR_STATUS.halyard_in = 1 ∨ s.pair.lockout then s
  else ({ s with pair := { s.pair with request := true } }).gate

/-- R315, R363: the stripe in progress ends here, cut short. -/
def State.truncate (s : State) (seq : Nat) : State :=
  (s.updStripe seq (fun x => { x with st := .done, truncated := true })).wr Reg.SHOT_STRIPE.running 0

/-- The module loses the active role (R347, Table 13.5): a stripe in progress runs on with its lanes idle. (log 36) -/
def State.loseRole (s : State) : State :=
  let runs := s.current.isSome
  let pair := s.role ≠ roleSolo
  let s := s.dropHalyard
  if pair then
    ({ s with pair := { s.pair with request := false, resumable := false, runsOn := runs, protectFrom := none, handover := none, revertGot := false } }).wrs
      [(Reg.PAIR_STATUS.role, roleStandby), (Reg.PAIR_STATUS.unprotected, 0), (Reg.PAIR_STATUS.revert_pending, 0)]
  else s

/-! ### Takeover (R356, R362 to R366) -/

/-- R358: at takeover the mirrored images become the checkpoints of their streams. -/
def State.takeImages (s : State) : State :=
  s.pair.ctx.foldl (fun (s : State) (e : Nat × Bytes) =>
    s.updStream e.1 (fun x => { x with checkpoint := some (chunkSlot e.2 []) })) s

/-- R365: a stripe armed whose first tick has not come returns to the queue. -/
def unarm (x : Stripe) : Stripe := if x.st = .armed then { x with st := .admitted, latch := none, firstTick := none } else x

/-- R362 step 1: the module becomes active, without a synced partner unprotected (R359). -/
def State.takeOver (s : State) : State :=
  let runs := s.pair.runsOn
  let hit := if runs then none else s.sieve.stripes.find? (fun x => x.st = .exposing)
  let epoch := (Nat.max (s.rd Reg.PAIR_STATUS.epoch) s.pair.partnerEpoch + 1) % 65536
  let reverts := s.pair.revertAsked
  let s := { s with
    pair := { s.pair with
      resumable := s.pair.resumable || s.rd Reg.PAIR_STATUS.synced = 1
      request := true, runsOn := false, takeover := hit.map (fun (x : Stripe) => x.d.seq), revertAsked := false, refusedAt := none, copied := false,
      trimHeld := false, store := if runs then s.pair.store else [], resending := none, mirrorDown := false, handover := none, revertGot := false,
      waiting := [] }
    sieve := { s.sieve with stripes := if runs then s.sieve.stripes else s.sieve.stripes.map unarm } }
  let lanes := List.range (lanesOf s.variant)
  let s := lanes.foldl (fun s t => s.updLane t (fun l => { l with lastStatus := none })) s
  let s := s.wrs [(Reg.PAIR_STATUS.role, roleActive), (Reg.PAIR_STATUS.epoch, epoch), (Reg.PAIR_STATUS.revert_pending, 0),
    (Reg.PAIR_STATUS.synced, 0), (Reg.PAIR_TAKEOVER.ready, 0), (Reg.PAIR_TAKEOVER.abandoned, 0)]
  let s := match s.pair.takeover with
    | some q => s.wr Reg.PAIR_TAKEOVER_SEQ.seq q
    | none => s
  let s : State := (s.takeImages.gate).raise 0x0708 [w epoch]
  let s := if s.rd Reg.PAIR_STATUS.link_up = 1 ∧ s.pair.partnerSynced then s else s.unprotect s.lastTick whyNotSynced
  if reverts ∧ hit.isNone then s.raise 0x070B [w epoch] else s

/-- GRANT_ASSERT (R347, R362, R370): ARB_GRANT_N asserted for 100 ns or more, HALYARD_IN at the level given. -/
def execGrantAssert (inHigh : Bool) (s : State) : Host.Outcome State Fault Refusal :=
  let s := s.wrs [(Reg.PAIR_STATUS.grant, 1), (Reg.PAIR_STATUS.halyard_in, b2n inHigh)]
  if s.role = roleSolo then .next s.gate
  else if s.role = roleActive ∨ s.pair.lockout then .next s
  else if inHigh then .next { s with pair := { s.pair with refusedAt := some s.now } }
  else if s.healthy = false then .next s
  else .next s.takeOver

/-- GRANT_REMOVE (R347, R370). -/
def execGrantRemove (s : State) : Host.Outcome State Fault Refusal :=
  let held := s.holdsLanes
  let active := s.role = roleActive
  let s := ({ s with pair := { s.pair with lockout := false, refusedAt := none } }).wr Reg.PAIR_STATUS.grant 0
  if !held then .next s
  else
    let s := s.loseRole
    .next (if active then s.raise 0x0706 [w s.seqNow, wd s.lastTick] else s)

/-- HALYARD_IN_RISE (R370): with HALYARD_OUT high both modules drop their lanes and HALYARD. -/
def execHalyardInRise (s : State) : Host.Outcome State Fault Refusal :=
  let held := s.holdsLanes
  let s := s.wr Reg.PAIR_STATUS.halyard_in 1
  if !held then .next s
  else
    let s := s.loseRole
    let s := { s with pair := { s.pair with request := false, lockout := true } }
    .next (s.raise 0x0707 [w 1, w (s.rd Reg.PAIR_STATUS.grant)])

/-- ROLE_REFUSED_TIMEOUT (R362): 1,000 µs after a grant that found HALYARD_IN high. -/
def execRoleRefusedTimeout (s : State) : Host.Outcome State Fault Refusal :=
  match s.pair.refusedAt with
  | none => .next s
  | some t =>
    if s.now < t + 1000000 then .next s
    else .next (({ s with pair := { s.pair with refusedAt := none } }).raise 0x0707
      [w (s.rd Reg.PAIR_STATUS.halyard_in), w (s.rd Reg.PAIR_STATUS.grant)])

/-- R362 step 2: every enabled lane has reported, or has FAILED. -/
def State.lanesReported (s : State) : Bool :=
  (s.lanesWhere (fun t => s.rd (Reg.LANE_CTRL.enable t) = 1)).all (fun t =>
    s.laneSt t = lnFailed || (s.laneSt t = lnActive && (s.lane t).lastStatus.isSome))

/-- R196: tick and bitmaps of a lane's STATUS, none when no tick has been settled. -/
def State.settledOn (s : State) (t : Nat) : Option (Nat × Nat × Nat × Nat) :=
  match (s.lane t).lastStatus with
  | some (n, b0, b1, b2, f) => if f.testBit 5 then none else some (n, b0, b1, b2)
  | none => none

/-- What a lane's STATUS says of a tick: not reached (later than it), its receiver-blanked bitmap, or nothing. -/
inductive TickFate where
  | notReached
  | blanked (bits : Nat)
  | unseen
deriving DecidableEq, Repr

/-- R363: the fate of tick n on a lane; a lane that has not reported shows nothing. -/
def State.fateOf (s : State) (t n : Nat) : TickFate :=
  match s.settledOn t with
  | none => if (s.lane t).lastStatus.isNone then .unseen else .notReached
  | some (m, b0, b1, b2) =>
    if m < n then .notReached
    else if n = m then .blanked b0
    else if n + 1 = m then .blanked b1
    else if n + 2 = m then .blanked b2
    else .unseen

/-- R363: the resume tick of a stripe. -/
def State.resumeTick (s : State) (x : Stripe) : Nat :=
  (s.lanesWhere (fun t => s.laneSt t = lnActive)).foldl (fun m t =>
    match s.settledOn t with
    | some (n, _) => if x.nFirst ≤ n then Nat.max m (n - x.nFirst + 1) else m
    | none => m) 0

/-- R363: a tick whose TLOG_FIX was committed is settled on one lane. -/
def State.settleLane (s : State) (e : TickEntry) (t : Nat) : State :=
  match s.fateOf t e.n with
  | .notReached => ((List.range 16).foldl (fun s j => s.receiverBlanked e [] (16 * t + j)) s).resolve e.n t
  | .blanked bits => ((List.range 16).foldl (fun (s : State) (j : Nat) =>
      if bits.testBit j then s.receiverBlanked e [] (16 * t + j) else s) s).resolve e.n t
  | .unseen => s.unconfirmed e [] t

/-- R363: a tick of which the standby has no TLOG_FIX: on every lane that shows a block applied, or cannot show it, the
block's fate is unknown. Its offset is not stated and is free (log 3). -/
def State.settleUnknown (s : State) (x : Stripe) (tick : Nat) : State :=
  let n := x.nFirst + tick
  let e0 := newTick n x.d.seq tick (tickTime x tick) x.d.tau
  let offs : Nat → Int := fun k => clampInt (-127) 127 (signedOf 8 (Config.freeNat k % 256))
  let bits := (List.range (lanesOf s.variant)).foldl (fun (m : Nat × Nat) t =>
    match s.fateOf t n with
    | .notReached => (m.1, m.2 ||| laneBits t)
    | .blanked b => (m.1 ||| ((0xFFFF ^^^ b % 65536) <<< (16 * t)), m.2 ||| ((b % 65536) <<< (16 * t)))
    | .unseen => (m.1 ||| laneBits t, m.2)) (0, 0)
  let e := { e0 with
    dx := offs s.freeCnt, dy := offs (s.freeCnt + 1), rx := bits.2, unknown := bits.1, computed := true, launched := true,
    tickSent := true, posComp := x.lat.posComp }
  let s := s.bumpFree.bumpFree.pushTick e
  let s := (setBits bits.1 (blocksOf s.variant)).foldl (fun (s : State) (blk : Nat) =>
    match blockLineAt s.variant x.d tick blk with
    | none => s
    | some y => (blockPixels s.variant blk).foldl (fun s px => s.addLoss x px y 0 rUnknown) s) s
  (List.range (lanesOf s.variant)).foldl (fun s t => s.resolve n t) s

/-- R363: a tick that no receiver applied is undone, to be computed again. -/
def State.undoTick (s : State) (x : Stripe) (tick : Nat) : State :=
  match s.tickAt x.d.seq tick with
  | none => s
  | some e =>
    let s := if e.computed then (List.range (blocksOf s.variant)).foldl (fun (s : State) (blk : Nat) =>
        if e.dk1.testBit blk then
          s.wr Reg.SHOT_MISSED.missed (s.rd Reg.SHOT_MISSED.missed - (livePixels s.variant x tick blk).length)
        else s.restoreBlock x e [] blk) s else s
    { s with shot := { s.shot with tlog := s.shot.tlog.filter (fun y => y.n ≠ e.n) } }

/-- R363: settle the interrupted stripe up to the resume tick, and undo what lies beyond it. -/
def State.settleStripe (s : State) (x : Stripe) (resume : Nat) : State :=
  let seen := (s.pair.lastFix.bind (fun p => if p.1 = x.d.seq then some (p.2 + 1) else none)).getD 0
  let s := (List.range (seen - resume)).reverse.foldl (fun s k => s.undoTick x (resume + k)) s
  let s := (List.range (Nat.min seen resume)).foldl (fun (s : State) (k : Nat) =>
    match s.tickAt x.d.seq k with
    | none => s
    | some e =>
      if e.final then s
      else
        let s := s.updTick e.n (fun e => { e with launched := true, tickSent := true })
        (s.lanesWhere (fun t => !e.resolved.testBit t)).foldl (fun s t => s.settleLane e t) s) s
  (List.range (resume - seen)).foldl (fun s k => s.settleUnknown x (seen + k)) s

/-- R364: the interrupted stripe is abandoned; the job goes on from a turnaround. (log 37) -/
def State.abandonTakeover (s : State) (x : Stripe) : State :=
  let (ya, yb) := wrongLines x.d ((s.resumeTick x : Int) - 1)
  let s := (s.truncate x.d.seq).wr Reg.PAIR_TAKEOVER.abandoned 1
  let s := { s with pair := { s.pair with takeover := none }, trig := { s.trig with dwellEnd := s.ns, endedStripe := some x.d.seq } }
  let s := s.raise 0x070F [w x.d.seq, w (toField 32 ya), w (toField 32 yb)]
  if s.jobSt = jobExposing then s.setJob false jobTurnaround else s

/-- R362 steps 3 to 5. The interrupted stripe waits to be armed again (R365, log 84). -/
def State.settleTakeover (s : State) (x : Stripe) : State :=
  let resume := s.resumeTick x
  let s := s.settleStripe x resume
  let s := s.updStripe x.d.seq (fun x => { x with st := .admitted, fixed := resume, computed := resume, launched := resume })
  let s := { s with job := { s.job with nextTick := x.nFirst + resume } }
  (s.wrs [(Reg.PAIR_TAKEOVER.s_resume, resume), (Reg.PAIR_TAKEOVER.ready, 1)]).raise 0x0709 [w x.d.seq, w resume]

/-- TAKEOVER_SETTLE (R362 to R364). (log 37) -/
def execTakeoverSettle (s : State) : Host.Outcome State Fault Refusal :=
  match s.pair.takeover.bind s.stripe with
  | none => .next s
  | some x =>
    if s.rd Reg.PAIR_TAKEOVER.ready = 1 ∨ s.lanesReported = false then .next s
    else .next (if s.pair.resumable then s.settleTakeover x else s.abandonTakeover x)

/-! ### The link (R352, R353, R360) -/

/-- Reasons of 0x0702 beside those of Mirror.lean, numbered by the model (log 20). -/
abbrev downLock : Nat := 1
abbrev downSilent : Nat := 2
abbrev downVariant : Nat := 4

/-- R353: a HELLO now. -/
def State.helloNow (s : State) : PairBody :=
  .hello s.variant (s.rd Reg.GLOBAL_REV.fw_rev) (s.rd Reg.PAIR_CTRL.pref_active = 1) s.healthy (s.rd Reg.PAIR_STATUS.synced = 1) s.role
    (s.rd Reg.GLOBAL_JOB_ID.job) (if s.role = roleActive then s.rd Reg.PAIR_GEN_ACK.gen else s.pair.committed)

/-- HELLO_SEND (R353): every 10 µs in a pair. -/
def execHelloSend (s : State) : Host.Outcome State Fault Refusal :=
  if s.role = roleSolo ∨ s.now < s.pair.lastHello + 10000 then .next s
  else .next (({ s with pair := { s.pair with lastHello := s.now } }).pairSend 0 s.helloNow)

/-- R353, R368, R370: the link goes down. -/
def State.linkDown (s : State) (reason : Nat) : State :=
  let s := { s with pair := { s.pair with
    resumable := s.pair.resumable || s.rd Reg.PAIR_STATUS.synced = 1, trimHeld := false
    hello := false, revertAsked := false, revertGot := false, copied := false, partnerSynced := false } }
  if s.rd Reg.PAIR_STATUS.link_up = 0 then s
  else
    let s := (s.wrs [(Reg.PAIR_STATUS.link_up, 0), (Reg.PAIR_STATUS.synced, 0), (Reg.PAIR_STATUS.revert_pending, 0),
      (Reg.PAIR_HOLD_CNT.stripes, 0)]).raise 0x0702 [w reason]
    s.unprotect s.lastTick whyLinkDown

/-- PAIR_LINK_TIMEOUT (R353): 50 µs without a good frame. -/
def execPairLinkTimeout (s : State) : Host.Outcome State Fault Refusal :=
  if s.rd Reg.PAIR_STATUS.link_up = 0 ∨ s.now < s.pair.lastGood + 50000 then .next s else .next (s.linkDown downSilent)

/-- PAIR_LINK_BLOCK_LOCK_LOSS (R353). -/
def execPairLinkBlockLockLoss (s : State) : Host.Outcome State Fault Refusal :=
  .next (({ s with pair := { s.pair with lock := false } }).linkDown downLock)

/-- R352, R356: the bytes of a frame arrive, and a sound frame is handed on. A solo module has no pair link. -/
def State.rxPair (s : State) (b : Bytes) (go : State → PairFrame → State) : State :=
  if s.role = roleSolo then s
  else
    match parsePair b with
    | none => s.inc Reg.PAIR_ERR.bad_frames
    | some f => go { s with pair := { s.pair with lastGood := s.now, lock := true, partnerEpoch := f.epoch } } f

/-- R367: the live bank and the density maps of the layers kept go to the partner. -/
def State.sendCopies (s : State) : State :=
  let s := (List.range (beamsOf s.variant / 1024)).foldl (fun s i =>
    s.pairSend 0 (.syncTrim (1024 * i) ((List.range 1024).map (fun k => trimAt s.cal.live (1024 * i + k))))) s
  let s := s.sieve.stripes.foldl (fun (s : State) (x : Stripe) => x.dens.foldl (fun (s : State) (r : Nat × List Nat) =>
    s.pairSend x.d.seq (.syncDens x.d.seq x.d.layer x.d.slot x.d.yOrigin x.d.dir x.d.lenM1 r.1 r.2)) s) s
  { s with pair := { s.pair with copied := true } }

/-- R354, R355: the generations start anew at link bring-up: the active goes on from the later of its own last commit and
the partner's, the standby from the active's. (log 38) -/
def State.alignGen (s : State) (role lastGen : Nat) : State :=
  if s.role = roleActive then
    if serialBefore 32 (s.rd Reg.PAIR_GEN_ACK.gen) lastGen then
      let s := s.wr Reg.PAIR_GEN_ACK.gen lastGen
      let s := { s with pair := { s.pair with store := s.pair.store.filter (fun f => serialBefore 32 lastGen f.1) } }
      if serialBefore 32 (s.rd Reg.PAIR_GEN_TX.gen) lastGen then s.wr Reg.PAIR_GEN_TX.gen lastGen else s
    else s
  else if role = roleActive ∧ serialBefore 32 s.pair.committed lastGen then
    { s with pair := { s.pair with committed := lastGen, waiting := s.pair.waiting.filter (fun f => serialBefore 32 lastGen f.gen) } }
  else s

/-- R360: the active probes the round trip with a mirrored frame. -/
def State.probe (s : State) : State :=
  if s.role ≠ roleActive then s
  else ({ s with pair := { s.pair with probeAt := some s.ps } }).mirrorPointers 0

/-- R353: the link comes up, with block lock and a HELLO accepted here (log 96). (log 35) -/
def State.linkUp (s : State) (variant fw : Nat) : State :=
  if s.rd Reg.PAIR_STATUS.link_up = 1 then s
  else
    let s := { s with pair := { s.pair with hello := true, mirrorDown := false, resumable := s.pair.resumable && s.role = roleActive } }
    ((s.wr Reg.PAIR_STATUS.link_up 1).raise 0x0701 [w variant, w fw]).probe

/-- R369: a revert asked of the active is withdrawn, unless HANDOVER has been sent. -/
def State.dropRevert (s : State) : State :=
  if s.pair.revertGot = false ∨ s.pair.handover.isSome then s
  else ({ s with pair := { s.pair with revertGot := false } }).wr Reg.PAIR_STATUS.revert_pending 0

/-- R359, R361, R367, R370: what the active does with the state of its partner. -/
def State.judgePartner (s : State) (healthy synced was : Bool) : State :=
  if s.role ≠ roleActive then s
  else
    let s := if !healthy then (s.unprotect s.lastTick whyPartner).dropRevert else s
    let s := if was && !synced then
        match s.current with
        | some x => ((s.unprotect s.lastTick whyAdmission).raiseFor x.d.seq 0x070C [w x.d.seq])
        | none => s
      else s
    let s := if synced then s else s.unprotect s.lastTick whyNotSynced
    if !synced && !s.pair.copied then s.sendCopies else s

/-- R3: a partner of the other variant: the link is refused and the module is solo. From P6 on, a solo module asks for the
lanes (R348, log 51). -/
def State.refusePartner (s : State) (variant : Nat) : State :=
  let s := ((s.linkDown downVariant).raise 0x0703 [w variant]).wr Reg.PAIR_STATUS.role roleSolo
  if s.rd Reg.RCU_PHASE.phase < 6 then s else s.requestRole

/-- R3, R353, R356, R359, R367: what a HELLO does. -/
def State.onHello (s : State) (f : PairFrame) : State :=
  match f.body with
  | .hello variant fw _ healthy synced role _ lastGen =>
    let s := s.wrs [(Reg.PAIR_PARTNER.fw_rev, fw), (Reg.PAIR_PARTNER.healthy, b2n healthy), (Reg.PAIR_PARTNER.variant, variant)]
    if variant ≠ s.variant then s.refusePartner variant
    else
      let was := s.pair.partnerSynced
      let s := { s with pair := { s.pair with partnerSynced := synced, partnerRole := role } }
      let s := if s.rd Reg.PAIR_STATUS.epoch < f.epoch then s.wr Reg.PAIR_STATUS.epoch f.epoch else s
      let s := ((s.alignGen role lastGen).linkUp variant fw).judgePartner healthy synced was
      match s.current with
      | some x => if role = roleActive ∧ s.pair.runsOn then
          { s.truncate x.d.seq with pair := { s.pair with runsOn := false } } else s
      | none => s
  | _ => s

/-- HELLO_RECEIVE (R3, R353, R356, R359, R367). -/
def execHelloReceive (b : Bytes) (s : State) : Host.Outcome State Fault Refusal := .next (s.rxPair b State.onHello)

/-! ### Mirrored frames at the standby (R354, R357) -/

/-- Table 9.6: the entry that the first 152 bytes of a tick log entry describe. -/
def parseFix (b : Bytes) (time tau : Nat) : TickEntry :=
  let f := beAt b 8 4
  { newTick (beAt b 0 5) (beAt b 5 3) (f % 2 ^ 25) time tau with
    excursion := f.testBit 31, coast := f.testBit 30, gapBlank := f.testBit 29, fault := f.testBit 28, cal := f.testBit 27,
    posComp := f.testBit 25, dx := signedOf 8 (beAt b 12 1), dy := signedOf 8 (beAt b 13 1), rseq := beAt b 14 2,
    unconf := beAt b 16 8, dk1 := (List.range 64).foldl (fun m t => m + beAt b (24 + 2 * t) 2 * 2 ^ (16 * t)) 0 }

/-- R357, R367: the standby is synchronised from the first tick of a stripe it has taken and armed, holding the trim bank. -/
def State.judgeSync (s : State) (x : Stripe) : State :=
  if s.rd Reg.PAIR_STATUS.synced = 1 ∨ ¬ s.pair.trimHeld ∨ s.rd Reg.PAIR_STATUS.link_up = 0 then s
  else
    (({ s with pair := { s.pair with syncFrom := some x.d.seq } }).wr Reg.PAIR_STATUS.synced 1).raise 0x070D [w x.d.seq]

/-- R367: a standby that has missed a TLOG_FIX of a stripe is no longer synchronised, and what else it has missed is open. -/
def State.gapSync (s : State) (x : Stripe) (tick : Nat) : State :=
  if tick = x.fixed ∨ s.rd Reg.PAIR_STATUS.synced = 0 then s
  else ({ s with pair := { s.pair with syncFrom := none, trimHeld := false } }).wrs [(Reg.PAIR_STATUS.synced, 0), (Reg.PAIR_HOLD_CNT.stripes, 0)]

/-- R357: TLOG_FIX of a tick is committed. -/
def State.shadowFix (s : State) (b : Bytes) : State :=
  let seq := beAt b 5 3
  let tick := beAt b 8 4 % 2 ^ 25
  let isCal := (beAt b 8 4).testBit 27
  match (if isCal then none else s.stripe seq) with
  | none =>
    let e := parseFix b s.ns 0
    { s.pushTick { e with computed := true } with job := { s.job with nextTick := e.n + 1 } }
  | some x =>
    let e := parseFix b (tickTime x tick) x.d.tau
    let s := { s with job := { s.job with nextTick := e.n + 1 }, pair := { s.pair with lastFix := some (seq, tick) } }
    if x.latch.isNone then s.pushTick { e with computed := true }
    else
      let s := if tick = 0 then (s.startStripeRegs.judgeSync x).tellDead x else s.gapSync x tick
      (s.pushTick e).updStripe seq (fun x => { x with
        st := .exposing, fixed := tick + 1, nFirst := if tick = 0 then e.n else x.nFirst })

/-- R357: what TLOG_FINAL says of one lane is applied through the undo ring as R166, R167 and R203 do. -/
def State.shadowLane (s : State) (old new : TickEntry) (t : Nat) : State :=
  let s := (List.range 16).foldl (fun (s : State) (j : Nat) =>
    let blk := 16 * t + j
    if new.dk1.testBit blk && !old.dk1.testBit blk then
      match s.stripe new.seq with
      | some x => ((s.restoreBlock x old [] blk).countMissed x old.s blk).updTick old.n (fun e => { e with dk1 := withBit e.dk1 blk })
      | none => s
    else if new.rx.testBit blk && !new.unconf.testBit t then s.receiverBlanked old [] blk
    else s) s
  if new.unconf.testBit t then s.unconfirmed ((s.shot.tlog.find? (fun e => e.n = old.n)).getD old) [] t else s.resolve old.n t

/-- R357: TLOG_FINAL of a tick is committed. -/
def State.shadowFinal (s : State) (b : Bytes) : State :=
  let new := { parseFix b s.ns 0 with rx := (List.range 64).foldl (fun m t => m + beAt b (152 + 2 * t) 2 * 2 ^ (16 * t)) 0, final := true }
  match s.shot.tlog.find? (fun e => e.n = new.n) with
  | none => s.pushTick { new with computed := true, launched := true, tickSent := true }
  | some old =>
    let s := s.updTick old.n (fun e => { e with launched := true, tickSent := true })
    let s := { s with pair := { s.pair with lastFinal := some (new.seq, new.s) } }
    let known := !new.cal && ((s.stripe new.seq).any (fun x => x.latch.isSome))
    if known then
      let s := s.updStripe new.seq (fun x => { x with launched := x.launched + 1 })
      (List.range (lanesOf s.variant)).foldl (fun s t => s.shadowLane old new t) s
    else
      let e := { old with final := true, launched := true, tickSent := true, dk1 := new.dk1, rx := new.rx, unconf := new.unconf }
      (s.updTick old.n (fun _ => e)).spoolTlog s.check.tlogMode e

/-- R357: a bank is installed as both live and shadow. -/
def State.installBank (s : State) (b : Tab Nat) : State :=
  { s with
    cal := { s.cal with live := b, shadow := b, badGroups := [], badShadow := [], toldBad := [], injected := [] }
    pair := { s.pair with trimDue := none, trimHeld := true } }.writeMirror

/-- A piece of a bank: consecutive entries from a beam. -/
def pieceInto (t : Tab Nat) (first : Nat) (es : List Nat) : Tab Nat := tabSetRange trimDefault t first es

/-- R357: TRIM_COMMIT: the bank is installed at the end of the stripe named, at once when that has ended. A bank whose CRC
disagrees is not installed. -/
def State.shadowCommit (s : State) (seq crc : Nat) : State :=
  if crc32c (bankBytes s.variant s.pair.trimIn) ≠ crc then s
  else
    let bank := s.pair.trimIn
    let open_ := (s.stripe seq).any (fun x => running x)
    if open_ then { s with pair := { s.pair with trimDue := some (seq, bank) } } else s.installBank bank

/-- R368: a whole stripe shadowed synced counts; at the holdoff a preferred module asks for the role. -/
def State.countHold (s : State) (seq : Nat) : State :=
  if s.rd Reg.PAIR_STATUS.synced = 0 ∨ ¬ s.pair.syncFrom.any (fun q => decide (q ≤ seq)) then s
  else
    let s := s.inc Reg.PAIR_HOLD_CNT.stripes
    if s.rd Reg.PAIR_CTRL.pref_active = 1 ∧ s.rd Reg.PAIR_CTRL.revert_en = 1 ∧ ¬ s.pair.revertAsked ∧ s.healthy ∧
        s.rd Reg.PAIR_CTRL.holdoff ≤ s.rd Reg.PAIR_HOLD_CNT.stripes then
      (({ s with pair := { s.pair with revertAsked := true } }).wr Reg.PAIR_STATUS.revert_pending 1).pairSend 0 .revertReq
    else s

/-- R357: a stripe has ended on the active. -/
def State.shadowEnd (s : State) (x : Stripe) : State :=
  let s := s.updStripe x.d.seq (fun x => { x with st := .done, truncated := decide (x.latch.isSome ∧ x.fixed < stripeTicks x.d.len), told := endMark :: x.told })
  let s := { s with trig := { s.trig with dwellEnd := tickTime x (stripeTicks x.d.len), endedStripe := some x.d.seq } }
  let s := match s.pair.trimDue with
    | some (q, b) => if q = x.d.seq then s.installBank b else s
    | none => s
  (s.countHold x.d.seq).freeMaps

/-- R361: the two modules differ on a stripe. -/
def State.admissionDiffers (s : State) (seq : Nat) : State :=
  (({ s with pair := { s.pair with syncFrom := none } }).wrs [(Reg.PAIR_STATUS.synced, 0), (Reg.PAIR_HOLD_CNT.stripes, 0)]).raiseFor
    seq 0x070C [w seq]

/-- R357: a stripe armed on the active is armed in shadow, with the active's latched parameters. -/
def State.shadowArm (s : State) (x : Stripe) (p : PtrStripe) : State :=
  match p.latched with
  | none => s
  | some (rp, nominal, comp, chk) =>
    let first := p.first.getD (x.firstTick.getD 0)
    let l := s.makeLatch x (chk % 4)
    let l := { l with
      rp := rp, nominal := nominal, posComp := comp = 1, recMode := chk % 4, shift := chk / 4 % 8, tlogMode := chk / 64 % 4,
      cols := (List.range (widthOf s.variant)).map (fun px => columnEntry s.variant x.d.dir rp s.cal.live px) }
    let s := (s.clearFirst x.d.seq).noteMode x.d.seq
    let s := { s with check := { s.check with tlogMode := l.tlogMode } }
    (s.updStripe x.d.seq (fun x => { x with st := .armed, latch := some l, t0 := first, nFirst := s.job.nextTick })).noteColumns x.d.seq l

/-- R357, R361: one stripe of a POINTERS frame; a standby's stripes follow the active's (log 84). (log 102) -/
def State.shadowStripe (s : State) (p : PtrStripe) : State :=
  match s.stripe p.seq with
  | none => if p.st = 3 ∧ s.rd Reg.PAIR_STATUS.synced = 1 then s.admissionDiffers p.seq else s
  | some x =>
    let s := if inQueue x && !running x then s.updStripe p.seq (fun x => { x with firstTick := p.first }) else s
    if p.st = 3 then
      if x.st = .admitted then s.shadowArm { x with firstTick := p.first.orElse (fun _ => x.firstTick) } p
      else if running x then s
      else s.admissionDiffers p.seq
    else if p.st = 5 then (if x.st = .done then s else s.shadowEnd x)
    else if p.st = 6 ∧ x.st = .admitted then (s.admissionDiffers p.seq).dropStripe p.seq
    else s

/-- R399: a standby's job exposure operation follows the job state of POINTERS. -/
def State.followOp (s : State) (job : Nat) : State :=
  if job = jobDone then s.endOp false 1 .done 0
  else if job = jobSuspended then s.endOp false 1 .suspended 0
  else if jobArmed ≤ job ∧ job ≤ jobTurnaround then s.endOp false 1 .running 0
  else s

/-- R357: POINTERS: job state, stripes, streams. -/
def State.shadowPointers (s : State) (p : Pointers) : State :=
  let s := { s with pair := { s.pair with pointers := some p } }
  let s := p.stripes.foldl State.shadowStripe s
  (s.setJob false p.job).followOp p.job

/-- R354: the content of a frame that is committed. -/
def State.applyFrame (s : State) (f : PairFrame) : State :=
  match f.body with
  | .tlogFix b => s.shadowFix b
  | .tlogFinal b => s.shadowFinal b
  | .trim first es => { s with pair := { s.pair with trimIn := pieceInto s.pair.trimIn first es } }
  | .trimCommit seq crc => s.shadowCommit seq crc
  | .pointers p => s.shadowPointers p
  | .ctx c => { s with pair := { s.pair with ctx := tabPut s.pair.ctx (parseDcf c).stream c } }
  | .handover seq tick => { s with pair := { s.pair with handover := some (seq, tick) } }
  | _ => s

/-- R354: commit a frame and acknowledge it. -/
def State.commitOne (s : State) (f : PairFrame) : State :=
  let s := { s.applyFrame f with pair := { (s.applyFrame f).pair with committed := f.gen } }
  s.pairSend 0 (.ack f.gen)

/-- R354: frames received early are committed once their turn comes. -/
def State.commitWaiting (s : State) : Nat → State
  | 0 => s
  | fuel + 1 =>
    match s.pair.waiting.find? (fun f => f.gen = (s.pair.committed + 1) % 2 ^ 32) with
    | none => s
    | some f =>
      let s := { s with pair := { s.pair with waiting := s.pair.waiting.filter (fun x => x.gen ≠ f.gen) } }
      State.commitWaiting (s.commitOne f) fuel

/-- R354, R356: a mirrored frame arrives: one of an older epoch, or already committed, is discarded. -/
def State.rxMirrored (s : State) (f : PairFrame) : State :=
  if s.role ≠ roleStandby ∨ s.rd Reg.PAIR_STATUS.link_up = 0 ∨ f.epoch < s.rd Reg.PAIR_STATUS.epoch then s
  else if !serialBefore 32 s.pair.committed f.gen then s
  else if f.gen = (s.pair.committed + 1) % 2 ^ 32 then (s.commitOne f).commitWaiting 4096
  else if s.pair.waiting.any (fun x => x.gen = f.gen) then s
  else { s with pair := { s.pair with waiting := s.pair.waiting ++ [f] } }

/-- A mirrored frame of a type (Table 13.3) arrives. -/
def State.rxTyped (s : State) (typ : Nat) (b : Bytes) : State :=
  s.rxPair b (fun s f => if bodyType f.body = typ then s.rxMirrored f else s)

/-- TLOG_FIX_RECEIVE (R354, R357). -/
def execTlogFixReceive (b : Bytes) (s : State) : Host.Outcome State Fault Refusal := .next (s.rxTyped 0x02 b)

/-- TLOG_FINAL_RECEIVE (R354, R357). -/
def execTlogFinalReceive (b : Bytes) (s : State) : Host.Outcome State Fault Refusal := .next (s.rxTyped 0x03 b)

/-- TRIM_RECEIVE (R354, R357). -/
def execTrimReceive (b : Bytes) (s : State) : Host.Outcome State Fault Refusal := .next (s.rxTyped 0x05 b)

/-- TRIM_COMMIT_RECEIVE (R354, R357). -/
def execTrimCommitReceive (b : Bytes) (s : State) : Host.Outcome State Fault Refusal := .next (s.rxTyped 0x06 b)

/-- POINTERS_RECEIVE (R354, R357, R361). -/
def execPointersReceive (b : Bytes) (s : State) : Host.Outcome State Fault Refusal := .next (s.rxTyped 0x07 b)

/-- CTX_RECEIVE (R354, R358). -/
def execCtxReceive (b : Bytes) (s : State) : Host.Outcome State Fault Refusal := .next (s.rxTyped 0x08 b)

/-- HANDOVER_RECEIVE (R354, R368). -/
def execHandoverReceive (b : Bytes) (s : State) : Host.Outcome State Fault Refusal := .next (s.rxTyped 0x0A b)

/-- A stripe known only by its density map (R367). -/
def mapStripe (seq layer slot : Nat) (y : Int) (dir lenM1 : Nat) : Stripe :=
  newStripe { seq := seq, layer := layer, slot := slot, slotsM1 := 0, yOrigin := y, dir := dir, lenM1 := lenM1, tau := 0, geomKib := 0,
              seedUnder := false, seedRight := false, seedLeft := false } .done 0 0

/-- R367: density cells of a row of a stripe; the job has begun with its layer at the latest (R136). -/
def State.copyDens (s : State) (x : Stripe) (row : Nat) (cells : List Nat) : State :=
  let s := match s.stripe x.d.seq with
    | some _ => s
    | none => { s with
        sieve := { s.sieve with stripes := s.sieve.stripes ++ [{ x with told := [endMark] }] }
        job := { s.job with firstLayer := some (Nat.min (s.job.firstLayer.getD x.d.layer) x.d.layer) } }
  s.updStripe x.d.seq (fun y => if (tabFind y.dens row).isSome then y else { y with dens := tabPut y.dens row cells })

/-- R367: a piece copied to a synchronising standby; the bank is held once its last piece has arrived. -/
def State.onCopy (s : State) (f : PairFrame) : State :=
  if s.role ≠ roleStandby then s
  else match f.body with
    | .syncTrim first es =>
      let bank := pieceInto s.pair.trimIn first es
      let s := { s with pair := { s.pair with trimIn := bank } }
      if beamsOf s.variant ≤ first + es.length ∧ ¬ s.pair.trimHeld then s.installBank bank else s
    | .syncDens seq layer slot y dir lenM1 row cells => s.copyDens (mapStripe seq layer slot y dir lenM1) row cells
    | _ => s

/-- SYNC_COPY_RECEIVE (R367). -/
def execSyncCopyReceive (b : Bytes) (s : State) : Host.Outcome State Fault Refusal := .next (s.rxPair b State.onCopy)

/-! ### The active's side (R354, R355, R360, R368) -/

/-- R360: the round trip of the probe, once it is acknowledged. -/
def State.endProbe (s : State) : State :=
  match s.pair.probeAt with
  | none => s
  | some t =>
    let rtt := (s.ps - t) / 1000
    let s := ({ s with pair := { s.pair with probeAt := none } }).wrs [(Reg.PAIR_RTT.rtt_ns, Nat.min 65535 rtt),
      (Reg.PAIR_STATUS.slow_link, b2n (decide (450 < rtt)))]
    if 450 < rtt then s.raise 0x0705 [w rtt] else s

/-- R354: progress of the committed generation. -/
def State.onAck (s : State) (f : PairFrame) : State :=
  match f.body with
  | .ack g =>
    if s.role ≠ roleActive ∨ ¬ serialBefore 32 (s.rd Reg.PAIR_GEN_ACK.gen) g then s
    else
      let s := s.wr Reg.PAIR_GEN_ACK.gen g
      let store := s.pair.store.filter (fun x => serialBefore 32 g x.1)
      ({ s with pair := { s.pair with
        store := store, progress := s.now, resending := none, mirrorDown := s.pair.mirrorDown && !store.isEmpty } }).endProbe
  | _ => s

/-- PAIR_ACK_RECEIVE (R354, R360). (log 35) -/
def execPairAckReceive (b : Bytes) (s : State) : Host.Outcome State Fault Refusal := .next (s.rxPair b State.onAck)

/-- R368: a revert is asked for: the lane slot is claimed for the coming turnaround (SHOT_TURN_REQ). -/
def State.onRevert (s : State) (f : PairFrame) : State :=
  match f.body with
  | .revertReq => if s.role = roleActive then
      ({ s with pair := { s.pair with revertGot := true } }).wr Reg.PAIR_STATUS.revert_pending 1 else s
  | _ => s

/-- REVERT_REQ_RECEIVE (R368). -/
def execRevertReqReceive (b : Bytes) (s : State) : Host.Outcome State Fault Refusal := .next (s.rxPair b State.onRevert)

/-- R368: the HANDOVER has been committed. -/
def State.handoverCommitted (s : State) : Bool :=
  s.pair.store.all (fun f => match f.2.body with | .handover _ _ => false | _ => true)

/-- ACTIVE_RELEASE (R368): HANDOVER committed, or 100 µs since it was sent. -/
def execActiveRelease (s : State) : Host.Outcome State Fault Refusal :=
  match s.pair.handover with
  | none => .next s
  | some (seq, t) =>
    if s.role ≠ roleActive ∨ (s.handoverCommitted = false ∧ s.now < t + 100000) then .next s
    else
      let s := s.loseRole
      .next (({ s with pair := { s.pair with released := some s.now } }).raise 0x070A [w seq])

/-- MIRROR_RESEND_TIMEOUT (R355): no commit progress for 2 µs. -/
def execMirrorResendTimeout (s : State) : Host.Outcome State Fault Refusal :=
  if s.role ≠ roleActive ∨ s.pair.store = [] ∨ s.pair.mirrorDown ∨ s.now < s.pair.progress + 2000 then .next s
  else
    let s := if s.pair.resending.isNone then s.inc Reg.PAIR_ERR.resends else s
    let s := { s with pair := { s.pair with resending := some (s.pair.resending.getD s.now), progress := s.now } }
    .next (s.pair.store.foldl (fun (s : State) (f : Nat × PairFrame) => s.send (.pair (frameBytes { f.2 with resend := true }))) s)

/-- MIRROR_STALL_TIMEOUT (R355): 100 µs of resending without progress. -/
def execMirrorStallTimeout (s : State) : Host.Outcome State Fault Refusal :=
  match s.pair.resending with
  | none => .next s
  | some t => .next (if s.role ≠ roleActive ∨ s.now < t + 100000 then s else s.mirrorFail)

/-! ### The heartbeat (R350) -/

/-- R369: the requester withdraws its revert request when its heartbeat stops. -/
def State.withdrawRevert (s : State) : State :=
  if s.pair.revertAsked = false then s
  else ({ s with pair := { s.pair with revertAsked := false } }).wr Reg.PAIR_STATUS.revert_pending 0

/-- HEARTBEAT_EDGE (R350): the half-period, halved while a revert is asked for. -/
def execHeartbeatEdge (s : State) : Host.Outcome State Fault Refusal :=
  let h := 1000 * s.rd Reg.PAIR_HB.half_us
  let half := if s.pair.revertAsked then h / 2 else h
  if s.healthy = false then .next ({ s with power := { s.power with hbHigh := false } }).withdrawRevert
  else if s.now < s.power.hbEdge + half then .next s
  else .next { s with power := { s.power with hbHigh := !s.power.hbHigh, hbEdge := s.now } }

/-- HKC_REFRESH_TIMEOUT (R350, R368): the HKC has not refreshed the heartbeat for hkc_ms. -/
def execHkcRefreshTimeout (s : State) : Host.Outcome State Fault Refusal :=
  if s.now < s.hkc.alive + 1000000 * s.rd Reg.PAIR_HB.hkc_ms then .next s
  else .next ({ s with power := { s.power with hbStale := true, hbHigh := false } }).withdrawRevert

end Sys2Proof.Machine
end

