-- ==== Sys2Proof/Machine/Reset.lean ====
section
/-! DEFINITION. Resets: what each reach restores, the trims after a reset, the reset history, the start-up phases, block and
lane resets (ch. 14, R373 to R381, R387 to R390; R341; R419, R421). -/

namespace Sys2Proof.Machine

/-! ### The register map as data (R416 to R419) -/

/-- The offset lies on the grid of (stride, count) pairs. -/
def inDims : List (Nat × Nat) → Nat → Bool
  | [], off => off = 0
  | (st, n) :: r, off => decide (off / st < n) && inDims r (off % st)

/-- The register at an address. -/
def descAt (a : Nat) : Option RegDesc := regDescs.find? (fun d => decide (d.base ≤ a) && inDims d.dims (a - d.base))

/-- The field a key of the register file names. -/
def fieldOfKey (key : Nat) : Option FieldDesc := (descAt (key / 32)).bind (fun d => d.fields.find? (fun f => f.lo = key % 32))

/-- A field of a register as a register field. -/
def fldOf (a : Nat) (f : FieldDesc) : Fld := ⟨a, f.lo, f.hi - f.lo + 1, f.rst⟩

/-- Table 16.1: the blocks a reset of reach L1 restores. -/
def restoredByL1 (a : Nat) : Bool := decide (0xA0000 ≤ a) && decide (a < 0x220000)

/-- Levels that follow a contact or a supply, whatever is reset (log 31): HALYARD_IN, grant; feeds; warning and junction. -/
def liveLevel (key : Nat) : Bool :=
  [fldKey Reg.PAIR_STATUS.halyard_in, fldKey Reg.PAIR_STATUS.grant, fldKey Reg.PWR_FEED.a_good, fldKey Reg.PWR_FEED.b_good,
    fldKey Reg.PWR_FEED_V.a_mv, fldKey Reg.PWR_FEED_V.b_mv, fldKey Reg.PWR_THERM.warning, fldKey Reg.PWR_THERM.tj].contains key

/-- R419, Table 14.2: a field keeps its value through a reset of a reach (1 to 4). -/
def keptAt (reach key : Nat) : Bool :=
  liveLevel key ||
    (match fieldOfKey key with
      | none => false
      | some f =>
        f.tok = .fused || (f.tok = .retained && decide (reach ≤ 3)) ||
          (if reach = 1 then !restoredByL1 (key / 32) || f.acc = .rw || f.acc = .rwc || f.acc = .rws
           else if reach = 2 then f.acc = .rws || f.tok = .sampled
           else false))

/-- R419, R421: the registers a reset of a reach restores, and the latches of their groups. -/
def State.resetRegs (s : State) (reach : Nat) : State :=
  { s with
    regs := tabKeep (keptAt reach) s.regs
    latches := if reach = 1 then s.latches.map (fun (l : Src × Tab Nat) => (l.1, tabKeep (fun a => !restoredByL1 a) l.2)) else [] }

/-- Write every field of a register from a word. -/
def State.pokeReg (s : State) (a v : Nat) : State :=
  match descAt a with
  | none => s
  | some d => d.fields.foldl (fun (s : State) (f : FieldDesc) => s.wr (fldOf a f) (v >>> f.lo)) s

/-- Restore every field of a register to its reset value. -/
def State.restoreReg (s : State) (a : Nat) : State := { s with regs := tabKeep (fun k => k / 32 ≠ a) s.regs }

/-! ### Calibration snapshots in NVM (R339, R341, Tables 12.4, 14.6) -/

/-- Table 14.6: the address of a calibration snapshot slot. -/
def snapAddr (slot : Nat) : Nat := 0x2000000 + 0x200000 * slot

/-- Table 12.4: body length. -/
def snapLen (v : Nat) : Nat := 4 * beamsOf v + 64

/-- R341: a snapshot slot is valid. -/
def State.snapValid (s : State) (slot : Nat) : Bool :=
  let h := s.nvmBytes (snapAddr slot) 64
  beAt h 0 4 = 0x43534E31 && byteAt h 15 = s.variant && beAt h 16 4 = snapLen s.variant && beAt h 60 4 = crc32c (h.take 60) &&
    beAt h 20 4 = crc32c (s.nvmBytes (snapAddr slot + 64) (snapLen s.variant))

/-- Generation in the header of a snapshot slot. -/
def State.snapGenOf (s : State) (slot : Nat) : Nat := beNat (s.nvmBytes (snapAddr slot + 4) 4)

/-- The valid snapshot slot with the higher generation. -/
def State.newestSnap (s : State) : Option Nat :=
  if s.snapValid 0 then
    (if s.snapValid 1 && decide (s.snapGenOf 0 < s.snapGenOf 1) then some 1 else some 0)
  else if s.snapValid 1 then some 1
  else none

/-- The registers of the parameter block, in its order (R339). -/
def calParams : List Nat := [0x1E0000, 0x1E0004, 0x1E0008, 0x1E000C, 0x1E0010, 0x1E0014]

/-- R341: the bank a snapshot holds. -/
def State.snapBank (s : State) (slot : Nat) : Tab Nat :=
  (List.range (beamsOf s.variant)).foldl (fun (t : Tab Nat) (b : Nat) =>
    bankSet t b (beNat (s.nvmBytes (snapAddr slot + 64 + 4 * b) 4))) []

/-- R341: both banks hold one bank, with good checks; sessions and uncommitted changes are lost. -/
def State.bothBanks (s : State) (bank : Tab Nat) : State :=
  { s with cal := { CalState.init with live := bank, shadow := bank, mirror := bank, snapGen := s.cal.snapGen } }.closeSession

/-- R341: load the trims from the valid snapshot with the higher generation; none valid: every entry masked, k = 0. (log 101) -/
def State.loadSnap (s : State) : State :=
  match s.newestSnap with
  | some slot =>
    let other := 1 - slot
    let s := (s.bothBanks (s.snapBank slot)).wrs [(Reg.CAL_STATUS.snap_loaded, 1), (Reg.CAL_STATUS.slot, slot)]
    let stale : Bool := !s.snapValid other && decide (beNat (s.nvmBytes (snapAddr other) 4) = 0x43534E31) &&
      decide (s.snapGenOf slot < s.snapGenOf other)
    if stale then s.raise 0x080D [w slot, w (s.snapGenOf slot)] else s
  | none => ((s.bothBanks []).wrs [(Reg.CAL_STATUS.snap_loaded, 0), (Reg.CAL_SCALE.k, 0)]).raise 0x0807 []

/-- R341: the calibration parameters at L2 and deeper. -/
def State.loadParams (s : State) : State :=
  let s := match s.newestSnap with
    | some slot =>
      let base := snapAddr slot + 64 + 4 * beamsOf s.variant
      (List.range 6).foldl (fun (s : State) (i : Nat) => s.pokeReg (calParams.getD i 0) (beNat (s.nvmBytes (base + 4 * i) 4))) s
    | none => calParams.foldl State.restoreReg s
  s.wr Reg.CAL_SNAP_GEN.gen ((s.newestSnap.map s.snapGenOf).getD 0)

/-- Sources of the trims in 0x080C (numbered by the model, log 20). -/
abbrev trimsFromMirror : Nat := 0
abbrev trimsFromSnapshot : Nat := 1

/-- R341: the banks at L1 and L2: from the mirror, with the measurement history it keeps (R331), when all of it passes its check,
otherwise from the snapshot. -/
def State.reloadTrims (s : State) (reach : Nat) : State :=
  if (List.range (beamsOf s.variant / 64)).all (fun g => !s.mirrorFails g) then
    let c := s.cal
    let s := s.bothBanks c.mirror
    { s with cal := { s.cal with prevLow := c.prevLow, suspect := c.suspect } }.raise 0x080C [w reach, w trimsFromMirror]
  else s.loadSnap.raise 0x080C [w reach, w trimsFromSnapshot]

/-! ### What each reach resets (Table 14.2, R54, R96, R309, R375, R403) -/

/-- R54, R96: every stream is closed and every image invalid. -/
def State.closeStreams (s : State) : State := { s with codec := { CodecState.init with fwStage := s.codec.fwStage, fwFull := s.codec.fwFull } }

/-- The record streams lose their destinations; what is spooled stays. -/
def detached (r : RecStream) : RecStream := { RecStream.init with spool := r.spool, chunkSeq := r.chunkSeq }

/-- R309: what CHECK keeps beside its registers: the history and fault clock, the spools in DRAM. -/
def CheckState.restarted (c : CheckState) : CheckState :=
  { CheckState.init with
    hist := c.hist, faultClock := c.faultClock, faultRest := c.faultRest, recs := c.recs.map detached, ring := c.ring, loads := c.loads,
    recAt := c.recAt }

/-- R321: reports and entries gathered for the record streams become chunks before what gathers them is cleared. -/
def State.settleParts (s : State) : State :=
  { s with check := { s.check with recs := s.check.recs.map detached } }.flushParts

/-- The pair after a reset: the retained counts stay (Table 14.1). -/
def PairState.restarted (p : PairState) : PairState := { PairState.init with committed := p.committed, partnerEpoch := p.partnerEpoch }

/-- R403: every long operation ends with state 5 and result 0xFF. -/
def State.endOps (s : State) : State :=
  (s.ops.slots.filter (fun o => !opFinished o)).foldl (fun (s : State) (o : LongOp) =>
    s.setOp true o.handle (fun o => { o with st := .failed, result := 0xFF })) s

/-- Table 14.2, L1: the data path, Sieve to lanes, codec, CHECK and PAIR data. -/
def State.resetDataPath (s : State) : State :=
  let halted := s.dram.train.map (fun (t : DramTrain) => t.sc)
  { s.closeStreams with
    sieve := ⟨[], [], [], []⟩
    win := { s.win with segs := [], waiting := [], toldP := [], injected := [] }
    render := RenderState.init
    pec := { s.pec with stripe := none, rows := 0, redo := [] }
    shot := ⟨[], [], [], [], [], [], 0, [], []⟩
    check := s.check.restarted
    lanes := []
    tx := []
    pair := s.pair.restarted
    trig := { s.trig with calStart := none, slot := 0, endedStripe := none, dwellEnd := 0 }
    dram := { s.dram with
      train := none, due := (match halted with | some c => c :: s.dram.due.filter (fun x => x ≠ c) | none => s.dram.due),
      scrubOp := false, fences := [] } }

/-- R303, Table 10.6: a reset of reach L1 stops a training; R252: no first_tick stays pending. -/
def State.settleL1 (s : State) : State :=
  s.wrs [(Reg.DMC_STATUS.sc_training, 0), (Reg.TIME_TRIG0_CTRL.pending, 0)]

/-- R280, R297: the regions stand at their reset sizes (normal mode). -/
def State.regionsDefault (s : State) : Bool :=
  (List.range 7).all (fun i => s.rd (Reg.DMC_REGION.size (i + 2)) = regionResetSize (i + 2))

/-- R297: the layout that DMC_DEGRADE selects. -/
def State.newLayout (s : State) : Option Nat :=
  if s.rd Reg.DMC_DEGRADE.enable = 1 then some (s.rd Reg.DMC_DEGRADE.exclude) else none

/-- Table 14.2, L2: in self-refresh regions 5 to 8 are kept, regions 1 to 4 discarded; a layout that the reset changes keeps
nothing (R280, R297). -/
def State.selfRefresh (s : State) : State :=
  let s := if s.regionsDefault ∧ s.newLayout = s.dram.layout then s else s.discardDram
  { s with codec := CodecState.init, dram := { DramState.init with
      lines := s.dram.lines.filter (fun e => decide (5 ≤ e.2.region)), allocs := s.dram.allocs.filter (fun e => decide (5 ≤ e.2.1)),
      gens := s.dram.gens, retired := s.dram.retired, layout := s.dram.layout, listed := s.dram.listed, trained := s.dram.trained,
      temps := s.dram.temps } }

/-- Table 14.2, L2: everything else. -/
def State.resetRest (s : State) : State :=
  { s with
    clk := 0
    hkc := ⟨[], [], s.now⟩
    dmp := []
    ops := ⟨[], [], 1⟩
    job := JobState.init
    pec := ⟨PecParams.init, none, 0, []⟩
    stage := ⟨[], 0, none, s.stage.xoff, s.stage.yoff⟩
    net := NetState.init
    trig := TrigState.init
    ptp := PtpState.init
    evt := { s.evt with subs := [], lastSend := s.now } }

/-- Table 14.2, L3: DRAM contents, window spares (R272), the fault history (R309). -/
def State.resetDeep (s : State) : State :=
  { s with
    evt := { s.evt with ring := [] }
    stage := ⟨[], 0, none, 0, 0⟩
    win := ⟨[], [], [], [], []⟩
    check := CheckState.init
    cal := { CalState.init with badMirror := List.range (beamsOf s.variant / 64) }
    dram := { DramState.init with retired := s.dram.retired, listed := s.dram.listed, chosen := s.dram.chosen } }

/-- R297: the layout that a reset of reach L2 or deeper selects, before the register that selects it is itself reset. -/
def State.choose (s : State) : State := { s with dram := { s.dram with chosen := s.newLayout } }

/-- R373, R374: the retained domain at power-on: every area and the host scratch cleared, the uptime counter at 0. -/
def State.clearRetained (s : State) : State :=
  { s with
    evt := EvtState.init
    pair := PairState.init
    power := { s.power with
      upFrom := s.now, history := [], lastJob := 0, lastSeq := 0, lastTick := 0, lastS := 0, exposing := false, laneTicks := [],
      checkerId := 0, bootSlot := 0, noReady := 0, scratch := [] } }

/-- R375, R419: what a reset of a reach does to state and registers. -/
def State.resetTo (s : State) (reach : Nat) : State :=
  let mode := if s.role = roleSolo then roleSolo else roleStandby
  let s := s.settleParts.resetDataPath
  let s := if 2 ≤ reach then s.selfRefresh.choose.resetRest else s
  let s := if 3 ≤ reach then s.resetDeep else s
  let s := if reach = 4 then s.clearRetained else s
  let s := s.resetRegs reach
  let s := if reach = 1 then s.settleL1.wr Reg.PAIR_STATUS.role mode else s
  s.wr Reg.CHECK_HIST_FILL.entries s.check.hist.length

/-! ### Reset sources (R376, R378, R379) -/

/-- Table 14.3: sources by code. -/
abbrev srcPowerOn : Nat := 1
abbrev srcBrownOut : Nat := 2
abbrev srcResetN : Nat := 3
abbrev srcThermal : Nat := 4
abbrev srcWatchdog : Nat := 5
abbrev srcWarm : Nat := 6
abbrev srcEngine : Nat := 7
abbrev srcNvm : Nat := 10

/-- Table 14.3: least and greatest reach of a source. -/
def reachRange (src : Nat) : Nat × Nat :=
  [(4, 4), (4, 4), (3, 4), (1, 4), (2, 4), (1, 3), (2, 2), (1, 1), (0, 0), (0, 0), (3, 3)].getD src (1, 4)

/-- R376: the reach the fuse map gives a source. -/
def State.reachOf (s : State) (src : Nat) : Nat :=
  let r := bitsOf (s.rd Reg.RCU_FUSE_MAP.reach) (3 * src - 3) 3
  Nat.min (reachRange src).2 (Nat.max (reachRange src).1 r)

/-- Sources that stay asserted until something ends: brown-out, RESET_N, thermal trip. The others are momentary: they count as
asserted until their start-up leaves its first phase (R379, Table 14.13, log 30). -/
def levelSource (src : Nat) : Bool := src = srcBrownOut || src = srcResetN || src = srcThermal

/-- R379: the module is held. -/
def State.held (s : State) : Bool := s.power.sources.any (fun e => levelSource e.1)

/-- ms since the standby supply became good (R373). -/
def State.upMs (s : State) : Nat := (s.now - s.power.upFrom) / 1000000 % 2 ^ 40

/-- R378, Table 14.4: one history entry, and the cause registers. (log 71) -/
def State.logReset (s : State) (src reach : Nat) (merged : Bool) (tick seq : Nat) (inStart : Bool) (phase : Nat) : State :=
  let e : ResetEnt := ⟨s.upMs, src, reach, phase, merged, inStart, tick, seq⟩
  ({ s with power := { s.power with history := (e :: s.power.history).take 32 } }.inc Reg.RCU_RESET_CAUSE.count).wrs
    [(Reg.RCU_RESET_CAUSE.source, src), (Reg.RCU_RESET_CAUSE.reach, reach), (Reg.RCU_RESET_CAUSE.merged, b2n merged)]

/-! ### Start-up (R380, Table 14.5) -/

/-- R380: the first phase of a reach. -/
def firstPhase (reach : Nat) : Nat := if reach = 1 then 4 else if reach = 2 then 3 else 0

/-- Table 14.5: a phase belongs to the start-up of a reach. (log 42) -/
def phaseRuns (reach : Nat) (locked : Bool) (p : Nat) : Bool :=
  if p = 8 then true
  else if reach = 1 then p = 4 || p = 6 || (p = 7 && !locked)
  else if reach = 2 then decide (3 ≤ p)
  else true

/-- R348: a solo module asks for the lanes as P6 begins. -/
def State.beginP6 (s : State) : State :=
  let s := (s.lanesWhere (fun _ => true)).foldl (fun (s : State) (t : Nat) => s.updLane t (fun l => { l with p6Told := false })) s
  if s.role = roleSolo then s.requestRole else s

/-- The start-up enters phase p or the next one its reach runs. -/
def State.enterPhase (s : State) (p : Nat) : State :=
  match (List.range 9).find? (fun q => decide (p ≤ q) && phaseRuns s.power.running (s.rd Reg.TIME_STATUS.locked = 1) q) with
  | none => s
  | some q =>
    let s := ({ s with power := { s.power with phaseAt := s.now, p3Begun := decide (q = 3) && !s.power.svcLow } }).wr Reg.RCU_PHASE.phase q
    if q = 8 then s.becomeReady else if q = 7 then s.endP7 else if q = 6 then s.beginP6 else s

/-- A phase is over. -/
def State.nextPhase (s : State) : State :=
  let s := { s with power := { s.power with sources := s.power.sources.filter (fun e => levelSource e.1) } }
  s.enterPhase (s.rd Reg.RCU_PHASE.phase + 1)

/-- R379, R380: the module is released: the start-up of the deepest reach begins. -/
def State.beginStartup (s : State) : State :=
  let s := { s with power := { s.power with running := s.power.deepest, startAt := s.now, seen := [] } }
  s.enterPhase (s.rd Reg.RCU_PHASE.phase)

/-- R383: a start-up that has used a slot and fails to reach P8 counts; the third in a row marks its slot. (log 43) -/
def State.countFailedStart (s : State) : State :=
  let p := s.rd Reg.RCU_PHASE.phase
  if p < 4 ∨ p = 8 then s
  else if s.power.noReady + 1 < 3 then { s with power := { s.power with noReady := s.power.noReady + 1 } }
  else ({ s with power := { s.power with noReady := 0 } }).wr Reg.NVL_STATUS.marked
    (if s.power.bootSlot < 2 then withBit (s.rd Reg.NVL_STATUS.marked) s.power.bootSlot else s.rd Reg.NVL_STATUS.marked)

/-- R385: every contact at its reset state. -/
def State.restContacts (s : State) : State :=
  { s with power := { s.power with blankHigh := false, hbHigh := false, hbStale := false } }

/-- R375 to R380: a reset is recognised: what its reach restores, its history entry, and the restart of the start-up. -/
def State.doReset (s : State) (src : Nat) : State :=
  let reach := s.reachOf src
  let phase := s.rd Reg.RCU_PHASE.phase
  let ready : Bool := phase = 8
  let merged := s.power.sources.any (fun e => e.1 ≠ src)
  let restart := if ready then firstPhase reach else Nat.min (firstPhase reach) phase
  let tick := s.power.lastTick
  let seq := s.power.lastSeq
  let s := s.countFailedStart.endOps
  let s := s.setJob true (if reach = 1 then jobFault else jobIdle)
  let s := s.resetTo reach
  let s := s.logReset src reach merged tick seq (!ready && src ≠ srcPowerOn) phase
  let s := s.restContacts.wrs [(Reg.RCU_PHASE.phase, restart), (Reg.RCU_PHASE.halted, 0)]
  let s := { s with power := { s.power with
    sources := (src, reach) :: s.power.sources.filter (fun e => e.1 ≠ src), deepest := Nat.max s.power.deepest reach, phaseAt := s.now, startAt := s.now } }
  let s := if reach = 1 then s.reloadTrims 1 else s
  if s.held then s else s.beginStartup

/-- R379: a source of reach L1 or deeper is asserted. One that is asserted already, or that was released and is asserted again
before the last release, counts as still asserted. -/
def State.assertReset (s : State) (src : Nat) : State :=
  if levelSource src ∧ s.power.sources.any (fun e => e.1 = src) then s
  else if levelSource src ∧ s.held ∧ s.power.seen.contains src then
    { s with power := { s.power with sources := (src, s.reachOf src) :: s.power.sources } }
  else
    let s : State := if levelSource src then { s with power := { s.power with seen := src :: s.power.seen } } else s
    s.doReset src

/-- R379: a source is released; with the last one gone the start-up begins. -/
def State.releaseReset (s : State) (src : Nat) : State :=
  if !s.power.sources.any (fun e => e.1 = src) ∨ ¬ levelSource src then s
  else
    let s := { s with power := { s.power with sources := s.power.sources.filter (fun e => e.1 ≠ src) } }
    if s.held then s else s.beginStartup

/-! ### Block and lane resets (R388 to R390, Table 14.12) -/

/-- Refusals of RCU_BLOCK_RST.result. -/
abbrev blkNotIdle : Nat := 1
abbrev blkNone : Nat := 2
abbrev blkEarly : Nat := 3

/-- Table 14.12: the blocks that can be reset, by base address bits [23:16]. -/
def resettable (blk : Nat) : Bool := [0x0A, 0x0C, 0x0E, 0x10, 0x12, 0x14, 0x1C, 0x06, 0x26, 0x18].contains blk

/-- A stripe is ARMED or EXPOSING. -/
def State.stripeRuns (s : State) : Bool := s.current.isSome

/-- Table 14.12: the block reports idle. -/
def State.blockIdle (s : State) (blk lane : Nat) : Bool :=
  if blk = 0x0A then (s.opOfKind 8).isNone && s.codec.streams.all (fun x => x.rx.isEmpty && x.cur.isEmpty)
  else if blk = 0x1C then !s.stripeRuns && s.check.recs.all (fun r => r.peer.isNone)
  else if blk = 0x06 then !s.stripeRuns
  else if blk = 0x26 then (s.opOfKind 7).isNone
  else if blk = 0x18 then s.laneSt lane ≠ lnActive || s.rd (Reg.LANE_CTRL.lane_test lane) = 1
  else s.jobSt = jobIdle || s.jobSt = jobDone || s.jobSt = jobFault

/-- R388: a key lies in the registers of a block, or of one lane. -/
def inBlock (blk lane key : Nat) : Bool :=
  let a := key / 32
  if blk = 0x18 then decide (0x180000 + 0x400 * lane ≤ a) && decide (a < 0x180000 + 0x400 * (lane + 1)) else a / 65536 = blk

/-- R388: a field that a block reset keeps: RWS, fused, retained, and the link state of a port. -/
def keptInBlock (key : Nat) : Bool :=
  key = fldKey (Reg.PORT_STATUS.link_up 2) || key = fldKey (Reg.PORT_STATUS.aligned 2) ||
    (match fieldOfKey key with
      | none => false
      | some f => f.acc = .rws || f.tok = .fused || f.tok = .retained)

/-- A stream whose context is cleared: what it carries is skipped up to its next chunk. -/
def clearedStream (x : DstStream) : DstStream :=
  { x with ctx := Ctx.fresh, cur := [], got := 0, rx := [], skipping := true, frozen := false, holding := false, heldChunks := [] }

/-- R388: the on-die memories of a block. -/
def State.clearBlock (s : State) (blk lane : Nat) : State :=
  if blk = 0x0A then { s with codec := { s.codec with streams := s.codec.streams.map clearedStream, ctxRetry := [] } }
  else if blk = 0x0C then { s with sieve := ⟨[], [], [], []⟩ }.stopRender.stopPec
  else if blk = 0x0E then { s with render := RenderState.init }
  else if blk = 0x10 then { s with pec := ⟨PecParams.init, none, 0, []⟩ }
  else if blk = 0x12 then { s with win := { s.win with segs := [], waiting := [], toldP := [], injected := [] } }
  else if blk = 0x14 then { s with shot := ⟨[], [], [], [], [], [], 0, [], []⟩ }
  else if blk = 0x1C then { s.settleParts with check := s.settleParts.check.restarted }
  else if blk = 0x06 then { s with stage := ⟨[], 0, none, s.stage.xoff, s.stage.yoff⟩, net := { s.net with ip6 := setAt s.net.ip6 2 0 } }
  else if blk = 0x18 then { s with lanes := tabErase s.lanes lane, tx := tabErase s.tx lane }
  else s

/-- R388: the block, or the lane, is reset. -/
def State.doBlockReset (s : State) (blk lane : Nat) : State :=
  let s := if blk = 0x18 ∧ s.laneSt lane = lnActive then s.leaveActive lane else s
  let s := s.clearBlock blk lane
  let s : State := { s with
    regs := tabKeep (fun k => !inBlock blk lane k || keptInBlock k) s.regs
    latches := s.latches.map (fun (l : Src × Tab Nat) => (l.1, tabKeep (fun a => !inBlock blk lane (32 * a)) l.2)) }
  let s := if blk = 0x1C then s.wr Reg.CHECK_HIST_FILL.entries s.check.hist.length else s
  if blk = 0x18 ∧ s.fitted lane ∧ s.holdsLanes then s.enterDetect lane else s

/-- R388 to R390: a write of go. -/
def State.blockReset (s : State) (blk lane : Nat) : State :=
  let result :=
    if s.rd Reg.RCU_PHASE.phase < 6 then blkEarly
    else if !resettable blk then blkNone
    else if s.blockIdle blk lane then 0 else blkNotIdle
  let s := s.wr Reg.RCU_BLOCK_RST.result result
  if result = 0 then s.doBlockReset blk lane else s.raise 0x0108 [w blk, w result]

/-- R387: a write of RCU_RESET_CMD. (log 59) -/
def State.resetCmd (s : State) (key cmd : Nat) : State :=
  if key ≠ 0xA5 ∨ (cmd ≠ 1 ∧ cmd ≠ 2) then { s with power := { s.power with badKeys := s.power.badKeys + 1 } }
  else s.assertReset (if cmd = 1 then srcEngine else srcWarm)

/-! ### Contacts (R385, Tables 14.11, 16.5) -/

/-- Table 14.11: EXPOSE_PERMIT; low in effective dry-run (R407). -/
def State.exposePermit (s : State) : Bool :=
  s.rd Reg.RCU_PHASE.phase = 8 && s.holdsLanes && s.rd Reg.PWR_THERM.warning = 0 && s.rd Reg.DMC_STATUS.sc_failed = 0 &&
    s.rd Reg.GLOBAL_MODE_EFF.expose ≠ 1

/-- R411: ALERT_N is low before P8, while a start-up is halted, and while a pending entry has a class of the mask. -/
def State.alertLow (s : State) : Bool :=
  decide (s.rd Reg.RCU_PHASE.phase < 8) || s.rd Reg.RCU_PHASE.halted = 1 ||
    s.evt.ring.any (fun e => evtPending s.evt e && (s.rd Reg.EVT_CTRL.alert_mask).testBit (e.code / 256))

/-- R385: the fused rest state of a shared contact before P8 takes effect once P1 is over: TICK_OUT 0, CYCLE_OUT 1,
ALERT_N 2; 0 low, 1 high impedance, 2 weak pull-down. -/
def State.restState (s : State) (contact : Nat) : Nat :=
  if s.rd Reg.RCU_PHASE.phase < 2 then 0 else bitsOf s.power.fusePins (2 * contact) 2

end Sys2Proof.Machine
end

