-- ==== Sys2Proof/Machine/Write.lean ====
section
/-! DEFINITION. Writing a register of the map: limits on stored values, access codes, what a write does besides storing, the
memory windows (ch. 16, R416, R417, R422 to R424, R427, R431 to R433; R7, R8; the write rules of the other chapters). -/

namespace Sys2Proof.Machine

/-! ### Limits on stored values -/

/-- A field whose stored value is limited: values below `lo` are stored as `below`, above `hi` as `above`. -/
structure Limit where
  fld : Fld
  lo : Nat
  hi : Nat
  below : Nat
  above : Nat
deriving DecidableEq, Repr

/-- A field stored at the nearer bound. -/
def near (f : Fld) (lo hi : Nat) : Limit := ⟨f, lo, hi, lo, hi⟩

/-- The limits of R66, R152, R178, R213, R240, R256, R269, R304, R324, R344, R371, R391, R414 and of Tables 2.11, 3.7, 8.7,
15.13 ("0 reads as 1"). ack_every above its range is stored as written (log 98). -/
def limits : List Limit :=
  [ near Reg.GLOBAL_WDOG.timeout_ms 50 65535, near Reg.SIEVE_EDGE_BUDGET.budget 1 128, near Reg.SHOT_RESERVE_PASSES.rp 0 4,
    near Reg.SHOT_DOSE_NOMINAL.nominal 1 255, near Reg.LANE_GUARD.guard_ns 40 200, near Reg.LANE_PROTO_CTRL.max_replay 1 3,
    near Reg.LANE_BRINGUP.retries 1 15, ⟨Reg.LANE_BRINGUP.preset, 1, 4, 1, 1⟩, near Reg.LANE_ADAPT.miss_limit 1 15,
    near Reg.STG_EXC_LIMIT.limit 1 127, ⟨Reg.TIME_CTRL.port, 0, 2, 0, 1⟩, ⟨Reg.TIME_CTRL.transport, 0, 2, 0, 1⟩ ] ++
  [ near Reg.DMC_QOS.w_rt 1 15, near Reg.DMC_QOS.w_bulk 1 15, near Reg.DMC_QOS.w_record 1 15, near Reg.DMC_QOS.w_scrub 1 15,
    near Reg.DMC_QOS.w_mgmt 1 15, near Reg.DMC_PANIC.low_pct 0 90, near Reg.DMC_ACT.threshold 256 65535,
    near Reg.DMC_ACT.per_us 1 255, near Reg.DMC_SCRUB.period_h 1 48 ] ++
  [ near Reg.CAL_CTRL.shots 1 15, near Reg.CAL_WINDOW.tau_ns 800 6400, near Reg.CAL_WINDOW.window_us 0 5000,
    near Reg.PAIR_CTRL.holdoff 1 255, near Reg.PAIR_HB.half_us 10 255, near Reg.PWR_THERM.warn 0 105,
    near Reg.PEC_F_BASE.f_base 0x100 0xFFFF, ⟨Reg.PEC_CTRL.mode, 0, 2, 0, 0⟩, ⟨Reg.CHECK_CTRL.rec_mode, 0, 2, 0, 1⟩,
    ⟨Reg.CHECK_CTRL.tlog_mode, 0, 2, 0, 2⟩, near Reg.CODEC_CTRL.quantum_kib 1 255, near Reg.EVT_CTRL.resend_ms 1 255,
    near (Reg.PORT_DST_CTRL.ack_every 0) 1 255, near (Reg.PORT_DST_CTRL.ack_every 1) 1 255 ] ++
  (List.range 6).flatMap (fun i =>
    [near (Reg.TIME_PULSE_PERIOD.period_ns (i + 2)) 20 0xFFFFFFFF, near (Reg.TIME_PULSE_CTRL.every_k (i + 2)) 1 65535])

/-- The value stored for a value written to a field. -/
def limited (f : Fld) (x : Nat) : Nat :=
  match limits.find? (fun l => l.fld.addr = f.addr && l.fld.lo = f.lo) with
  | none => x
  | some l => if x < l.lo then l.below else if l.hi < x then l.above else x

/-! ### Storing (R7, R8) -/

/-- R1, Table 14.15: a field that only one variant can write. -/
def State.writable (s : State) (a : Nat) : Bool := !(a = 0x10010 && s.variant = 0)

/-- Registers whose stored value follows from an operation of their own: TIME_INC (R242), the region sizes (R280), CAL_HOST
(R335). -/
def ownWrite (a : Nat) : Bool := a = 0x30010 || a = 0x30014 || (decide (0x80010 ≤ a) && decide (a ≤ 0x8002C)) || a = 0x1E0018

/-- R8: store one field of a written word; reserved fields and RO, WO and W1C fields are not stored. -/
def State.storeField (s : State) (a v : Nat) (mask : Bool) (f : FieldDesc) : State :=
  let stored : Bool := f.acc = .rw || f.acc = .rwc || (f.acc = .rws && !mask)
  if stored then s.wr (fldOf a f) (limited (fldOf a f) (bitsOf v f.lo (f.hi - f.lo + 1))) else s

/-! ### Acknowledging and injecting (R411, R427) -/

/-- R411: every entry is acknowledged for every subscriber. -/
def State.ackAll (s : State) : State :=
  let next := s.rd Reg.EVT_INDEX.next
  { s with evt := { s.evt with
      ackedAll := next, subs := s.evt.subs.map (fun (u : Subscriber) => { u with acked := next, lastAck := s.now }) } }

/-- R427: injections are carried out now. -/
def State.mayInject (s : State) : Bool :=
  s.jobSt = jobIdle || s.jobSt = jobLoading || s.jobSt = jobDone || s.jobSt = jobFault || s.current.any Stripe.dry

/-- R427: the stripe in progress whose line y the window slot holds, in a plane and segment. -/
def State.holdsLine (s : State) (y plane seg : Nat) : Option Nat :=
  let cands := (s.current.map (fun x => x.d.seq)).toList ++ s.render.stripe.toList
  cands.find? (fun q => (s.stripe q).any (fun x => decide (y < x.d.len)) && ((s.winRead q y plane seg).isSome ||
    (s.win.injected.contains (winKey (slotOf y) plane seg) && s.render.stripe = some q)))

/-- R427: the stored check of a window segment is inverted in one bit. -/
def State.injectWindow (s : State) (y plane seg : Nat) : State :=
  let key := winKey (slotOf y) plane seg
  if s.win.injected.contains key then s
  else
    match tabFind s.win.segs key with
    | none => s
    | some g => { s with win := { s.win with
        segs := tabPut s.win.segs key { g with crc := g.crc ^^^ 1 }, injected := key :: s.win.injected } }

/-- R427: the stored check of a DRAM line is inverted in one bit. -/
def State.injectLine (s : State) (line : Nat) : State :=
  if s.dram.injected.contains line then s
  else
    let x := s.dramLine line
    let s := s.setLine line { x with crc := x.crc ^^^ 1 }
    { s with dram := { s.dram with injected := line :: s.dram.injected } }

/-- R427: the stored check of a live trim group no longer holds. -/
def State.injectGroup (s : State) (g : Nat) : State :=
  if s.cal.badGroups.contains g then s
  else { s with cal := { s.cal with badGroups := g :: s.cal.badGroups, injected := g :: s.cal.injected } }

/-- R427: what a go does; none when it is refused. -/
def State.inject? (s : State) (target loc : Nat) : Option State :=
  if !s.mayInject then none
  else if target = 1 ∨ target = 2 then
    let y := loc % 2 ^ 24
    let seg := bitsOf loc 24 5
    if segsOf s.variant ≤ seg ∨ (s.holdsLine y (target - 1) seg).isNone then none else some (s.injectWindow y (target - 1) seg)
  else if target = 3 then (if loc % 2 ^ 30 < s.lineCount then some (s.injectLine (loc % 2 ^ 30)) else none)
  else if target = 4 then (if loc % 2 ^ 12 < beamsOf s.variant / 64 then some (s.injectGroup (loc % 2 ^ 12)) else none)
  else none

/-- R427: a write of go. -/
def State.inject (s : State) : State :=
  match s.inject? (s.rd Reg.TEST_INJECT.target) (s.rd Reg.TEST_INJECT_LOC.loc) with
  | some t => (t.wr Reg.TEST_INJECT.refused 0).inc Reg.TEST_INJECT_CNT.count
  | none => s.wr Reg.TEST_INJECT.refused 1

/-! ### What a write does besides storing -/

/-- Clear fields. -/
def State.zero (s : State) (fs : List Fld) : State := s.wrs (fs.map (fun f => (f, 0)))

/-- R388, R387: GLOBAL, RCU. -/
def State.rcuEffect (s : State) (a v : Nat) : State :=
  if a = 0x10020 then s.resetCmd (bitsOf v 24 8) (bitsOf v 0 2)
  else if a = 0x10024 ∧ v.testBit 31 then s.blockReset (bitsOf v 8 8) (bitsOf v 0 6)
  else s

/-- R256: width_ns is stored as no more than period_ns − 10. -/
def State.limitWidth (s : State) (u : Nat) : State :=
  let top := s.rd (Reg.TIME_PULSE_PERIOD.period_ns u) - 10
  if top < s.rd (Reg.TIME_PULSE_WIDTH.width_ns u) then s.wr (Reg.TIME_PULSE_WIDTH.width_ns u) top else s

/-- R256: a unit that emits no train takes up what is written at an edge after the write. -/
def State.touchPulse (s : State) (u : Nat) : State :=
  match s.trig.pulses[u - 2]? with
  | some p => if p.enable then s
    else { s with trig := { s.trig with pulses := setAt s.trig.pulses (u - 2) { p with last := some s.ns } } }
  | none => s

/-- TIME: R242, R249, R252, R256, R258, R381. -/
def State.timeEffect (s : State) (oldPort a v : Nat) : State :=
  if a = 0x30010 then s.writeIncHi v
  else if a = 0x30014 then s.writeIncLo v
  else if a = 0x30018 then (if s.rd Reg.TIME_CTRL.port = oldPort then s else s.leavePort holdPort)
  else if a = 0x30034 then s.endP7
  else if a = 0x3010C then (if v.testBit 31 then s.submitFirst (v % 2 ^ 24) else s)
  else if 0x30200 ≤ a ∧ a < 0x302C0 then (s.limitWidth ((a - 0x30200) / 0x20 + 2)).touchPulse ((a - 0x30200) / 0x20 + 2)
  else if 0x30400 ≤ a ∧ a < 0x30440 ∧ a % 16 = 0 ∧ v.testBit 31 then s.wr (Reg.TIME_CAP_CTRL.overflow ((a - 0x30400) / 16)) 0
  else s

/-- Ports: R422, R428, R429. -/
def State.portEffect (s : State) (p off v : Nat) : State :=
  if off = 0 then
    (if v.testBit 31 then
      s.zero [Reg.PORT_RX_FRAMES.frames p, Reg.PORT_RX_FCS.fcs p, Reg.PORT_TX_FRAMES.frames p, Reg.PORT_RX_DROP.drops p]
    else s)
  else if off = 0x18 then s.setGroup4 p (v % 2 ^ 32)
  else if off = 0x2C then { s with net := { s.net with ip6 := setAt s.net.ip6 p (s.words6 (Reg.PORT_IPV6.addr p)) } }
  else if off = 0x4C then s.setGroup6 p (s.words6 (Reg.PORT_MCAST6.group p))
  else s

/-- STG: R263 (coast_us is stored as no less than gap_us), R422. -/
def State.stageEffect (s : State) (a : Nat) : State :=
  if a = 0x60008 then s.wr Reg.STG_GAP.coast_us (Nat.max (s.rd Reg.STG_GAP.coast_us) (s.rd Reg.STG_GAP.gap_us))
  else if a = 0x60014 then
    { s with stage := { s.stage with xoff := signedOf 48 (s.rd Reg.STG_XOFF_HI.xoff_hi * 2 ^ 32 + s.rd Reg.STG_XOFF_LO.xoff_lo) } }
  else if a = 0x6001C then
    { s with stage := { s.stage with yoff := signedOf 48 (s.rd Reg.STG_YOFF_HI.yoff_hi * 2 ^ 32 + s.rd Reg.STG_YOFF_LO.yoff_lo) } }
  else s

/-- LANE: R213, R219, R227, R231, R236. -/
def State.laneEffect (s : State) (a v : Nat) : State :=
  if a = 0x190104 then
    (if v.testBit 31 then
      (List.range (lanesOf s.variant)).foldl (fun (s : State) (t : Nat) => s.zero [Reg.LANE_NAKS.naks t, Reg.LANE_NAKS.replays t,
        Reg.LANE_RX_BLANK.blanked t, Reg.LANE_PROTO_ERR.msg_crc t, Reg.LANE_PROTO_ERR.ack_timeouts t,
        Reg.LANE_PROTO_ERR.credit_stalls t, Reg.LANE_PROTO_ERR.late_naks t]) s
    else s)
  else if 0x190000 ≤ a then s
  else
    let t := (a - 0x180000) / 0x400
    let off := a % 0x400
    if off = 0 then
      let s := if v.testBit 0 then s.startLane t else s.disableLane t
      let s := if v.testBit 7 then s.restartLane t else s
      if v.testBit 6 ∧ s.laneSt t = lnActive then s.scheduleRetrain t 2 else s
    else if off = 0x10 then
      let s := if v.testBit 27 then s.injectErrors t 1 else s
      let s := if v.testBit 26 then s.injectBurst t else s
      if v.testBit 25 then s.injectCrc t else s
    else s

/-- The W1C clears of the data path (R126, R152, R304, R324, R371); RENDER_FETCH_ERR goes with RENDER_RERENDER.clear (log 85). -/
def clearFields (a : Nat) : List Fld :=
  if a = 0x80060 then [Reg.DMC_RD_ERR.refetch_ok, Reg.DMC_RD_ERR.refetch_fail]
  else if a = 0xE0010 then [Reg.RENDER_RERENDER.done, Reg.RENDER_RERENDER.dropped, Reg.RENDER_FETCH_ERR.fails]
  else if a = 0x100048 then [Reg.PEC_ERR.f_fail, Reg.PEC_ERR.d_subst]
  else if a = 0x120000 then [Reg.WIN_CHECK_ERR.p_errors, Reg.WIN_CHECK_ERR.rho_errors]
  else if a = 0x1C0030 then
    [Reg.CHECK_LASTING.judged, Reg.CHECK_LASTING.selftest_fail, Reg.CHECK_LOST.rec_lost, Reg.CHECK_LOST.fallbacks]
  else if a = 0x200030 then [Reg.PAIR_ERR.resends, Reg.PAIR_ERR.bad_frames]
  else if a = 0x240004 then [Reg.EVT_PENDING.overflow]
  else []

/-- R144, R280, R335, R411, R427: the other operations a write starts. -/
def State.otherEffect (s : State) (a v : Nat) : State :=
  if 0x80010 ≤ a ∧ a ≤ 0x8002C then s.writeRegion ((a - 0x80010) / 4 + 1) (v % 65536)
  else if a = 0x100008 ∧ v.testBit 0 then s.commitPec
  else if a = 0x1E0018 then (if v.testBit 31 then s.openSession else s)
  else if a = 0x1E001C then
    let s := if v.testBit 1 then s.abortSession else s
    if v.testBit 0 then s.hostCommit else s
  else if a = 0x24000C ∧ v.testBit 0 then s.ackAll
  else if a = 0x260010 ∧ v.testBit 31 then s.inject
  else if v.testBit 31 then s.zero (clearFields a)
  else s

/-- What a write of a word to a register does besides storing its fields. -/
def State.regEffect (s : State) (oldPort a v : Nat) : State :=
  let blk := a / 65536
  if blk = 1 then s.rcuEffect a v
  else if blk = 3 then s.timeEffect oldPort a v
  else if blk = 4 ∨ blk = 5 then s.portEffect (blk - 4) (a % 65536) v
  else if blk = 6 then (if 0x60100 ≤ a then s.portEffect 2 (a - 0x60100) v else s.stageEffect a)
  else if blk = 0x18 ∨ blk = 0x19 then s.laneEffect a v
  else s.otherEffect a v

/-! ### The address space (R416, R417, R431 to R433) -/

/-- R431: the trim table. -/
def inTrims (a : Nat) : Bool := decide (0x1000000 ≤ a) && decide (a < 0x1100000)

/-- R432: the retained SRAM. -/
def inRetained (a : Nat) : Bool := decide (0x2000000 ≤ a) && decide (a < 0x2010000)

/-- R417: the tail of a PEC_KTAB table. -/
def inKtabTail (a : Nat) : Bool :=
  decide (0x101000 ≤ a) && decide (a < 0x103800) && decide (0x204 ≤ (a - 0x101000) % 0x400)

/-- R417: an assigned address. -/
def assigned (a : Nat) : Bool := inTrims a || inRetained a || inKtabTail a || (descAt a).isSome

/-- R433: the registers of lanes that the DK1-131 lacks. -/
def State.absentLane (s : State) (a : Nat) : Bool :=
  s.variant = 1 && decide (0x188000 ≤ a) && decide (a < 0x190000)

/-- R432: a write to the host scratch of the retained SRAM, little-endian; the areas below it are RO. -/
def State.writeScratch (s : State) (off v : Nat) : State :=
  if off < 0x5000 then s
  else { s with power := { s.power with scratch := tabSetRange 0#8 s.power.scratch (off - 0x5000) (toLE 4 v) } }

/-- R393, R8: write a word to an assigned address; with `mask`, RWS fields keep their values (R420). -/
def State.applyReg (s : State) (a v : Nat) (mask : Bool) : State :=
  if inTrims a then s.hostTrim ((a - 0x1000000) / 4) v
  else if inRetained a then s.writeScratch (a - 0x2000000) v
  else if s.absentLane a then s
  else
    match descAt a with
    | none => s
    | some d =>
      let oldPort := s.rd Reg.TIME_CTRL.port
      let s := if ownWrite a ∨ s.writable a = false then s
        else d.fields.foldl (fun (s : State) (f : FieldDesc) => s.storeField a v mask f) s
      s.regEffect oldPort a v

/-- R382: the address names a register with nothing to write. -/
def readOnlyAddr (a : Nat) : Bool :=
  if inTrims a then false
  else if inRetained a then decide (a < 0x2005000)
  else
    match descAt a with
    | none => true
    | some d => d.fields.all (fun f => f.acc = .ro)

/-! ### Commands -/

/-- EVT_ACK_ALL (R411). -/
def execEvtAckAll (v : Bool) (s : State) : Host.Outcome State Fault Refusal := .next (if v then s.ackAll else s)

/-- TEST_INJECT (R427): a write of TEST_INJECT's target and go with TEST_INJECT_LOC. -/
def execTestInject (target loc : Nat) (go : Bool) (s : State) : Host.Outcome State Fault Refusal :=
  let s := s.wrs [(Reg.TEST_INJECT_LOC.loc, loc), (Reg.TEST_INJECT.target, target)]
  .next (if go then s.inject else s)

end Sys2Proof.Machine
end

