-- ==== Sys2Proof/Machine/Read.lean ====
section
/-! DEFINITION. Reading the address space: live values, latched groups, the trim table and the retained SRAM (ch. 16, R421,
R423, R431 to R433; ch. 14, Table 14.1; R39, R72, R258, R324). -/

namespace Sys2Proof.Machine

/-! ### Values computed when they are read -/

/-- The field named has this value now. -/
abbrev Live := List (Fld × Nat)

/-- The mask of the positions below n where p holds. -/
def maskOf (n : Nat) (p : Nat → Bool) : Nat := ((List.range n).map (fun i => if p i then 2 ^ i else 0)).sum

/-- Lanes in ACTIVE. -/
def State.activeMask (s : State) : Nat := maskOf (lanesOf s.variant) (fun t => s.laneSt t = lnActive)

/-- R425: GLOBAL_STATUS. -/
def State.globalStatus (s : State) : Live :=
  let lanes := List.range (lanesOf s.variant)
  [(Reg.GLOBAL_STATUS.ready, b2n (s.rd Reg.RCU_PHASE.phase = 8)), (Reg.GLOBAL_STATUS.alert, b2n s.alertLow),
   (Reg.GLOBAL_STATUS.therm_warn, s.rd Reg.PWR_THERM.warning), (Reg.GLOBAL_STATUS.locked, s.rd Reg.TIME_STATUS.locked),
   (Reg.GLOBAL_STATUS.dram_ready, s.rd Reg.DMC_STATUS.ready), (Reg.GLOBAL_STATUS.sc_failed, b2n (s.rd Reg.DMC_STATUS.sc_failed ≠ 0)),
   (Reg.GLOBAL_STATUS.unprotected, s.rd Reg.PAIR_STATUS.unprotected),
   (Reg.GLOBAL_STATUS.lanes_all, b2n (lanes.all (fun t => s.rd (Reg.LANE_CTRL.enable t) = 0 || s.laneSt t = lnActive))),
   (Reg.GLOBAL_STATUS.role, s.role), (Reg.GLOBAL_STATUS.phase, s.rd Reg.RCU_PHASE.phase), (Reg.GLOBAL_STATUS.job, s.jobSt),
   (Reg.GLOBAL_STATUS.lanes_failed, (lanes.filter (fun t => s.laneSt t = lnFailed)).length)]

/-- R415: the slot of an operation register. -/
def State.opFields (s : State) (i : Nat) : Live :=
  match s.ops.slots.find? (fun o => o.slot = i) with
  | none => []
  | some o => [(Reg.GLOBAL_OP_CTRL.handle i, o.handle), (Reg.GLOBAL_OP_CTRL.kind i, o.kind), (Reg.GLOBAL_OP_CTRL.state i, opCode o.st),
      (Reg.GLOBAL_OP_CTRL.result i, o.result), (Reg.GLOBAL_OP_PROG.permille i, o.permille)]

/-- GLOBAL and RCU: R415, R425, R433, Table 14.9. -/
def State.liveGlobal (s : State) (a : Nat) : Live :=
  if a = 0x4 then [(Reg.GLOBAL_VARIANT.lanes, lanesOf s.variant)]
  else if a = 0x8 then [(Reg.GLOBAL_REV.fw_rev, s.rd Reg.NVL_STATUS.fw_rev)]
  else if a = 0x14 then s.globalStatus
  else if 0x200 ≤ a ∧ a < 0x240 then s.opFields ((a - 0x200) / 8)
  else if a = 0x10004 then
    let stop := if s.rd Reg.RCU_PHASE.phase = 8 then s.power.phaseAt else s.now
    [(Reg.RCU_PHASE.elapsed_us, Nat.min ((stop - s.power.startAt) / 1000) (2 ^ 27 - 1))]
  else if a = 0x1000C ∧ s.variant = 1 then [(Reg.RCU_STRAPS.column, s.rd Reg.RCU_IDENT.column)]
  else []

/-- TIME and STG: R241, R253. -/
def State.liveTime (s : State) (a : Nat) : Live :=
  let sec := s.ns / giga
  if a = 0x30000 then [(Reg.TIME_NOW_SEC_HI.sec_hi, sec / 2 ^ 32)]
  else if a = 0x30004 then [(Reg.TIME_NOW_SEC_LO.sec_lo, sec)]
  else if a = 0x30008 then [(Reg.TIME_NOW_NS.ns, s.ns % giga)]
  else if a = 0x3000C then [(Reg.TIME_NOW_FRAC.frac, s.clk)]
  else if a = 0x30024 then [(Reg.TIME_STATUS.port_state, s.ptpState)]
  else if a = 0x30500 then [(Reg.TIME_TLOG_STAT.backlog, Nat.min 65535 s.backlog)]
  else if a = 0x60020 then [(Reg.STG_STATUS.ready, b2n (s.stageReady s.effMode s.ns))]
  else []

/-- R72: SIEVE_QSTATE. -/
def State.queueState (s : State) : Live :=
  match s.stripe (s.rd Reg.SIEVE_QSEQ.seq) with
  | none => []
  | some x => [(Reg.SIEVE_QSTATE.state, stCode x.st), (Reg.SIEVE_QSTATE.halo_left, b2n (s.haloOk x true)),
      (Reg.SIEVE_QSTATE.halo_right, b2n (s.haloOk x false)), (Reg.SIEVE_QSTATE.under_ok, b2n (s.underOk x)),
      (Reg.SIEVE_QSTATE.trim_frozen, b2n (s.trimFrozen x || (x.st ≠ .pending && x.st ≠ .refused))),
      (Reg.SIEVE_QSTATE.density, b2n (densComplete x)), (Reg.SIEVE_QSTATE.bands, x.bands.length)]

/-- R126: slices with a line or a re-render to do. -/
def State.sliceBusy (s : State) (q : Nat) : Bool :=
  (match s.render.stripe.bind s.stripe with
    | none => false
    | some x => inQueue x && decide (s.render.lines < x.d.len) && mayStart x s.render.lines) || s.render.rerender.any (ofSlice q)

/-- CODEC, SIEVE, RENDER, SHOT: R72, R102, R126, R34. -/
def State.liveData (s : State) (a : Nat) : Live :=
  if a = 0xA0004 then [(Reg.CODEC_STATUS.frozen, maskOf 16 (fun i => (s.stream i).frozen))]
  else if a = 0xA0008 then [(Reg.CODEC_HIST.hist_avail, maskOf 16 (fun i => (s.stream i).opened && (s.stream i).ctx.histAvail && !(s.stream i).lost))]
  else if a = 0xA0010 then
    match s.opOfKind 8 with
    | none => []
    | some o => [(Reg.CODEC_CTX_OP.mode, o.arg % 4), (Reg.CODEC_CTX_OP.streams, o.arg / 4)]
  else if a = 0xC000C then [(Reg.SIEVE_QUEUE.depth, s.queue.length)]
  else if a = 0xC0014 then s.queueState
  else if a = 0xE0000 then [(Reg.RENDER_STATUS.busy, maskOf (slicesOf s.variant) s.sliceBusy)]
  else if a = 0x140020 then [(Reg.SHOT_TURN_REQ.turn_req_us, s.turnReq)]
  else []

/-- R201: the tick period in force: of the window or stripe in progress, else of the last tick. -/
def State.tauNow (s : State) : Option Nat :=
  match s.cal.window, s.current with
  | some c, _ => some c.tau
  | none, some x => some x.d.tau
  | none, none => s.shot.tlog.head?.map (fun e => e.tau)

/-- Percent of a whole, rounded down, at most 100. -/
def percent (used size : Nat) : Nat := Nat.min 100 (used * 100 / Nat.max 1 size)

/-- LANE, CHECK, PWR, EVT: R201, R240, R324, R373, R410. -/
def State.liveRest (s : State) (a : Nat) : Live :=
  if a = 0x190008 then [(Reg.LANE_ACTIVE_LO.active, s.activeMask)]
  else if a = 0x19000C then [(Reg.LANE_ACTIVE_HI.active, s.activeMask / 2 ^ 32)]
  else if a = 0x190108 then (s.tauNow.map (fun tau => (Reg.LANE_REPLAY_CAP.capacity, replayCapacity tau))).toList
  else if a = 0x1C0020 then
    [(Reg.CHECK_SPOOL.rec_pct, percent s.recInUse s.recSize), (Reg.CHECK_SPOOL.rsv_pct, percent s.rsvUsed rsvSize)]
  else if a = 0x220010 then [(Reg.PWR_UPTIME_LO.up_lo, s.upMs)]
  else if a = 0x220014 then [(Reg.PWR_UPTIME_HI.up_hi, s.upMs / 2 ^ 32)]
  else if a = 0x240004 then [(Reg.EVT_PENDING.pending, s.pendingCount)]
  else if a = 0x240018 then [(Reg.EVT_RING.line, s.rd (Reg.DMC_REGION.base 8) * 2 ^ 22)]
  else if a = 0x240014 then [(Reg.EVT_SUBS.count, s.evt.subs.length)]
  else []

/-- The live values of a register. -/
def State.live (s : State) (a : Nat) : Live :=
  let blk := a / 65536
  if blk ≤ 2 then s.liveGlobal a
  else if blk ≤ 6 then s.liveTime a
  else if blk < 0x18 then s.liveData a
  else s.liveRest a

/-! ### The retained SRAM (R374, R432, Table 14.1; the order of fields inside an area is the model's, log 33) -/

/-- An area: its content, zeros, and the CRC-32C of its other bytes. -/
def area (size : Nat) (b : Bytes) : Bytes :=
  let m := padTo (size - 4) b
  m ++ toBE 4 (crc32c m)

/-- Table 14.4. -/
def ResetEnt.bytes (e : ResetEnt) : Bytes :=
  toBE 5 e.upMs ++ toBE 1 e.source ++ toBE 1 (e.reach * 16 + e.phase) ++ toBE 1 (b2n e.merged * 2 + b2n e.inStartup) ++
    toBE 5 e.tick ++ toBE 3 e.seq

/-- The event tail: the entry of index i at slot i mod 256. -/
def State.tailBytes (s : State) : Bytes :=
  (List.range 256).flatMap (fun k => match s.evt.tail.find? (fun e => e.index % 256 = k) with
    | some e => evBytes e
    | none => zeros 64)

/-- Offsets 0 to 0x4FFF of the retained SRAM. -/
def State.retainedArea (s : State) (off : Nat) : Bytes × Nat :=
  let p := s.power
  if off < 0x240 then
    (area 576 (padTo 512 (p.history.reverse.flatMap ResetEnt.bytes) ++ toBE 4 (s.rd Reg.RCU_RESET_CAUSE.count)), off)
  else if off < 0x260 then
    (area 32 (toBE 4 p.lastJob ++ toBE 3 p.lastSeq ++ toBE 5 p.lastTick ++ toBE 3 p.lastS ++ toBE 1 (b2n p.exposing)), off - 0x240)
  else if off < 0x468 then (area 520 ((List.range 64).flatMap (fun t => toBE 8 (tabGet 0 p.laneTicks t))), off - 0x260)
  else if off < 0x480 then
    (area 24 (toBE 2 (s.rd Reg.PAIR_STATUS.epoch) ++ toBE 2 0 ++ toBE 4 (s.rd Reg.PAIR_GEN_TX.gen) ++ toBE 4 (s.rd Reg.PAIR_GEN_ACK.gen)),
      off - 0x468)
  else if off < 0x490 then (area 16 (toBE 2 p.checkerId), off - 0x480)
  else if off < 0x4A0 then
    (area 16 (toBE 1 p.bootSlot ++ toBE 1 (s.rd Reg.NVL_STATUS.marked) ++ toBE 1 p.noReady), off - 0x490)
  else if off < 0x1000 then ([], 0)
  else (s.tailBytes, off - 0x1000)

/-- A byte of the retained SRAM. -/
def State.retainedByte (s : State) (off : Nat) : Byte :=
  if 0x5000 ≤ off then tabGet 0#8 s.power.scratch (off - 0x5000)
  else
    let (b, i) := s.retainedArea off
    b.getD i 0#8

/-- A word of the retained SRAM, its bytes in address order, the first least significant (R423). -/
def State.retainedWord (s : State) (off : Nat) : Nat := leNat ((List.range 4).map (fun i => s.retainedByte (off + i)))

/-! ### Registers -/

/-- R8, R433: a field as it reads: WO fields read 0. -/
def State.readField (s : State) (live : Live) (a : Nat) (f : FieldDesc) : Nat :=
  let fl := fldOf a f
  if f.acc = .wo then 0
  else match live.find? (fun e => e.1.addr = a && e.1.lo = f.lo) with
    | some e => e.2 % 2 ^ fl.width
    | none => s.rd fl

/-- R416, R423: a word of the address space, without latches; reserved space and reserved fields read 0. -/
def State.readReg (s : State) (a : Nat) : Nat :=
  if inTrims a then s.trimView ((a - 0x1000000) / 4)
  else if inRetained a then s.retainedWord (a - 0x2000000)
  else if s.absentLane a then 0
  else
    match descAt a with
    | none => 0
    | some d => (d.fields.map (fun f => s.readField (s.live a) a f * 2 ^ f.lo)).sum

/-! ### Latched groups (R421, Table 16.3) -/

/-- The registers that a read of the first register of a group latches. -/
def groupOf (a : Nat) : List Nat :=
  if a = 0x140010 then [0x140014, 0x140018, 0x14001C]
  else if a = 0x30000 then [0x30004, 0x30008, 0x3000C]
  else if a = 0x3011C then [0x30120, 0x30124]
  else if a = 0x1C0004 then [0x1C0008, 0x1C000C, 0x1C0010, 0x1C0014, 0x1C0018, 0x1C001C]
  else if 0x180000 ≤ a ∧ a < 0x190000 ∧ a % 0x400 = 0x1C then [a + 4]
  else if a = 0x220010 then [0x220014]
  else []

/-- R394, R421: responses and latches are kept by source address. -/
def sameHost (a b : Src) : Bool := a.v6 = b.v6 && a.addr = b.addr

/-- The latches of a reader. -/
def State.latchesOf (s : State) (who : Src) : Tab Nat := ((s.latches.find? (fun l => sameHost l.1 who)).map (fun l => l.2)).getD []

/-- Set latches of a reader; of 8 sources at most (log 49). -/
def State.setLatches (s : State) (who : Src) (vs : List (Nat × Nat)) : State :=
  let t := vs.foldl (fun (t : Tab Nat) (v : Nat × Nat) => tabPut t v.1 v.2) (s.latchesOf who)
  { s with latches := ((who, t) :: s.latches.filter (fun l => !sameHost l.1 who)).take 8 }

/-- R258: the capture unit whose TAG an address is. -/
def capTag (a : Nat) : Option Nat := if 0x30400 ≤ a ∧ a < 0x30440 ∧ a % 16 = 4 then some ((a - 0x30400) / 16) else none

/-- R421: one register read by a reader. -/
def State.readAs (s : State) (who : Src) (a : Nat) : State × Nat :=
  match capTag a with
  | some c =>
    let (s, tag, sec, ns) := s.popCapture c
    (s.setLatches who [(a + 4, sec), (a + 8, ns)], tag)
  | none =>
    if groupOf a ≠ [] then (s.setLatches who ((groupOf a).map (fun b => (b, s.readReg b))), s.readReg a)
    else (s, (tabFind (s.latchesOf who) a).getD (s.readReg a))

/-- R421: n consecutive registers from an address, in increasing order. -/
def State.readRun (s : State) (who : Src) (a : Nat) : Nat → State × List Nat
  | 0 => (s, [])
  | n + 1 =>
    let (s, v) := s.readAs who a
    let (s, vs) := s.readRun who (a + 4) n
    (s, v :: vs)

/-! ### Commands -/

/-- CAPTURE_TAG_READ (R258): a reader reads TIME_CAPc_TAG. -/
def execCaptureTagRead (who : Src) (c : Nat) (s : State) : Host.Outcome State Fault Refusal :=
  .next (s.readAs who (0x30404 + 16 * c)).1

/-- LATCHED_GROUP_READ (R421): a reader reads the first register of a group. -/
def execLatchedGroupRead (who : Src) (a : Nat) (s : State) : Host.Outcome State Fault Refusal :=
  .next (if groupOf a ≠ [] then (s.readAs who a).1 else s)

end Sys2Proof.Machine
end

