-- ==== Sys2Proof/Machine/Power.lean ====
section
/-! DEFINITION. Feeds, reset sources, the phases of a start-up, image loading (ch. 14, R372 to R390; ch. 17, R440, R449; ch. 10,
R293, R297, R301; ch. 11, R311, R312; ch. 8, R221). -/

namespace Sys2Proof.Machine

/-! ### Feeds and PG (R372, R373, R440) -/

/-- PWR_FEED good bit, loss count and voltage of a feed (0 A, 1 B). -/
def feedGoodFld (feed : Nat) : Fld := if feed = 0 then Reg.PWR_FEED.a_good else Reg.PWR_FEED.b_good
def feedLossFld (feed : Nat) : Fld := if feed = 0 then Reg.PWR_FEED.a_losses else Reg.PWR_FEED.b_losses
def feedMvFld (feed : Nat) : Fld := if feed = 0 then Reg.PWR_FEED_V.a_mv else Reg.PWR_FEED_V.b_mv

/-- R440: the PG input of a feed is low. -/
def State.pgLow (s : State) (feed : Nat) : Bool := if feed = 0 then s.power.pgA else s.power.pgB

/-- Set the PG input of a feed. -/
def State.setPg (s : State) (feed : Nat) (low : Bool) : State :=
  { s with power := if feed = 0 then { s.power with pgA := low } else { s.power with pgB := low } }

/-- R372: a feed is lost. -/
def State.loseFeed (s : State) (feed mv : Nat) : State :=
  if s.rd (feedGoodFld feed) = 0 then s
  else ((s.wr (feedGoodFld feed) 0).inc (feedLossFld feed)).raise (if feed = 0 then 0x0101 else 0x0102) [w mv]

/-- R373, R376: the standby supply returns: power-on. -/
def State.powerOn (s : State) : State :=
  let s : State := { s with power := { s.power with standby := true, upFrom := s.now } }
  s.assertReset srcPowerOn

/-- FEED_GOOD (R372, R373, R376): a feed has been above 10.8 V for 10 ms. -/
def execFeedGood (feed mv : Nat) (s : State) : Host.Outcome State Fault Refusal :=
  let s := s.wr (feedMvFld feed) mv
  if s.pgLow feed ∨ s.rd (feedGoodFld feed) = 1 then .next s
  else
    let s := s.wr (feedGoodFld feed) 1
    if s.power.standby = false then .next s.powerOn
    else
      let s := if s.power.sources.any (fun e => e.1 = srcBrownOut) then s.releaseReset srcBrownOut else s
      .next (if 0 < s.rd (feedLossFld feed) then s.raise 0x0103 [w feed] else s)

/-- FEED_LOST (R372): a feed has been below 10.2 V for 20 µs. -/
def execFeedLost (feed mv : Nat) (s : State) : Host.Outcome State Fault Refusal :=
  .next ((s.wr (feedMvFld feed) mv).loseFeed feed mv)

/-- PG_LOW (R440): the feed's hot-swap stage turns off, and the feed is lost whatever its voltage. -/
def execPgLow (feed : Nat) (s : State) : Host.Outcome State Fault Refusal :=
  .next ((s.setPg feed true).loseFeed feed (s.rd (feedMvFld feed)))

/-- PG_RELEASED (R440): the hot-swap stage may turn on again; the feed is good once FEED_GOOD follows. -/
def execPgReleased (feed : Nat) (s : State) : Host.Outcome State Fault Refusal := .next (s.setPg feed false)

/-- BROWN_OUT (R376): both feeds are lost while the standby supply holds. -/
def execBrownOut (s : State) : Host.Outcome State Fault Refusal :=
  if s.rd Reg.PWR_FEED.a_good = 1 ∨ s.rd Reg.PWR_FEED.b_good = 1 ∨ s.power.standby = false then .next s
  else .next (s.assertReset srcBrownOut)

/-- What stays without the standby supply: fuses and the inputs of other equipment. -/
def keptOff (key : Nat) : Bool :=
  key = fldKey Reg.PAIR_STATUS.halyard_in || key = fldKey Reg.PAIR_STATUS.grant || (fieldOfKey key).any (fun f => f.tok = .fused)

/-- STANDBY_SUPPLY_LOST (R373): both feeds are below 7.0 V: everything but NVM and fuses is lost, and the next start-up is a
power-on. -/
def execStandbySupplyLost (s : State) : Host.Outcome State Fault Refusal :=
  .next { State.reset with
    pending := s.pending
    out := s.out
    now := s.now
    freeCnt := s.freeCnt
    regs := tabKeep keptOff s.regs
    power := { PowerState.init with
      pgA := s.power.pgA, pgB := s.power.pgB, nvm := s.power.nvm, svcLow := s.power.svcLow, fusePins := s.power.fusePins } }

/-! ### Reset contacts and sources (R376 to R380, R386, R414) -/

/-- RESET_N_ASSERT (R377): RESET_N has been low for a time (ns); `released`: it is high again. Between 250 ns and 1 µs the
outcome is free. -/
def execResetNAssert (lowNs : Nat) (released : Bool) (s : State) : Host.Outcome State Fault Refusal :=
  let either : Bool := Config.freeNat s.freeCnt % 2 = 1
  let seen : Bool := decide (1000 ≤ lowNs) || (decide (250 ≤ lowNs) && either)
  let s := if 250 ≤ lowNs ∧ lowNs < 1000 then s.bumpFree else s
  if s.power.standby = false ∨ seen = false then .next s
  else
    let s := s.assertReset srcResetN
    .next (if released then s.releaseReset srcResetN else s)

/-- 95 °C in 1/64 °C (R381). -/
def tripClears : Int := 95 * 64

/-- RESET_RELEASE (R379, R381): a source ends: RESET_N rises; a feed is good again after a brown-out; the junction (1/64 °C) is
below 95 °C after a thermal trip. -/
def execResetRelease (src : Nat) (tj : Int) (s : State) : Host.Outcome State Fault Refusal :=
  if src = srcResetN ∨ (src = srcThermal ∧ tj < tripClears) ∨
      (src = srcBrownOut ∧ (s.rd Reg.PWR_FEED.a_good = 1 ∨ s.rd Reg.PWR_FEED.b_good = 1)) then .next (s.releaseReset src)
  else .next s

/-- Note the junction temperature. -/
def State.setTj (s : State) (tj : Int) : State := s.wr Reg.PWR_THERM.tj (toField 16 tj)

/-- THERMAL_WARNING (R386, R350): the junction (1/64 °C) reaches PWR_THERM.warn. -/
def execThermalWarning (tj : Int) (s : State) : Host.Outcome State Fault Refusal :=
  let s := s.setTj tj
  if tj < 64 * (s.rd Reg.PWR_THERM.warn : Int) ∨ s.rd Reg.PWR_THERM.warning = 1 then .next s
  else
    let s := (s.wr Reg.PWR_THERM.warning 1).raise 0x0105 [w (toField 32 tj)]
    .next { s with power := { s.power with hbHigh := false } }

/-- THERMAL_WARNING_CLEAR (R386): the junction is 5 °C below PWR_THERM.warn. -/
def execThermalWarningClear (tj : Int) (s : State) : Host.Outcome State Fault Refusal :=
  let s := s.setTj tj
  if 64 * ((s.rd Reg.PWR_THERM.warn : Int) - 5) < tj then .next s else .next (s.wr Reg.PWR_THERM.warning 0)

/-- THERMAL_TRIP (R376, R386): the junction is at 115 °C. -/
def execThermalTrip (tj : Int) (s : State) : Host.Outcome State Fault Refusal :=
  let s := s.setTj tj
  if tj < 115 * 64 ∨ s.power.standby = false then .next s else .next (s.assertReset srcThermal)

/-- The HKC runs: P3 is over and the module is not held (R382, R392). -/
def State.hkcUp (s : State) : Bool := decide (4 ≤ s.rd Reg.RCU_PHASE.phase) && !s.held

/-- WATCHDOG_EXPIRY (R414): the HKC has not refreshed its watchdog within timeout_ms. -/
def execWatchdogExpiry (s : State) : Host.Outcome State Fault Refusal :=
  if s.hkcUp = false ∨ s.now < s.hkc.alive + 1000000 * s.rd Reg.GLOBAL_WDOG.timeout_ms then .next s
  else
    let s := s.assertReset srcWatchdog
    .next { s with hkc := { s.hkc with alive := s.now } }

/-- ENGINE_RESET (R387): a write of cmd 1 with a key. -/
def execEngineReset (key : Nat) (s : State) : Host.Outcome State Fault Refusal :=
  .next (if s.hkcUp then s.resetCmd key 1 else s)

/-- WARM_RESET (R387): a write of cmd 2 with a key. -/
def execWarmReset (key : Nat) (s : State) : Host.Outcome State Fault Refusal :=
  .next (if s.hkcUp then s.resetCmd key 2 else s)

/-- BLOCK_RESET (R388 to R390): a write of block, lane and go. -/
def execBlockReset (blk lane : Nat) (s : State) : Host.Outcome State Fault Refusal :=
  if s.hkcUp = false then .next s
  else .next ((s.wrs [(Reg.RCU_BLOCK_RST.block, blk), (Reg.RCU_BLOCK_RST.lane, lane)]).blockReset blk lane)

/-! ### Start-up phases (R380, R381, Table 14.5) -/

/-- The start-up runs its phase p: powered, not held, not halted. -/
def State.inPhase (s : State) (p : Nat) : Bool :=
  s.power.standby && !s.held && s.rd Reg.RCU_PHASE.halted = 0 && s.rd Reg.RCU_PHASE.phase = p

/-- R381: the start-up halts in its phase. -/
def State.halt (s : State) : State := s.wr Reg.RCU_PHASE.halted 1

/-- PLL_LOCK (R380): P0 ends. -/
def execPllLock (s : State) : Host.Outcome State Fault Refusal := .next (if s.inPhase 0 then s.nextPhase else s)

/-- R374: clear a retained area (numbered in the order of Table 14.1) whose check has failed. -/
def State.clearArea (s : State) (a : Nat) : State :=
  if a = 0 then ({ s with power := { s.power with history := [] } }).wr Reg.RCU_RESET_CAUSE.count 0
  else if a = 1 then { s with power := { s.power with lastJob := 0, lastSeq := 0, lastTick := 0, lastS := 0, exposing := false } }
  else if a = 2 then { s with power := { s.power with laneTicks := [] } }
  else if a = 3 then
    ({ s with pair := { s.pair with committed := 0, partnerEpoch := 0 } }).wrs
      [(Reg.PAIR_STATUS.epoch, 0), (Reg.PAIR_GEN_TX.gen, 0), (Reg.PAIR_GEN_ACK.gen, 0)]
  else if a = 4 then { s with power := { s.power with checkerId := 0 } }
  else if a = 5 then ({ s with power := { s.power with bootSlot := 0, noReady := 0 } }).wr Reg.NVL_STATUS.marked 0
  else ({ s with evt := { s.evt with tail := [] } }).wr Reg.EVT_INDEX.next 0

/-- FUSE_READ (R374, R380): P1 ends; `bad`: bit a, retained area a fails its check. -/
def execFuseRead (bad : Nat) (s : State) : Host.Outcome State Fault Refusal :=
  if s.inPhase 1 = false then .next s
  else
    let s := (setBits bad 7).foldl (fun (s : State) (a : Nat) => s.clearArea a) s
    .next (s.wr Reg.RCU_RESET_CAUSE.retained_lost (bad % 128)).nextPhase

/-- R384, Table 14.9: the sampled values, from BOOTSEL, CLKMODE and the CFGR code. -/
def State.sampleStraps (s : State) (bootsel clkmode code : Nat) : State :=
  let full : Bool := s.variant = 0
  let pref := if full then bitOf code 3 else bitOf code 0
  s.wrs [(Reg.RCU_STRAPS.cfgr, code), (Reg.RCU_STRAPS.boot, if full then bootsel else bitsOf code 2 2),
    (Reg.RCU_STRAPS.clkmode, if full then clkmode else bitOf code 1), (Reg.RCU_STRAPS.pref, pref),
    (Reg.RCU_STRAPS.column, if full then code % 8 else 0), (Reg.PAIR_CTRL.pref_active, pref)]

/-- STRAP_SAMPLING (R384): P2 ends; the ratio of CFGR to the pull-up supply in 2^-16, of which code n covers n/16 up to
(n + 1)/16. -/
def execStrapSampling (bootsel clkmode ratio : Nat) (s : State) : Host.Outcome State Fault Refusal :=
  if s.inPhase 2 = false then .next s
  else .next (s.sampleStraps bootsel clkmode (ratio % 65536 / 4096)).nextPhase

/-! ### Image slots (R382, R383, R405, Tables 14.7, 14.8) -/

/-- Table 14.6: the address of an image slot. -/
def imageAddr (slot : Nat) : Nat := 0x1000000 * slot

/-- Table 14.7: a header is valid for a variant. -/
def headerValid (v : Nat) (h : Bytes) : Bool :=
  beAt h 0 4 = 0x44494D31 && beAt h 60 4 = crc32c (h.take 60) && decide (64 ≤ beAt h 12 4) && decide (beAt h 12 4 ≤ 4194304) &&
    (byteAt h 8).testBit v

/-- An image: header and body; its body_crc holds. -/
def bodyOk (img : Bytes) : Bool := beAt img 20 4 = crc32c (sub img 64 (beAt img 12 4))

/-- The image in a slot. -/
def State.slotImage (s : State) (slot : Nat) : Bytes :=
  let h := s.nvmBytes (imageAddr slot) 64
  h ++ s.nvmBytes (imageAddr slot + 64) (beAt h 12 4)

/-- A slot's header is valid for the module. -/
def State.slotValid (s : State) (slot : Nat) : Bool := headerValid s.variant (s.nvmBytes (imageAddr slot) 64)

/-- Table 14.15: gen of a slot, 0 when invalid. -/
def State.slotGen (s : State) (slot : Nat) : Nat := if s.slotValid slot then beNat (s.nvmBytes (imageAddr slot + 4) 4) else 0

/-- R383: a slot is marked as failed. -/
def State.marked (s : State) (slot : Nat) : Bool := (s.rd Reg.NVL_STATUS.marked).testBit slot

/-- What Table 14.8 chooses. -/
inductive Choice where
  | slot (i : Nat)
  | service
  | none
deriving DecidableEq, Repr

/-- Table 14.8, R383: the slot to load. -/
def State.choice (s : State) : Choice :=
  let boot := s.rd Reg.RCU_STRAPS.boot
  if boot = 3 then .service
  else if boot < 2 then .slot boot
  else
    let good (i : Nat) : Bool := s.slotValid i && !s.marked i
    if good 0 && good 1 then (if s.slotGen 0 < s.slotGen 1 then .slot 1 else .slot 0)
    else if good 0 then .slot 0
    else if good 1 then .slot 1
    else .none

/-- R382, R420: one option record: applied, or skipped and counted. -/
def State.optionRecord (s : State) (mask : Bool) (r : Nat × Nat) : State :=
  if r.1 % 4 ≠ 0 ∨ assigned r.1 = false ∨ readOnlyAddr r.1 then s.inc Reg.NVL_STATUS.opt_skipped else s.applyReg r.1 r.2 mask

/-- The option records of an image. -/
def optionRecords (img : Bytes) : List (Nat × Nat) :=
  (List.range (Nat.min 4096 (beAt img 16 4))).map (fun i => (beAt img (64 + 8 * i) 4, beAt img (68 + 8 * i) 4))

/-- R341: trims and parameters at the reach of the start-up. -/
def State.restoreTrims (s : State) : State :=
  let s := s.loadParams
  if s.power.running = 2 then s.reloadTrims 2 else s.loadSnap

/-- R345, R371: the role of a module that comes up. (log 41) -/
def State.firstRole (s : State) : State :=
  s.wr Reg.PAIR_STATUS.role (if s.rd Reg.PAIR_CTRL.pair = 0 then roleSolo else roleStandby)

/-- R382: an image is loaded: registers, HKC, snapshot, lists; P3 ends. -/
def State.loadImage (s : State) (slot : Nat) (img : Bytes) : State :=
  let s := s.wrs [(Reg.NVL_STATUS.opt_skipped, 0), (Reg.NVL_STATUS.hold, 0), (Reg.NVL_STATUS.fw_rev, beAt img 10 2),
    (Reg.NVL_STATUS.slot, slot % 2), (Reg.NVL_GEN_A.gen, s.slotGen 0), (Reg.NVL_GEN_B.gen, s.slotGen 1)]
  let s := (optionRecords img).foldl (fun (s : State) (r : Nat × Nat) => s.optionRecord (s.power.running = 2) r) s
  let s : State := { s with hkc := { s.hkc with alive := s.now }, power := { s.power with bootSlot := slot } }
  let s := s.restoreTrims.firstRole.loadLists
  let s := s.wr Reg.DMC_REPAIR.retired s.dram.retired.length
  let other := 1 - slot
  let s := if slot < 2 ∧ s.rd Reg.RCU_STRAPS.boot = 2 ∧ s.marked other then s.raise 0x0107 [w other, w (s.slotGen other)] else s
  s.nextPhase

/-- R383: the load of a slot fails: the slot is marked, and the NVM load failure source asserted. -/
def State.loadFails (s : State) (slot : Nat) : State :=
  (s.wr Reg.NVL_STATUS.marked (withBit (s.rd Reg.NVL_STATUS.marked) slot)).assertReset srcNvm

/-- R383: no slot is left to try. -/
def State.noSlot (s : State) : State := (s.wr Reg.NVL_STATUS.hold 1).halt

/-- OPTION_LOADING (R382, R383): P3 once it has begun (R449); `svc`: the image streamed through the service header for boot source
11. -/
def execOptionLoading (svc : Bytes) (s : State) : Host.Outcome State Fault Refusal :=
  if s.inPhase 3 = false ∨ s.power.p3Begun = false then .next s
  else
    match s.choice with
    | .none => .next s.noSlot
    | .service =>
      if headerValid s.variant svc && bodyOk svc then .next (s.loadImage 2 svc) else .next (s.assertReset srcNvm)
    | .slot i =>
      if s.slotValid i && bodyOk (s.slotImage i) then .next (s.loadImage i (s.slotImage i))
      else if s.rd Reg.RCU_STRAPS.boot < 2 ∧ s.marked i then .next s.noSlot
      else .next (s.loadFails i)

/-- SVC_NVM_EN_N (R449): its level, and what is programmed into NVM while it is low; the access works while RESET_N is low or
NVL_STATUS.hold is set. Low, it holds a P3 that has not begun. -/
def execSvcNvmEnN (low : Bool) (prog : List (Nat × Bytes)) (s : State) : Host.Outcome State Fault Refusal :=
  let isOpen : Bool := low && (s.rd Reg.NVL_STATUS.hold = 1 || s.power.sources.any (fun e => e.1 = srcResetN))
  let s := if isOpen then prog.foldl (fun (s : State) (p : Nat × Bytes) => s.nvmWrite p.1 p.2) s else s
  let s : State := { s with power := { s.power with svcLow := low } }
  if !low ∧ s.inPhase 3 ∧ s.power.p3Begun = false then
    .next { s with power := { s.power with p3Begun := true, phaseAt := s.now } }
  else .next s

/-! ### P4, P5, P6 (R311, R312, R293, R301, R221) -/

/-- CHECKER_SELFTEST (R311, R312, R426): P4 ends, or halts with the identity of the first instance that failed. -/
def execCheckerSelftest (failed : Option Nat) (s : State) : Host.Outcome State Fault Refusal :=
  if s.inPhase 4 = false then .next s
  else
    match failed with
    | none => .next (s.wrs [(Reg.CHECK_SELFTEST.pass, 1), (Reg.CHECK_SELFTEST.failed_id, 0)]).nextPhase
    | some id =>
      let s := s.wrs [(Reg.CHECK_SELFTEST.pass, 0), (Reg.CHECK_SELFTEST.failed_id, id)]
      let s : State := { s with power := { s.power with checkerId := id } }
      .next (s.raise 0x0547 [w id]).halt

/-- R297: degraded mode as DMC_DEGRADE asks: the geometry spool takes the units left. (log 40) -/
def State.setLayout (s : State) : State :=
  let lay := s.dram.chosen
  let s := ({ s with dram := { s.dram with layout := lay } }).wr Reg.DMC_STATUS.degraded (b2n lay.isSome)
  let others := ((List.range 7).map (fun i => s.rd (Reg.DMC_REGION.size (i + 2)))).sum
  (s.wr (Reg.DMC_REGION.size 1) (s.units - others)).setBases

/-- R293: the training of a subchannel: each delay takes the centre of its widest run, unless one is shorter than 16 steps. -/
def State.trainResult (s : State) (runs : List (List (Nat × Nat × Nat))) (temps : List Int) (c : Nat) : State :=
  if s.dram.layout = some c then s.wr (Reg.DMC_TRAIN.result c) 3
  else
    let best := (delaysOf c).map (fun i => bestRun (runs.getD i []))
    let (width, byteLane) := narrowest best
    let s := s.wr (Reg.DMC_TRAIN.width_min c) width
    if width < 16 then
      let s := s.wrs [(Reg.DMC_TRAIN.result c, 2), (Reg.DMC_STATUS.sc_failed, withBit (s.rd Reg.DMC_STATUS.sc_failed) c)]
      s.raise 0x0311 [w c, w byteLane]
    else
      let s := { s with dram := { s.dram with
        trained := tabPut s.dram.trained c s.now
        temps := match temps[c]? with
          | some t => tabPut s.dram.temps c t
          | none => s.dram.temps } }
      (s.centre c best).wr (Reg.DMC_TRAIN.result c) 0

/-- R301: the repair of a listed row at start-up: hPPR, or sPPR again where no resource is left. -/
def State.repairListed (s : State) (noHppr : List Nat) (loc : Nat) : State :=
  let c := bitsOf loc 26 2
  if s.dram.layout = some c ∨ (s.rd Reg.DMC_STATUS.sc_failed).testBit c then s
  else
    let data := [w c, w (bitsOf loc 21 5), w (locRow loc)]
    if noHppr.contains loc then (s.inc Reg.DMC_REPAIR.sppr).raise 0x030C data else (s.inc Reg.DMC_REPAIR.hppr).raise 0x030D data

/-- DRAM_TRAINING (R293, R297, R301): P5 ends. `runs`: the passing runs of each delay, by 10·subchannel + 2·byte lane + (0 read DQS,
1 write DQ); `noHppr`: listed rows without an hPPR resource; `temps`: device temperatures by subchannel. -/
def execDramTraining (runs : List (List (Nat × Nat × Nat))) (noHppr : List Nat) (temps : List Int) (s : State) :
    Host.Outcome State Fault Refusal :=
  if s.inPhase 5 = false then .next s
  else
    let s := s.setLayout
    let s := (List.range 4).foldl (fun (s : State) (c : Nat) => s.trainResult runs temps c) s
    let s := s.dram.listed.foldl (fun (s : State) (l : Nat) => s.repairListed noHppr l) s
    .next (s.wr Reg.DMC_STATUS.ready (b2n (s.rd Reg.DMC_STATUS.sc_failed = 0))).nextPhase

/-- R221, R348: nothing keeps P6 from ending. -/
def State.lanesUp (s : State) : Bool :=
  (s.role ≠ roleSolo && !s.holdsLanes) ||
    (s.lanesWhere (fun t => s.rd (Reg.LANE_CTRL.enable t) = 1)).all
      (fun t => s.laneSt t = lnActive || s.laneSt t = lnFailed || (s.laneSt t = lnDetect && (s.lane t).p6Told))

/-- LANE_BRINGUP_END (R221, R348): P6 ends. -/
def execLaneBringupEnd (s : State) : Host.Outcome State Fault Refusal :=
  .next (if s.inPhase 6 && s.lanesUp then s.nextPhase else s)

/-- Table 14.5: limits of P0 to P4 (ns). -/
def phaseLimit (p : Nat) : Nat := [20000000, 1000000, 2000000, 180000000, 350000000].getD p 0

/-- PHASE_OVERRUN (R381, R449): a phase P0 to P4 has passed its limit; the limit of P3 counts from the moment it begins. -/
def execPhaseOverrun (s : State) : Host.Outcome State Fault Refusal :=
  let p := s.rd Reg.RCU_PHASE.phase
  if s.inPhase p = false ∨ 4 < p ∨ (p = 3 ∧ s.power.p3Begun = false) ∨ s.now ≤ s.power.phaseAt + phaseLimit p then .next s
  else .next s.halt

end Sys2Proof.Machine
end

