-- ==== Sys2Proof/Machine/Ingest.lean ====
section
/-! DEFINITION. The decode engines: chunks framed, judged, decoded and delivered to the owner of their type, and the saving and
restoring of contexts (ch. 3, R75 to R96; ch. 2, R55, R69, R453; ch. 15, R393, R402, R404, R405). -/

namespace Sys2Proof.Machine

/-! ### Delivery (R55, R69, R337, R404, R405, R453, Table 3.6) -/

/-- Table 2.3: the chunk types a stream type permits. -/
def permitted (typ : Nat) : List Nat :=
  if typ = 1 then [1, 4] else if typ = 2 then [2] else if typ = 3 then [3] else if typ = 4 then [5] else if typ = 5 then [4] else []

/-- R56, R58: a chunk of a geometry stream, kept while the stream holds a descriptor. -/
def State.geomDeliver (s : State) (i : Nat) (h : DcfHdr) (r : ChunkRes) : State :=
  if (s.stream i).holding then s.updStream i (fun st => { st with heldChunks := st.heldChunks ++ [(h, r)] })
  else (s.geomChunk i h r).settleHeld

/-- R69, R71, Table 3.6: a seed chunk refused by the codec: its event, and 0x0610 with the refusal of its stripe. -/
def State.seedFailed (s : State) (bid code : Nat) : State :=
  let seq := bid / 65536
  let use := bid % 65536
  let s := s.raise code [w seq, w use]
  if s.stripeSt seq = some .pending then s.refuse seq use 0x0610 else s.raise 0x0610 [w seq, w use]

/-- The pairs of address and value that lie one after another. -/
def pairsOf (b : Bytes) (n : Nat) : List (Nat × Nat) := (List.range n).map (fun i => (beAt b (8 * i) 4, beAt b (8 * i + 4) 4))

/-- R393: the status of a WRITE checked as a whole, and the first pair at fault: 1 address not a multiple of 4, 2 unassigned; 0
passes. -/
def checkPairs (ps : List (Nat × Nat)) : Nat × Nat :=
  match ps.findIdx? (fun p => p.1 % 4 ≠ 0), ps.findIdx? (fun p => !assigned p.1) with
  | some k, _ => (1, k)
  | none, some k => (2, k)
  | none, none => (0, 0)

/-- R393: pairs applied in order; a write that resets the module ends them. (log 52) -/
def State.applyPairs (s : State) : List (Nat × Nat) → State
  | [] => s
  | p :: ps => if s.hkcUp then (s.applyReg p.1 p.2 false).applyPairs ps else s

/-- The record item of 0x0617 when no record is at fault (log 20). -/
abbrev noRecord : Nat := 0xFFFF

/-- R404: a configuration chunk is malformed as a whole. -/
def configBad (bid : Nat) (raw : Bytes) : Bool :=
  decide (raw.length < 8) || beAt raw 0 4 ≠ 0x43460001 || beAt raw 4 4 = 0 || decide (4096 < beAt raw 4 4) ||
    raw.length ≠ 8 + 8 * beAt raw 4 4 || bid ≠ 0

/-- R404: the pairs of a configuration chunk. -/
def configPairs (raw : Bytes) : List (Nat × Nat) := pairsOf (raw.drop 8) (beAt raw 4 4)

/-- R404: a configuration chunk that has passed the codec. -/
def State.configChunk (s : State) (h : DcfHdr) (raw : Bytes) : State :=
  if configBad h.bandId raw then s.raise 0x0617 [w h.seq, w noRecord]
  else
    let (status, k) := checkPairs (configPairs raw)
    if status ≠ 0 then s.raise 0x0617 [w h.seq, w k] else s.applyPairs (configPairs raw)

/-- R405: a firmware chunk is staged after those before it; the final one completes the image. The first chunk of a stream, and
the one after a complete image, begin a new image (log 44). -/
def State.firmwareChunk (s : State) (i : Nat) (h : DcfHdr) (raw : Bytes) : State :=
  let before := if s.codec.fwFull.contains i ∨ h.seq = 0 then [] else tabGet [] s.codec.fwStage i
  let others := s.codec.fwFull.filter (fun k => k ≠ i)
  { s with codec := { s.codec with
      fwStage := tabPut s.codec.fwStage i (before ++ raw)
      fwFull := if h.final then i :: others else others } }

/-- R86, R337, R404: a trim or configuration chunk that its owner refuses. -/
def ownerRefuses (v typ bid : Nat) (raw : Bytes) : Bool :=
  (typ = 3 && trimBad v bid raw) || (typ = 5 && (configBad bid raw || (checkPairs (configPairs raw)).1 ≠ 0))

/-- A chunk of stream i that has passed the codec. One of a type that the stream does not permit is discarded, not refused: its
output counts in the history (log 58). One refused here makes the history unavailable (R84, R86). -/
def State.deliver (s : State) (i typ : Nat) (h : DcfHdr) (raw : Bytes) : State :=
  if !(permitted typ).contains h.typ then s.raise 0x0623 [w i, w h.typ]
  else if typ = 1 then s.geomDeliver i h (.pass raw)
  else if typ = 2 then s.seedChunk i h.bandId raw
  else
    let s := if ownerRefuses s.variant typ h.bandId raw then s.loseHistory i else s
    if typ = 3 then s.trimChunk h.bandId raw
    else if typ = 4 then s.firmwareChunk i h raw
    else s.configChunk h raw

/-- A chunk of stream i that the codec has refused with an event; one of a type that the stream does not permit is discarded under
R55. -/
def State.deliverFail (s : State) (i typ : Nat) (h : DcfHdr) (code : Nat) : State :=
  if 1 ≤ h.typ ∧ h.typ ≤ 7 ∧ !(permitted typ).contains h.typ then s.raise 0x0623 [w i, w h.typ]
  else if typ = 1 then s.geomDeliver i h (.fail code)
  else if typ = 2 then s.seedFailed h.bandId code
  else
    let s := s.raise code [w 0, w (h.bandId % 65536)]
    if typ = 3 then s.raise 0x080B [w (h.bandId % 65536), w 2]
    else if typ = 5 then s.raise 0x0617 [w h.seq, w noRecord]
    else s

/-- R77, R78, R453: a failure of stream i that no whole header names: a framing failure, or a chunk cut short in its header;
`chunk`: a chunk was being assembled. -/
def State.deliverBare (s : State) (i typ code : Nat) (chunk : Bool) : State :=
  if typ = 1 then s.geomDeliver i { parseDcf [] with typ := 1 } (.fail code)
  else
    let s := s.raise code [w 0, w 0]
    if chunk && typ = 3 then s.raise 0x080B [w 0, w 2]
    else if chunk && typ = 5 then s.raise 0x0617 [w 0, w noRecord]
    else s

/-! ### The stream being decoded -/

/-- Bytes of the chunk in progress, header and payload. -/
def DstStream.total (x : DstStream) : Nat := 32 + x.hdr.compSize

/-- Between chunks (Table 3.5, phase 0). -/
def idleCtx (c : Ctx) : Ctx := { Ctx.fresh with histAvail := c.histAvail, hist := c.hist, nextSeq := c.nextSeq }

/-- The chunk in progress is over; the history is unavailable when a chunk before it has been refused meanwhile (R86). -/
def chunkOver (x : DstStream) : DstStream :=
  { x with ctx := idleCtx (if x.lost then noHist x.ctx else x.ctx), cur := [], got := 0, lost := false }

/-- R77 steps 2 and 4: bytes are discarded up to the next chunk_start, and the history is unavailable. -/
def lostFrame (x : DstStream) : DstStream := { chunkOver x with ctx := noHist (idleCtx x.ctx), skipping := true }

/-- A refused chunk whose header is good is followed to its end, so that its framing stays judged. -/
def refusedChunk (x : DstStream) : DstStream :=
  if x.total ≤ x.got then { chunkOver x with ctx := noHist (idleCtx x.ctx) }
  else { x with cur := [], ctx := noHist { x.ctx with phase := .finished, staged := [], chunkOut := 0, bitBuf := 0, bitCount := 0 } }

/-- R77: a framing failure: of the chunk in progress, if there is one. It raises 0x0604 whatever the type of that chunk. -/
def State.framing (s : State) (i : Nat) : State :=
  let x := s.stream i
  let s := s.setStream i (lostFrame x)
  if x.headed && x.decTyp ≠ 1 && (permitted x.decTyp).contains x.hdr.typ then s.deliverFail i x.decTyp x.hdr 0x0604
  else s.deliverBare i x.decTyp 0x0604 x.inChunk

/-- R81, Table 3.3: the event of a reason. -/
def reasonEvent (r : Nat) : Nat := if r = 8 then 0x0602 else if r = 9 then 0x0603 else if r = 10 then 0x0612 else 0x0611

/-- R81, R102: the chunk in progress fails in the decoder. -/
def State.decodeFailed (s : State) (i reason bit : Nat) : State :=
  let x := s.stream i
  let s := (s.setStream i (refusedChunk x)).wrs [(Reg.CODEC_DEC_ERR.stream, i), (Reg.CODEC_DEC_ERR.reason, reason),
    (Reg.CODEC_DEC_ERR.seq, x.hdr.seq), (Reg.CODEC_DEC_BIT.bit, bit)]
  s.deliverFail i x.decTyp x.hdr (reasonEvent reason)

/-- R94, R402: the stream whose image the codec context save operation waits for, in a mode. -/
def State.ctxWaits (s : State) (mode i : Nat) : Bool :=
  (s.opOfKind 8).any (fun o => o.st = .running && o.arg % 4 = mode && o.pos = i && o.image = [])

/-- R93: a checkpoint takes the context at the chunk boundary. -/
def State.captureCheckpoint (s : State) (i : Nat) : State :=
  if s.ctxWaits 1 i && !(s.stream i).inChunk then
    match s.opOfKind 8 with
    | some o => s.setOp false o.handle (fun o => { o with image := contextImage i (s.stream i).ctx })
    | none => s
  else s

/-- R83, R84, R86: the chunk in progress has been decoded: its CRC is checked and it is delivered. At the end of a band the active sends
the stream's image to the standby (R96, R358). -/
def State.chunkDone (s : State) (i : Nat) : State :=
  let x := s.stream i
  let h := x.hdr
  if x.lost then s.decodeFailed i 10 0
  else if x.ctx.crcRun ^^^ 0xFFFFFFFF ≠ h.crc then (s.setStream i (refusedChunk x)).deliverFail i x.decTyp h 0x0601
  else
    let s := (s.setStream i (chunkOver x)).deliver i x.decTyp h x.ctx.staged.reverse
    if x.decTyp = 1 ∧ h.typ = 1 then s.mirror (h.bandId / 65536) (.ctx (imageChunk i h.bandId (contextImage i (s.stream i).ctx)))
    else s

/-- R76, R78, R85, R86: the header of the chunk in progress is whole. After an invalid envelope, whose sizes say nothing, what is left
of the chunk is skipped up to the next chunk_start, and no framing failure or underrun is judged on it (log 80). -/
def State.headerDone (s : State) (i : Nat) (b : Bytes) : State :=
  let x := s.stream i
  let h := parseDcf b
  let good := envelopeOk h i x.ctx.nextSeq && !x.finalSeen
  let c := { x.ctx with dcfHdr := b, nextSeq := (x.ctx.nextSeq + 1) % 2 ^ 32, chunkOut := 0, chunkIn := 0, crcRun := 0xFFFFFFFF, staged := [] }
  let c := if h.histReset then { c with hist := [], histAvail := true } else c
  if !good then (s.setStream i (lostFrame { x with ctx := c, lost := false })).deliverFail i x.decTyp h 0x0604
  else
    let c := { c with phase := if h.raw then .stored else .blockHdr, rawCopy := h.raw }
    let y := { x with ctx := c, finalSeen := h.final, lost := x.lost && !h.histReset }
    if 32 + h.compSize < x.got then (s.setStream i y).framing i
    else if c.histAvail then s.setStream i y
    else (s.setStream i y).decodeFailed i 10 0

/-- Bytes of the header still to come. -/
def State.headerStep (s : State) (i : Nat) : State :=
  let x := s.stream i
  let need := 32 - x.ctx.dcfHdr.length
  let b := x.ctx.dcfHdr ++ x.cur.take need
  let s := s.setStream i { x with cur := x.cur.drop need, ctx := { x.ctx with dcfHdr := b } }
  if b.length = 32 then s.headerDone i b else s

/-- R88, R89: what the engine has left of the bits of a stream: all of them in the bit buffer when input has run out; whole bytes
stay received when the output is full. -/
def leftOver (x : DstStream) (c : Ctx) (v n : Nat) (full : Bool) : DstStream :=
  let k := if full then Nat.min (n / 8) x.cur.length else 0
  let bits := n - 8 * k
  { x with
    cur := x.cur.drop (x.cur.length - k)
    ctx := { c with bitBuf := v % 2 ^ bits, bitCount := bits, chunkIn := x.ctx.chunkIn + (x.cur.length - k) } }

/-- R80, R88, R89: the engine decodes what the stream has received of its chunk, up to `room` bytes of output; with the bytes it
has produced. -/
def State.decodeStep (s : State) (i room : Nat) : State × Nat :=
  let x := s.stream i
  let h := x.hdr
  let v := x.ctx.bitBuf + leNat x.cur * 2 ^ x.ctx.bitCount
  let n := x.ctx.bitCount + 8 * x.cur.length
  let limit := x.ctx.chunkOut + room
  match decodeRun h (decide (x.total ≤ x.got)) limit (n + room + 8) { x.ctx with bitBuf := 0, bitCount := 0 } v n (8 * x.ctx.chunkIn - x.ctx.bitCount) with
  | (c, v, n, .input) => (s.setStream i (leftOver x c v n false), c.chunkOut - x.ctx.chunkOut)
  | (c, v, n, .full) => (s.setStream i (leftOver x c v n true), c.chunkOut - x.ctx.chunkOut)
  | (c, _, _, .failed r b) => ((s.setStream i { x with ctx := c }).decodeFailed i r b, c.chunkOut - x.ctx.chunkOut)
  | (c, _, _, .done) => ((s.setStream i { x with ctx := c }).chunkDone i, c.chunkOut - x.ctx.chunkOut)

/-- R77, R78: the next item that has arrived on a stream whose bytes are used up. -/
def State.nextItem (s : State) (i : Nat) (item : InItem) (rest : List InItem) : State :=
  let x := { s.stream i with rx := rest }
  match item with
  | .opened typ => s.setStream i (reopened typ x)
  | .fin =>
    let s := s.setStream i { chunkOver x with skipping := false, ctx := if x.inChunk then noHist (idleCtx x.ctx) else x.ctx }
    if x.ctx.phase = .header then s.deliverBare i x.decTyp 0x0603 true
    else if x.inChunk ∧ x.ctx.phase ≠ .finished then s.deliverFail i x.decTyp x.hdr 0x0603
    else s
  | .seg start data =>
    if start then
      let s := if x.inChunk then (s.setStream i x).framing i else s.setStream i x
      s.updStream i (fun y => { y with
        skipping := false, cur := data, got := data.length, ctx := { idleCtx y.ctx with phase := .header } })
    else if x.skipping then s.setStream i x
    else if !x.inChunk then (s.setStream i x).framing i
    else
      let y := { x with cur := x.cur ++ data, got := x.got + data.length }
      let s := s.setStream i y
      if y.headed && decide (y.total < y.got) then s.framing i
      else if y.ctx.phase = .finished then s.setStream i (refusedChunk y)
      else s

/-- The engine has work on the stream without another item. -/
def DstStream.hasBytes (x : DstStream) : Bool :=
  x.inChunk && x.ctx.phase ≠ .finished &&
    (!x.cur.isEmpty || x.ctx.phase = .matchCopy || (x.headed && decide (x.total ≤ x.got)))

/-- R88: one engine on one stream, until input runs out, `room` bytes have been produced, or a save is requested. -/
def State.engine (s : State) (i : Nat) : Nat → Nat → State
  | 0, _ => s
  | fuel + 1, room =>
    let x := s.stream i
    if room = 0 ∨ x.frozen ∨ (s.ctxWaits 1 i && !x.inChunk) then s
    else if x.hasBytes then
      if x.ctx.phase = .header then (s.headerStep i).engine i fuel room
      else
        let (t, made) := s.decodeStep i room
        t.engine i fuel (room - made)
    else
      match x.rx with
      | [] => s
      | item :: rest => (s.nextItem i item rest).engine i fuel room

/-- R88: a stream has received what it has not yet decoded. -/
def DstStream.waits (x : DstStream) : Bool := !x.frozen && (x.hasBytes || !x.rx.isEmpty)

/-- R88: the stream that takes a free engine: from the one after that served last. -/
def State.nextStream (s : State) : Option Nat :=
  ((List.range 16).map (fun k => (s.codec.lastServed + 1 + k) % 16)).find? (fun i => (s.stream i).waits)

/-- R88, R103: bytes an engine's turn may produce: its buffer of 4,096, or the quantum when another stream waits. -/
def State.turnRoom (s : State) (i : Nat) : Nat :=
  let others : Bool := (List.range 16).any (fun k => k ≠ i && (s.stream k).waits)
  if others then Nat.min 4096 (1024 * s.rd Reg.CODEC_CTRL.quantum_kib) else 4096

/-- R50: a window that has shrunk is told. -/
def State.shrinkWindow (s : State) (i : Nat) : State :=
  let x := s.stream i
  if x.opened && decide (s.windowOf x < x.win) then s.ackStream i else s

/-- Table 10.1, R86: the context of a stream fails its check: its history becomes unavailable. -/
def State.contextFailed (s : State) (i : Nat) : State :=
  (s.updStream i (fun x => { x with ctx := noHist x.ctx })).failAt (entryLoc memContext i)

/-- DECODE_ENGINE_ASSIGN (R88): the turn of one engine; `bad`: the context of the stream fails its check (Table 10.1). -/
def execDecodeEngineAssign (bad : Bool) (s : State) : Host.Outcome State Fault Refusal :=
  match s.nextStream with
  | none => .next s
  | some i =>
    let s : State := { s with codec := { s.codec with lastServed := i } }
    let s := if bad then s.contextFailed i else s
    let x := s.stream i
    let s := (s.engine i (4 * (x.rx.length + 2)) (s.turnRoom i)).captureCheckpoint i
    .next ((List.range 16).foldl (fun (s : State) (k : Nat) => s.shrinkWindow k) s)

end Sys2Proof.Machine
end

