-- ==== Sys2Proof/Machine/Save.lean ====
section
/-! DEFINITION. The codec context save operation (kind 8): checkpoint, save-out and restore, stream by stream, lowest first
(ch. 3, R91 to R96; ch. 15, R402, Table 15.6). -/

namespace Sys2Proof.Machine

/-- Kind and modes of the operation; its argument is mode + 4 · stream mask. -/
abbrev kindCtx : Nat := 8
abbrev ctxCheckpoint : Nat := 1
abbrev ctxSaveOut : Nat := 2
abbrev ctxRestore : Nat := 3

/-- R93: a save-out freezes the stream, which advertises W = 0, and takes its context at once. -/
def State.freeze (s : State) (o : LongOp) (i : Nat) : State :=
  let x := s.stream i
  let s := s.setOp false o.handle (fun o => { o with image := contextImage i x.ctx })
  let s := s.setStream i { x with frozen := true }
  if x.opened then s.ackStream i else s

/-- The operation comes to stream i. -/
def State.beginCtx (s : State) (o : LongOp) (i : Nat) : State :=
  if o.arg % 4 = ctxCheckpoint then s.captureCheckpoint i
  else if o.arg % 4 = ctxSaveOut then s.freeze o i
  else s

/-- R402: the operation between two streams: it stops there when asked to, or goes on to the lowest stream left, or is done. -/
def State.ctxGo (s : State) : State :=
  match s.opOfKind kindCtx with
  | none => s
  | some o =>
    if o.cancelling then s.setOp false o.handle (fun o => { o with st := .cancelled, image := [] })
    else if o.st = .suspending then s.setOp false o.handle (fun o => { o with st := .suspended, image := [] })
    else
      let mask := o.arg / 4
      match (List.range 16).find? (fun i => mask.testBit i && decide (o.pos ≤ i)) with
      | none => s.setOp false o.handle (fun o => { o with st := .done, permille := 1000, image := [] })
      | some i =>
        let pm := 1000 * popcount (mask % 2 ^ i) 16 / Nat.max 1 (popcount mask 16)
        let s := s.setOp false o.handle (fun o => { o with pos := i, image := [], permille := pm })
        s.beginCtx o i

/-- The operation goes on to the stream after i. -/
def State.ctxAfter (s : State) (o : LongOp) (i : Nat) : State :=
  ({ s with codec := { s.codec with ctxRetry := s.codec.ctxRetry.filter (fun k => k ≠ i) } }.setOp false o.handle
    (fun o => { o with pos := i + 1, image := [] })).ctxGo

/-- R94, R96: stream i as it was before the request: frozen only while an earlier save-out of it stands. -/
def State.unsave (s : State) (o : LongOp) (i : Nat) : State :=
  let s : State := { s with codec := { s.codec with ctxRetry := s.codec.ctxRetry.filter (fun k => k ≠ i) } }
  if o.arg % 4 = ctxSaveOut then s.updStream i (fun x => { x with frozen := x.saveOut.isSome }) else s

/-- R94: the chunk of the image is in its slot; output of the chunk in progress lies beside it in the spool. -/
def storeSlot (mode : Nat) (chunk : Bytes) (x : DstStream) : DstStream :=
  if mode = ctxCheckpoint then { x with checkpoint := some (chunkSlot chunk []) }
  else { x with saveOut := some (chunkSlot chunk x.ctx.staged) }

/-- R94: the verified write of the image's chunk ends; a checkpoint asked for by the host carries band_id 0 (Table 3.2). -/
def State.imageStored (s : State) (o : LongOp) (ok : Bool) : State :=
  let i := o.pos
  if o.cancelling then (s.unsave o i).setOp false o.handle (fun o => { o with st := .cancelled, image := [] })
  else if ok then (s.updStream i (storeSlot (o.arg % 4) (imageChunk i 0 o.image))).ctxAfter o i
  else if s.codec.ctxRetry.contains i then
    ((s.unsave o i).raise 0x0901 [w i]).setOp false o.handle (fun o => { o with st := .failed, result := 1, image := [] })
  else { s with codec := { s.codec with ctxRetry := i :: s.codec.ctxRetry } }

/-- CONTEXT_IMAGE_STORE_DONE (R94): `ok`: every line passes its check when read back. -/
def execContextImageStoreDone (ok : Bool) (s : State) : Host.Outcome State Fault Refusal :=
  match s.opOfKind kindCtx with
  | none => .next s
  | some o => if o.image = [] ∨ (o.st ≠ .running ∧ o.st ≠ .suspending) then .next s else .next (s.imageStored o ok)

/-! ### Restore (R95) -/

/-- The image a restore loads: the save-out, else the newest checkpoint (log 46). -/
def DstStream.slot (x : DstStream) : Option SaveSlot :=
  match x.saveOut with
  | some sl => some sl
  | none => x.checkpoint

/-- R95: the context a restore of stream i would load; none when the restore would fail. -/
def State.restorable (s : State) (i : Nat) : Option Ctx :=
  let x := s.stream i
  if x.opened && !x.frozen then none
  else match x.slot with
    | none => none
    | some sl =>
      if sl.good then ((unpackChunk sl.chunk).bind (parseImage i)).map (fun c => { c with staged := sl.staged }) else none

/-- R95: the context is loaded and the freeze cleared; payload that has arrived of another chunk is not carried over. -/
def restored (x : DstStream) (c : Ctx) : DstStream :=
  let cur := if c.phase = .between then [] else x.cur
  { x with
    ctx := c, cur := cur, got := if c.phase = .between then 0 else c.dcfHdr.length + c.chunkIn + cur.length, skipping := false
    frozen := false, saveOut := none, win := 128 }

/-- R95: one stream of a restore ends. -/
def State.restoreOne (s : State) (o : LongOp) (ok : Bool) : State :=
  let i := o.pos
  match (if ok then s.restorable i else none) with
  | none => (s.raise 0x0902 [w i]).setOp false o.handle (fun o => { o with st := .failed, result := 2 })
  | some c =>
    let s := s.updStream i (fun x => restored x c)
    let s := if (s.stream i).opened then s.ackStream i else s
    s.ctxAfter o i

/-- CONTEXT_RESTORE_DONE (R95): `ok`: the chunk and the image read from DRAM pass their checks. -/
def execContextRestoreDone (ok : Bool) (s : State) : Host.Outcome State Fault Refusal :=
  match s.opOfKind kindCtx with
  | none => .next s
  | some o =>
    if o.arg % 4 ≠ ctxRestore ∨ (o.st ≠ .running ∧ o.st ≠ .suspending) then .next s else .next (s.restoreOne o ok)

end Sys2Proof.Machine
end

