-- ==== Sys2Proof/Machine/LongOps.lean ====
section
/-! DEFINITION. Long operations: starting, stopping and ending them (ch. 15, R397 to R405, Table 15.6; ch. 12, R339, R340, R342;
ch. 16, R426; ch. 8, R235 to R238; ch. 10, R294, R298). -/

namespace Sys2Proof.Machine

/-! ### Slots and handles (R401) -/

/-- Kinds of Table 15.6 that have no name yet. -/
abbrev kindJob : Nat := 1
abbrev kindSnapshot : Nat := 3
abbrev kindSelfTest : Nat := 7
abbrev kindFirmware : Nat := 9

/-- R401: a handle in use: of an operation in a slot, or of a finished one still readable. -/
def State.handleUsed (s : State) (h : Nat) : Bool :=
  s.ops.slots.any (fun o => o.handle = h) || s.ops.done.any (fun o => o.handle = h)

/-- R401: the next handle: 1 to 65,535, rising, skipping those in use. -/
def State.newHandle (s : State) : Nat :=
  ((List.range 80).map (fun k => (s.ops.next + 65534 + k) % 65535 + 1)).find? (fun h => !s.handleUsed h) |>.getD s.ops.next

/-- The unfinished operations. -/
def State.liveOps (s : State) : List LongOp := s.ops.slots.filter (fun o => !opFinished o)

/-- R401: the limits on operations let one of a kind start. -/
def State.mayStart (s : State) (kind : Nat) : Bool := decide (s.liveOps.length < 8) && (s.opOfKind kind).isNone

/-- R415: the lowest slot without an unfinished operation. -/
def State.freeSlot (s : State) : Nat := ((List.range 8).find? (fun i => !s.liveOps.any (fun o => o.slot = i))).getD 0

/-- R401, R402: an operation starts, running, with event 0x0A03. -/
def State.newOp (s : State) (kind arg : Nat) (image : Bytes) : State :=
  let h := s.newHandle
  let slot := s.freeSlot
  let o : LongOp := ⟨h, kind, .running, 0, 0, slot, arg, 0, false, image⟩
  let s : State := { s with ops := { s.ops with
    slots := o :: s.ops.slots.filter (fun x => x.slot ≠ slot), next := h % 65535 + 1 } }
  (s.tell true 0x0A03 [w h, w kind, w 1, w 0]).hold (fun a => a = 0x200 + 8 * slot || a = 0x204 + 8 * slot)

/-- The operation a handle names: unfinished, or finished and still readable (R401). -/
def State.findOp (s : State) (h : Nat) : Option LongOp :=
  match s.liveOps.find? (fun o => o.handle = h) with
  | some o => some o
  | none => s.ops.done.find? (fun o => o.handle = h)

/-! ### NVM snapshot (R339, R340) -/

/-- R340 step 2: the target slot. -/
def State.snapTarget (s : State) : Nat :=
  match s.newestSnap with
  | some k => 1 - k
  | none => 0

/-- R340 step 4: the generation of a new snapshot. -/
def State.snapNextGen (s : State) : Nat :=
  match s.newestSnap with
  | some k => s.snapGenOf k + 1
  | none => 1

/-- R339: the body: the live bank and the parameter block. -/
def State.snapBody (s : State) : Bytes :=
  bankBytes s.variant s.cal.live ++ padTo 64 (calParams.flatMap (fun a => toBE 4 (s.readReg a)))

/-- R339, Table 12.4: header and body of a snapshot now. -/
def State.snapImage (s : State) : Bytes :=
  let body := s.snapBody
  let h := toBE 4 0x43534E31 ++ toBE 4 s.snapNextGen ++ toBE 4 (if s.jobSt = jobIdle then 0 else s.rd Reg.GLOBAL_JOB_ID.job) ++
    toBE 3 (s.rd Reg.CAL_STATUS.seq) ++ toBE 1 s.variant ++ toBE 4 body.length ++ toBE 4 (crc32c body) ++ zeros 36
  h ++ toBE 4 (crc32c h) ++ body

/-- Bytes of a snapshot slot and of an image slot (Table 14.6). -/
abbrev snapSlotBytes : Nat := 0x200000
abbrev imageSlotBytes : Nat := 0x1000000

/-- R340 steps 1 to 3: the staged copy is made and the target erased. -/
def State.startSnapshot (s : State) : State :=
  let slot := s.snapTarget
  (s.newOp kindSnapshot slot s.snapImage).nvmErase (snapAddr slot) snapSlotBytes

/-- R340: the reading back is the step that fails (log 20). -/
abbrev stepReadBack : Nat := 5

/-- R340: the snapshot is in its slot, or the store has failed and the slot is invalid. (log 101) -/
def State.endSnapshot (s : State) (o : LongOp) (ok : Bool) : State :=
  if ok then
    let s := s.nvmWrite (snapAddr o.arg) o.image
    let gen := beAt o.image 4 4
    ((s.wr Reg.CAL_SNAP_GEN.gen gen).raise 0x0809 [w o.arg, w gen]).setOp false o.handle
      (fun o => { o with st := .done, permille := 1000, image := [] })
  else
    (s.raise 0x080A [w o.arg, w stepReadBack]).setOp false o.handle (fun o => { o with st := .failed, result := 0x0A, image := [] })

/-! ### Firmware update (R405) -/

/-- Reasons of 0x0618 (numbered by the model, log 20). -/
abbrev fwBadHeader : Nat := 1
abbrev fwBadBody : Nat := 2
abbrev fwReadBack : Nat := 4

/-- R405: what the checks of a staged image find; 0 nothing. -/
def fwFault (v : Nat) (img : Bytes) : Nat :=
  if img.length < 64 ∨ !headerValid v img then fwBadHeader
  else if img.length ≠ 64 + beAt img 12 4 ∨ !bodyOk img then fwBadBody
  else 0

/-- R405: the generation of a new image: one above the newer valid one. -/
def State.fwNextGen (s : State) : Nat := Nat.max (s.slotGen 0) (s.slotGen 1) + 1

/-- R405, Table 14.7: the image with its generation, its header checked anew. -/
def withGen (img : Bytes) (gen : Nat) : Bytes :=
  let h := img.take 4 ++ toBE 4 gen ++ sub img 8 52
  h ++ toBE 4 (crc32c h) ++ img.drop 64

/-- R405: the slot that is not loaded. -/
def State.fwTarget (s : State) : Nat := 1 - s.rd Reg.NVL_STATUS.slot

/-- R405: the operation checks the image staged on a stream; one that passes is to be programmed into the erased target. -/
def State.startFirmware (s : State) (i : Nat) : State :=
  let img := tabGet [] s.codec.fwStage i
  let why := fwFault s.variant img
  let s := s.newOp kindFirmware i (withGen img s.fwNextGen)
  if why = 0 then s.nvmErase (imageAddr s.fwTarget) imageSlotBytes
  else (s.raise 0x0618 [w i, w why]).endOp true kindFirmware .failed 0x18

/-- NVL_GEN_A and NVL_GEN_B follow the slots. -/
def State.noteGens (s : State) : State := s.wrs [(Reg.NVL_GEN_A.gen, s.slotGen 0), (Reg.NVL_GEN_B.gen, s.slotGen 1)]

/-- R405: the image is in its slot, or has failed and the slot is invalid. -/
def State.endFirmware (s : State) (o : LongOp) (ok : Bool) : State :=
  if ok then ((s.nvmWrite (imageAddr s.fwTarget) o.image).noteGens).setOp false o.handle
    (fun o => { o with st := .done, permille := 1000, image := [] })
  else (s.noteGens.raise 0x0618 [w o.arg, w fwReadBack]).setOp false o.handle
    (fun o => { o with st := .failed, result := 0x18, image := [] })

/-! ### Starting (R401, Table 15.6) -/

/-- R396: a job enters ARMED, which is a commit point (R336); the standby hears of it (R399, log 50). (log 56) -/
def State.armJob (s : State) : State := (((s.setJob true jobArmed).commitPoint none).checkJobEnd).mirrorPointers 0

/-- The job is ARMED, EXPOSING, TURNAROUND or SUSPENDED. -/
def State.jobRuns (s : State) : Bool := decide (jobArmed ≤ s.jobSt) && decide (s.jobSt ≤ jobSuspended)

/-- R342: the sweep is refused. -/
def State.sweepRefused (s : State) : Bool := s.jobRuns || s.bwNow = 0

/-- R294, Table 15.6: the retrain operation begins. -/
def State.startRetrain (s : State) (mask : Nat) : State :=
  let s := s.newOp kindRetrain mask []
  let s : State := { s with dram := { s.dram with due := setBits mask 4 } }
  if mask = 0 then s.endOp true kindRetrain .done 0
  else if s.jobQuiet then s
  else match s.opOfKind kindRetrain with
    | some o => s.setOp true o.handle (fun o => { o with st := .waiting })
    | none => s

/-- R237, R238: the named lanes whose test is refused, and the event of each. -/
def State.berRefused (s : State) (mask : Nat) : List Nat := (setBits mask 64).filter (fun t => !s.testAllowed t)

def State.tellBerRefused (s : State) (mask : Nat) : State :=
  (s.berRefused mask).foldl (fun (s : State) (t : Nat) => s.raise 0x0408 [w t, w (s.rd (Reg.LANE_TEST.test t))]) s

/-- R426: a self-test begins. -/
def State.startSelfTest (s : State) (mask : Nat) : State := (s.newOp kindSelfTest mask []).wr Reg.TEST_ST_RESULT.done 0

/-- R95: a restore of the named streams would fail. -/
def State.ctxRefused (s : State) (mode mask : Nat) : Bool :=
  mode = ctxRestore && (setBits mask 16).any (fun i => (s.restorable i).isNone)

/-- Table 15.6: bytes of the operands of a kind. -/
def opOperands (kind : Nat) : Nat :=
  if kind = kindRetrain ∨ kind = kindFirmware then 1 else if kind = kindBer then 8 else if kind = kindSelfTest then 4
  else if kind = kindCtx then 3 else 0

/-- Statuses 1 and 3 of an OP_START of a kind with its operands (Table 15.6); 0 when neither applies. -/
def State.startStatus (s : State) (kind : Nat) (b : Bytes) : Nat :=
  if kind = kindJob then (if s.jobSt = jobLoading then 0 else 3)
  else if kind = kindSweep then (if s.sweepRefused then 3 else 0)
  else if kind = kindSnapshot then (if (s.opOfKind kindFirmware).isSome then 3 else 0)
  else if kind = kindRetrain then
    let mask := beAt b 0 1
    if 15 < mask then 1
    else if mask &&& (s.rd Reg.DMC_STATUS.sc_failed ||| (match s.dram.layout with | some c => 2 ^ c | none => 0)) ≠ 0 then 3 else 0
  else if kind = kindBer then (if s.berRefused (beAt b 0 8) = [] then 0 else 3)
  else if kind = kindSelfTest then
    (if 4096 ≤ beAt b 0 4 then 1 else if s.jobSt = jobIdle ∨ s.jobSt = jobDone ∨ s.jobSt = jobFault then 0 else 3)
  else if kind = kindCtx then
    (if beAt b 0 1 = 0 ∨ 3 < beAt b 0 1 then 1 else if s.ctxRefused (beAt b 0 1) (beAt b 1 2) then 3 else 0)
  else if kind = kindFirmware then
    (if 15 < beAt b 0 1 then 1
     else if (s.opOfKind kindSnapshot).isSome ∨ !s.codec.fwFull.contains (beAt b 0 1) then 3 else 0)
  else 0

/-- The events a refused OP_START raises (R237, R342). -/
def State.startRefused (s : State) (kind : Nat) (b : Bytes) : State :=
  if kind = kindSweep ∧ s.bwNow = 0 then s.raise 0x0801 [w (s.rd Reg.CAL_WINDOW.window_us), w (s.rd Reg.CAL_WINDOW.tau_ns)]
  else if kind = kindBer then s.tellBerRefused (beAt b 0 8)
  else s

/-- An accepted OP_START. -/
def State.startKind (s : State) (kind : Nat) (b : Bytes) : State :=
  if kind = kindJob then (s.newOp kind 0 []).armJob
  else if kind = kindSweep then
    let s := s.newOp kind 0 []
    { s with cal := { s.cal with sweepLeft := 4096 } }
  else if kind = kindSnapshot then s.startSnapshot
  else if kind = kindScrub then
    let s := s.newOp kind 0 []
    { s with dram := { s.dram with scrubOp := true } }
  else if kind = kindRetrain then s.startRetrain (beAt b 0 1)
  else if kind = kindBer then (s.newOp kind (beAt b 0 8) []).nextBer
  else if kind = kindSelfTest then s.startSelfTest (beAt b 0 4)
  else if kind = kindCtx then (s.newOp kind (beAt b 0 1 + 4 * beAt b 1 2) []).ctxGo
  else s.startFirmware (beAt b 0 1)

/-- R401: OP_START: status, handle. -/
def State.opStart (s : State) (payload : Bytes) : State × Nat × Nat :=
  let kind := byteAt payload 0
  if payload.length < 4 ∨ beAt payload 1 3 ≠ 0 then (s, 1, 0)
  else if kind = 0 ∨ 9 < kind then (s, 7, 0)
  else
    let b := payload.drop 4
    if b.length ≠ opOperands kind then (s, 1, 0)
    else
      let status := s.startStatus kind b
      if status = 1 then (s, 1, 0)
      else if status ≠ 0 then (s.startRefused kind b, status, 0)
      else if !s.mayStart kind then (s, 4, 0)
      else (s.startKind kind b, 0, s.newHandle)

/-! ### Suspending, resuming, cancelling (R397 to R402) -/

/-- R397, R402, Table 15.6: a suspend or cancel of the operation takes effect at once. -/
def State.atPoint (s : State) (o : LongOp) : Bool :=
  if o.st = .suspended then true
  else if o.kind = kindJob then s.jobSt ≠ jobExposing && s.current.isNone
  else if o.kind = kindSweep then !s.cal.window.any (fun c => c.sweep)
  else if o.kind = kindRetrain then !s.dram.train.any (fun t => t.op)
  else if o.kind = kindBer then (setBits o.arg 64).all (fun t => s.rd (Reg.LANE_TEST.running t) = 0)
  else if o.kind = kindCtx then o.arg % 4 ≠ ctxRestore && o.image = []
  else false

/-- R402, Table 15.6: a suspend takes effect. -/
def State.suspendOp (s : State) (o : LongOp) : State :=
  if o.kind = kindJob then (s.suspendJob false).mirrorPointers 0
  else if o.kind = kindRetrain then
    let rest := s.dram.due.foldl withBit 0
    let s := s.setOp false o.handle (fun o => { o with st := .suspended, pos := rest })
    { s with dram := { s.dram with due := [] } }
  else s.setOp false o.handle (fun o => { o with st := .suspended })

/-- R340, R405: a cancelled store leaves its target invalid. -/
def State.dropStore (s : State) (o : LongOp) : State :=
  if o.kind = kindSnapshot then s.nvmErase (snapAddr o.arg) snapSlotBytes
  else if o.kind = kindFirmware then (s.nvmErase (imageAddr s.fwTarget) imageSlotBytes).noteGens
  else s

/-- R398, R402, Table 15.6: a cancel takes effect. -/
def State.cancelOp (s : State) (o : LongOp) : State :=
  if o.kind = kindJob then (s.cancelJob false).mirrorPointers 0
  else
    let s := s.dropStore o
    let s := if o.kind = kindBer then s.dropTests o.arg else s
    let s := if o.kind = kindScrub then { s with dram := { s.dram with scrubOp := false } } else s
    let s := if o.kind = kindRetrain then { s with dram := { s.dram with due := [] } } else s
    s.setOp false o.handle (fun o => { o with st := .cancelled, image := [] })

/-- R402: OP_SUSPEND of an unfinished operation. -/
def State.opSuspend (s : State) (o : LongOp) : State × Nat :=
  if o.kind = kindJob ∧ s.role = roleStandby then (s, 3)
  else if o.st = .suspending ∨ o.st = .suspended then (s, 0)
  else
    let s := s.setOp true o.handle (fun o => { o with st := .suspending })
    if s.atPoint o then (s.suspendOp o, 0)
    else if o.kind = kindJob then ({ s with job := { s.job with suspendPending := true } }, 0)
    else (s, 0)

/-- R402: a resume of a suspending operation withdraws the suspend. -/
def State.withdraw (s : State) (o : LongOp) : State :=
  let s : State := if o.kind = kindJob then { s with job := { s.job with suspendPending := false } } else s
  s.setOp true o.handle (fun o => { o with st := .running })

/-- R397, R402, Table 15.6: a suspended operation goes on. -/
def State.resumeOp (s : State) (o : LongOp) : State :=
  let s := s.setOp true o.handle (fun x => { x with
    st := if (o.kind = kindRetrain ∧ !s.jobQuiet) ∨ o.kind = kindBer then .waiting else .running })
  if o.kind = kindJob then s.armJob
  else if o.kind = kindScrub then { s with dram := { s.dram with scrubOp := true } }
  else if o.kind = kindRetrain then { s with dram := { s.dram with due := setBits o.pos 4 } }
  else if o.kind = kindBer then
    (if (setBits o.arg 64).any (fun t => (s.lane t).test.any (fun x => x.clipped && decide (0 < x.leftUs))) then s.resumeTests
     else s.nextBer)
  else if o.kind = kindCtx then s.ctxGo
  else s

/-- R397, R402: OP_RESUME of an unfinished operation. -/
def State.opResume (s : State) (o : LongOp) : State × Nat :=
  if o.kind = kindJob ∧ s.role = roleStandby then (s, 3)
  else if o.st = .running ∨ o.st = .waiting then (s, 0)
  else if o.cancelling then (s, 3)
  else if o.kind = kindJob ∧ (s.rd Reg.DMC_STATUS.sc_failed ≠ 0 ∨ s.rd Reg.PWR_THERM.warning = 1) then (s, 3)
  else if o.kind = kindSweep ∧ s.jobRuns then (s, 3)
  else if o.st = .suspending then (s.withdraw o, 0)
  else (s.resumeOp o, 0)

/-- R398, R400, R402: OP_CANCEL of an unfinished operation. -/
def State.opCancel (s : State) (o : LongOp) (abandon : Bool) : State × Nat :=
  if o.kind = kindJob ∧ s.role = roleStandby then (s, 3)
  else
    let here := s.atPoint o
    let s := s.setOp true o.handle (fun o => { o with st := .suspending, cancelling := true })
    if o.kind = kindJob ∧ abandon then (s.abandonJob false, 0)
    else if here then (s.cancelOp o, 0)
    else if o.kind = kindJob then ({ s with job := { s.job with cancelPending := true } }, 0)
    else (s, 0)

/-! ### Ends (R340, R405, R426) -/

/-- R402: an operation at its suspend point: suspended or cancelled when asked to be, otherwise `go`. (log 45) -/
def State.atStop (s : State) (kind : Nat) (go : State → LongOp → State) : State :=
  match s.opOfKind kind with
  | none => s
  | some o =>
    if o.cancelling then s.cancelOp o
    else if o.st = .suspending then s.suspendOp o
    else if o.st = .running then go s o
    else s

/-- SNAPSHOT_DONE (R340): `ok`: the slot reads back right. -/
def execSnapshotDone (ok : Bool) (s : State) : Host.Outcome State Fault Refusal :=
  .next (s.atStop kindSnapshot (fun s o => s.endSnapshot o ok))

/-- FIRMWARE_UPDATE_DONE (R405): `ok`: the slot reads back right. -/
def execFirmwareUpdateDone (ok : Bool) (s : State) : Host.Outcome State Fault Refusal :=
  .next (s.atStop kindFirmware (fun s o => s.endFirmware o ok))

/-- R426, Table 16.5: the result of the instances tested. -/
def State.testResult (s : State) (tested : Nat) (failed : List Nat) : State :=
  s.wrs [(Reg.TEST_ST_RESULT.done, 1), (Reg.TEST_ST_RESULT.pass, b2n failed.isEmpty), (Reg.TEST_ST_RESULT.failed_id, failed.headD 0),
    (Reg.TEST_ST_COUNT.tested, tested), (Reg.TEST_ST_COUNT.failed, failed.length)]

/-- SELF_TEST_DONE (R426): how many instances have been tested, and the identities of those that failed, first one first. A
cancelled operation leaves the result of the instances tested. -/
def execSelfTestDone (tested : Nat) (failed : List Nat) (s : State) : Host.Outcome State Fault Refusal :=
  match s.opOfKind kindSelfTest with
  | none => .next s
  | some o =>
    let s := if o.cancelling ∨ o.st = .running then s.testResult tested failed else s
    .next (s.atStop kindSelfTest (fun s o => s.setOp false o.handle (fun o => { o with st := .done, permille := 1000 })))

end Sys2Proof.Machine
end

