-- ==== Sys2Proof/Machine/Dmp.lean ====
section
/-! DEFINITION. DMP: messages, kept responses, register and memory access, job commands, operation requests; event
acknowledgement and resending; the reconciliation of the HKC; SMBus (ch. 15, R392 to R396, R401, R402, R410, R413; ch. 16,
R417, R421, R423; ch. 17, R448). -/

namespace Sys2Proof.Machine

/-! ### Messages (R392) -/

/-- Table 15.1: a request. -/
structure DmpReq where
  op : Nat
  seq : Nat
  handle : Nat
  flags : Nat
  status : Nat
  payload : Bytes
deriving DecidableEq, Repr

/-- R392: the message a datagram holds; none when it is to be discarded. -/
def parseDmp (b : Bytes) : Option DmpReq :=
  if b.length < 20 then none
  else if beAt b (b.length - 4) 4 ≠ crc32c (b.take (b.length - 4)) ∨ byteAt b 0 ≠ 1 ∨ beAt b 6 4 ≠ b.length - 20 then none
  else some ⟨byteAt b 1, beAt b 2 4, beAt b 10 2, beAt b 12 2, beAt b 14 2, sub b 16 (b.length - 20)⟩

/-- What a request is answered with: status, handle, payload, stale. -/
structure DmpAns where
  status : Nat
  handle : Nat
  payload : Bytes
  stale : Bool
deriving DecidableEq, Repr

/-- An answer that carries only a status. -/
def ans (status : Nat) : DmpAns := ⟨status, 0, [], false⟩

/-! ### Registers (R393, R417, R421, R423) -/

/-- R393, R417: the status of an access to n words from an address. -/
def rangeStatus (a n : Nat) : Nat :=
  if a % 4 ≠ 0 then 1 else if (List.range n).all (fun i => assigned (a + 4 * i)) then 0 else 2

/-- R413: a register among those read whose value the HKC holds differs from the data path's own. -/
def State.staleIn (s : State) (a n : Nat) : Bool :=
  s.hkcOwn.any (fun e => decide (a ≤ e.1) && decide (e.1 < a + 4 * n) && tabGet 0 s.hkc.held e.1 ≠ e.2)

/-- READ (Table 15.2). -/
def State.dmpRead (s : State) (who : Src) (b : Bytes) : State × DmpAns :=
  let a := beAt b 0 4
  let n := beAt b 4 4
  if b.length ≠ 8 ∨ n = 0 ∨ 256 < n then (s, ans 1)
  else if rangeStatus a n ≠ 0 then (s, ans (rangeStatus a n))
  else
    let (t, vs) := s.readRun who a n
    (t, ⟨0, 0, vs.flatMap (fun v => toLE 4 v), s.staleIn a n⟩)

/-- WRITE (Table 15.2, R393). -/
def State.dmpWrite (s : State) (b : Bytes) : State × DmpAns :=
  let n := b.length / 8
  if b.length % 8 ≠ 0 ∨ n = 0 ∨ 1024 < n then (s, ans 1)
  else
    let ps := pairsOf b n
    let (status, _) := checkPairs ps
    if status ≠ 0 then (s, ans status) else (s.applyPairs ps, ans 0)

/-! ### READ_BLOCK of DRAM (R279, R393, R409) -/

/-- First line of the event ring (region 8). -/
def State.ringLine (s : State) : Nat := s.rd (Reg.DMC_REGION.base 8) * 2 ^ 22

/-- R409: the entry in slot k of the ring. -/
def State.ringSlot (s : State) (k : Nat) : Option EvtEntry := s.evt.ring.find? (fun e => e.index % 4096 = k)

/-- R267, Table 9.6: the bytes of a line of region 7: the entries in their slots of 288 bytes (log 90); a byte of no entry is free. -/
def State.spoolLine (s : State) (o : Nat) (free : Bytes) : Bytes :=
  (List.range 64).map (fun i =>
    let b := 64 * o + i
    match s.slotBytes (b / 288) with
    | some e => e.getD (b % 288) 0#8
    | none => free.getD i 0#8)

/-- The 64 bytes of a line: an event entry, entries of the tick-log spool, a line that is listed, or content that the model does not lay
out in lines, which is free (log 6). -/
def State.lineBytes (s : State) (line k : Nat) : Bytes :=
  let free := toBE 64 (Config.freeNat (s.freeCnt + k))
  let spool := s.regionLine 7
  if s.ringLine ≤ line ∧ line < s.ringLine + 4096 then
    match s.ringSlot (line - s.ringLine) with
    | some e => evBytes e
    | none => free
  else if spool ≤ line ∧ line < spool + s.rd (Reg.DMC_REGION.size 7) * 2 ^ 22 then s.spoolLine (line - spool) free
  else
    match tabFind s.dram.lines line with
    | some x => toBE 64 x.data
    | none => free

/-- R279: one line read in the management class: it passes, at once or after its refetch, or it fails. -/
def State.mgmtLine (s : State) (line : Nat) (refetched bad : List Nat) : State × Bool :=
  let (region, gen) := s.expected line
  s.checkRead (readReq 4 line region gen) (if bad.contains line then .twice else if refetched.contains line then .once else .good)

/-- R393: lines read one after another, until one fails. -/
def State.blockLines (s : State) (refetched bad : List Nat) : List Nat → State × Bool
  | [] => (s, true)
  | l :: ls =>
    match s.mgmtLine l refetched bad with
    | (s, true) => s.blockLines refetched bad ls
    | (s, false) => (s, false)

/-- READ_BLOCK (Table 15.2, R417). `refetched`: lines whose first transfer fails its check; `bad`: lines that fail after refetch. -/
def State.readBlock (s : State) (who : Src) (b : Bytes) (refetched bad : List Nat) : State × DmpAns :=
  let space := byteAt b 0
  let a := beAt b 4 8
  let n := beAt b 12 4
  if b.length ≠ 16 ∨ beAt b 1 3 ≠ 0 ∨ n < 4 ∨ 8192 < n ∨ n % 4 ≠ 0 ∨ a % 4 ≠ 0 then (s, ans 1)
  else if space = 0 then
    if rangeStatus a (n / 4) ≠ 0 then (s, ans (rangeStatus a (n / 4)))
    else
      let (s, vs) := s.readRun who a (n / 4)
      (s, ⟨0, 0, vs.flatMap (fun v => toLE 4 v), false⟩)
  else if space ≠ 1 ∨ 64 * s.lineCount < a + n then (s, ans 2)
  else if s.rd Reg.DMC_STATUS.ready = 0 then (s, ans 6)
  else
    let first := a / 64
    let cnt := (a + n - 1) / 64 - first + 1
    match s.blockLines refetched bad ((List.range cnt).map (fun k => first + k)) with
    | (t, false) => (t, ans 6)
    | (t, true) =>
      let bytes := (List.range cnt).flatMap (fun k => s.lineBytes (first + k) k)
      ({ t with freeCnt := t.freeCnt + cnt }, ⟨0, 0, sub bytes (a % 64) n, false⟩)

/-! ### Commands (R396, R410, Table 15.4) -/

/-- R167, R267: every tick launched and still open expires, the oldest first. -/
def State.expireOpen (s : State) : Nat → State
  | 0 => s
  | fuel + 1 =>
    match s.oldestOpen with
    | none => s
    | some e => (s.expireTick e []).expireOpen fuel

/-- R317: the signatures still to come, the oldest stripe first. -/
def State.signAll (s : State) : Nat → State
  | 0 => s
  | fuel + 1 =>
    match s.stripeToSign with
    | none => s
    | some x => (s.signStripe x).signAll fuel

/-- R97: the record chunks of the stripe whose values are held that are still to come. -/
def State.compressRest (s : State) : State :=
  match s.recStripe with
  | none => s
  | some x => (List.range (cdiv x.d.len 256)).foldl (fun (s : State) (band : Nat) =>
      (List.range 32).foldl (fun (s : State) (seg : Nat) => s.compressChunk band seg) s) s

/-- R317, R321: what the job before still owes the host is settled before a new one begins: open ticks expire unless the ticks are the
partner's (log 87), record chunks, signatures, summaries, reports and entries are spooled. -/
def State.closeJob (s : State) : State :=
  let s := s.stopRender.stopPec
  let s := if s.follows then s else s.expireOpen s.shot.tlog.length
  (s.compressRest.signAll s.sieve.stripes.length).flushParts

/-- R27, R29, R30, R71, R198, R206, R336: what starts again with a job (log 48). -/
def State.freshJob (s : State) : State :=
  let s := s.closeJob
  let s : State := { s with
    job := JobState.init
    sieve := ⟨[], [], [], []⟩
    shot := ⟨[], [], [], [], [], [], 0, [], []⟩
    check := { s.check with tlogSpool := [], recDone := [], fellBack := false, loads := s.check.loads + 1 }
    trig := { s.trig with tickOut := 0, endedStripe := none, calStart := none, slot := 0 } }
  let s := (s.lanesWhere (fun _ => true)).foldl (fun (s : State) (t : Nat) =>
    s.updLane t (fun l => { l with resync := true, noMonTold := false })) s
  s.zero [Reg.GLOBAL_JOB.cancelled, Reg.GLOBAL_JOB.end_given, Reg.GLOBAL_JOB.last_seq, Reg.SIEVE_REFUSE_COUNT.count,
    Reg.CAL_SKIP.skips, Reg.CAL_SKIP.stray]

/-- LOAD_JOB. -/
def State.loadJob (s : State) (b : Bytes) : State × DmpAns :=
  if b.length ≠ 4 then (s, ans 1)
  else if s.jobSt ≠ jobIdle ∨ s.rd Reg.DMC_STATUS.ready = 0 then (s, ans 3)
  else ((s.freshJob.wr Reg.GLOBAL_JOB_ID.job (beNat b)).setJob true jobLoading, ans 0)

/-- END_JOB. -/
def State.endJob (s : State) (b : Bytes) : State × DmpAns :=
  if b.length ≠ 4 ∨ byteAt b 3 ≠ 0 then (s, ans 1)
  else if s.jobSt = jobLoading ∨ s.jobRuns then
    let s := s.wrs [(Reg.GLOBAL_JOB.end_given, 1), (Reg.GLOBAL_JOB.last_seq, beAt b 0 3)]
    (((s.hold (fun a => a = 0x104)).checkJobEnd).mirrorPointers 0, ans 0)
  else (s, ans 3)

/-- R54, R96: a stream closed by UNLOAD_JOB: what is staged goes, saved images stay. -/
def unloaded (x : DstStream) : DstStream :=
  { DstStream.closed with frozen := x.frozen, saveOut := x.saveOut, checkpoint := x.checkpoint }

/-- UNLOAD_JOB: streams closed, the stripe queue emptied. (log 55) -/
def State.unloadJob (s : State) (b : Bytes) : State × DmpAns :=
  if b.length ≠ 0 then (s, ans 1)
  else if s.jobSt = jobLoading ∨ s.jobSt = jobDone ∨ s.jobSt = jobFault then
    let s := s.clearFirsts
    let s : State := { s with
      codec := { s.codec with streams := s.codec.streams.map unloaded, ctxRetry := [] }
      sieve := ⟨s.sieve.stripes.filter (fun x => x.st = .done), [], [], []⟩ }
    (s.stopRender.stopPec.setJob true jobIdle, ans 0)
  else (s, ans 3)

/-- The same subscriber: source address and port. -/
def sameSub (a b : Src) : Bool := a.v6 = b.v6 && a.addr = b.addr && a.udp = b.udp

/-- SUBSCRIBE (R410): a third subscriber is refused. -/
def State.subscribe (s : State) (who : Src) (b : Bytes) : State × DmpAns :=
  if b.length ≠ 0 then (s, ans 1)
  else if s.evt.subs.any (fun u => sameSub u.src who) then (s, ans 0)
  else if 2 ≤ s.evt.subs.length then (s, ans 3)
  else
    let u : Subscriber := ⟨who, s.rd Reg.EVT_INDEX.next, s.now, 0⟩
    ({ s with evt := { s.evt with subs := s.evt.subs ++ [u] } }, ans 0)

/-- UNSUBSCRIBE. -/
def State.unsubscribe (s : State) (who : Src) (b : Bytes) : State × DmpAns :=
  if b.length ≠ 0 then (s, ans 1)
  else ({ s with evt := { s.evt with subs := s.evt.subs.filter (fun u => !sameSub u.src who) } }, ans 0)

/-- COMMAND (Table 15.4). -/
def State.command (s : State) (who : Src) (b : Bytes) : State × DmpAns :=
  if b.length < 4 ∨ 20 < b.length ∨ beAt b 2 2 ≠ 0 then (s, ans 1)
  else
    let code := beAt b 0 2
    let arg := b.drop 4
    if code = 1 then s.loadJob arg
    else if code = 2 then s.endJob arg
    else if code = 3 then s.unloadJob arg
    else if code = 4 then s.subscribe who arg
    else if code = 5 then s.unsubscribe who arg
    else (s, ans 7)

/-! ### Operation requests and acknowledgements (R401, R402, R410) -/

/-- A request to an operation by its handle: 5 unknown, 3 finished, otherwise `go`. -/
def State.onOp (s : State) (h : Nat) (go : State → LongOp → State × Nat) : State × DmpAns :=
  match s.findOp h with
  | none => (s, ans 5)
  | some o =>
    if opFinished o then (s, ⟨3, h, [], false⟩)
    else
      let (s, status) := go s o
      (s, ⟨status, h, [], false⟩)

/-- OP_STATUS (Table 15.2). -/
def State.opStatus (s : State) (h : Nat) (b : Bytes) : State × DmpAns :=
  if b.length ≠ 0 then (s, ans 1)
  else match s.findOp h with
    | none => (s, ans 5)
    | some o => (s, ⟨0, h, toBE 1 o.kind ++ toBE 1 (opCode o.st) ++ toBE 1 o.result ++ toBE 1 0 ++ toBE 2 o.permille ++ toBE 2 0, false⟩)

/-- R410: an acknowledgement by a subscriber of every entry up to an index. -/
def ackUpTo (now index next : Nat) (u : Subscriber) : Subscriber :=
  { u with acked := Nat.max u.acked (Nat.min (index + 1) next), lastAck := now }

/-- EVENT_ACK (R410). -/
def State.eventAck (s : State) (who : Src) (b : Bytes) : State × DmpAns :=
  if b.length ≠ 4 then (s, ans 1)
  else
    let next := s.rd Reg.EVT_INDEX.next
    let subs := s.evt.subs.map (fun (u : Subscriber) => if sameSub u.src who then ackUpTo s.now (beNat b) next u else u)
    ({ s with evt := { s.evt with subs := subs } }, ans 0)

/-- Tables 15.2 and 15.3: a request carried out. -/
def State.carryOut (s : State) (who : Src) (q : DmpReq) (refetched bad : List Nat) : State × DmpAns :=
  let b := q.payload
  if 8192 < b.length ∨ 8 ≤ q.flags ∨ q.status ≠ 0 then (s, ans 1)
  else if q.op = 1 then s.dmpRead who b
  else if q.op = 2 then s.dmpWrite b
  else if q.op = 3 then s.readBlock who b refetched bad
  else if q.op = 4 then s.command who b
  else if q.op = 5 then
    let (s, status, h) := s.opStart b
    (s, ⟨status, h, [], false⟩)
  else if q.op = 6 then (if b.length ≠ 0 then (s, ans 1) else s.onOp q.handle State.opSuspend)
  else if q.op = 7 then (if b.length ≠ 0 then (s, ans 1) else s.onOp q.handle State.opResume)
  else if q.op = 8 then
    (if b.length ≠ 4 ∨ 1 < beNat b then (s, ans 1) else s.onOp q.handle (fun s o => s.opCancel o (decide (beNat b = 1))))
  else if q.op = 9 then s.opStatus q.handle b
  else if q.op = 0x0B then s.eventAck who b
  else (s, ans 7)

/-! ### Kept responses (R394) -/

/-- The responses kept for a source. -/
def State.keptOf (s : State) (who : Src) : List (Nat × Bytes) := ((s.dmp.find? (fun k => sameHost k.src who)).map DmpKept.kept).getD []

/-- R394: keep a response: 32 of a source, 8 sources; a ninth displaces the one heard longest ago (log 49). -/
def State.keep (s : State) (who : Src) (seq : Nat) (m : Bytes) : State :=
  { s with dmp := (⟨who, ((seq, m) :: s.keptOf who).take 32⟩ :: s.dmp.filter (fun k => !sameHost k.src who)).take 8 }

/-- The HKC has run: its watchdog and the heartbeat are refreshed (R350, R414). (log 54) -/
def State.hkcRuns (s : State) : State :=
  { s with hkc := { s.hkc with alive := s.now }, power := { s.power with hbStale := false } }

/-- R392, R394: a request answered, and its response kept. A write that takes the HKC down is not answered. -/
def State.answer (s : State) (who : Src) (q : DmpReq) (refetched bad : List Nat) : State :=
  let (s, a) := s.carryOut who q refetched bad
  if !s.hkcUp then s
  else
    let m := dmpMsg q.op q.seq a.handle (1 + 2 * b2n a.stale) a.status a.payload
    (s.keep who q.seq m).sendUdp 47101 who m

/-- R392 to R395: a datagram on port 47101. (log 53) -/
def State.dmpArrive (s : State) (src : Src) (b : Bytes) (refetched bad : List Nat) : State :=
  let (s, ok) := s.rxHost src b.length
  if !ok || !s.hkcUp then s
  else
    match parseDmp b with
    | none => s.inc Reg.GLOBAL_DMP_STAT.bad
    | some q =>
      let s := s.hkcRuns
      match (s.keptOf src).find? (fun k => k.1 = q.seq) with
      | some k => s.sendUdp 47101 src k.2
      | none =>
        if s.keptOf src ≠ [] ∧ (s.keptOf src).all (fun k => serialBefore 32 q.seq k.1) then s.inc Reg.GLOBAL_DMP_STAT.retried
        else s.answer src q refetched bad

/-! ### Commands: DMP messages -/

/-- DMP_READ (R393). -/
def execDmpRead (src : Src) (b : Bytes) (s : State) : Host.Outcome State Fault Refusal := .next (s.dmpArrive src b [] [])

/-- DMP_WRITE (R393). -/
def execDmpWrite (src : Src) (b : Bytes) (s : State) : Host.Outcome State Fault Refusal := .next (s.dmpArrive src b [] [])

/-- READ_BLOCK (R393). -/
def execReadBlock (src : Src) (b : Bytes) (refetched bad : List Nat) (s : State) : Host.Outcome State Fault Refusal :=
  .next (s.dmpArrive src b refetched bad)

/-- LOAD_JOB (R396). -/
def execLoadJob (src : Src) (b : Bytes) (s : State) : Host.Outcome State Fault Refusal := .next (s.dmpArrive src b [] [])

/-- END_JOB (R396). -/
def execEndJob (src : Src) (b : Bytes) (s : State) : Host.Outcome State Fault Refusal := .next (s.dmpArrive src b [] [])

/-- UNLOAD_JOB (R396). -/
def execUnloadJob (src : Src) (b : Bytes) (s : State) : Host.Outcome State Fault Refusal := .next (s.dmpArrive src b [] [])

/-- SUBSCRIBE (R410). -/
def execSubscribe (src : Src) (b : Bytes) (s : State) : Host.Outcome State Fault Refusal := .next (s.dmpArrive src b [] [])

/-- UNSUBSCRIBE (R410). -/
def execUnsubscribe (src : Src) (b : Bytes) (s : State) : Host.Outcome State Fault Refusal := .next (s.dmpArrive src b [] [])

/-- OP_JOB_EXPOSURE (R396). -/
def execOpJobExposure (src : Src) (b : Bytes) (s : State) : Host.Outcome State Fault Refusal := .next (s.dmpArrive src b [] [])

/-- OP_CALIBRATION_SWEEP (R342). -/
def execOpCalibrationSweep (src : Src) (b : Bytes) (s : State) : Host.Outcome State Fault Refusal := .next (s.dmpArrive src b [] [])

/-- OP_NVM_SNAPSHOT (R340). -/
def execOpNvmSnapshot (src : Src) (b : Bytes) (s : State) : Host.Outcome State Fault Refusal := .next (s.dmpArrive src b [] [])

/-- OP_FULL_SCRUB (R298). -/
def execOpFullScrub (src : Src) (b : Bytes) (s : State) : Host.Outcome State Fault Refusal := .next (s.dmpArrive src b [] [])

/-- OP_DRAM_RETRAIN (R294). -/
def execOpDramRetrain (src : Src) (b : Bytes) (s : State) : Host.Outcome State Fault Refusal := .next (s.dmpArrive src b [] [])

/-- OP_LANE_BER_TEST (R235). -/
def execOpLaneBerTest (src : Src) (b : Bytes) (s : State) : Host.Outcome State Fault Refusal := .next (s.dmpArrive src b [] [])

/-- OP_SELF_TEST (R426). -/
def execOpSelfTest (src : Src) (b : Bytes) (s : State) : Host.Outcome State Fault Refusal := .next (s.dmpArrive src b [] [])

/-- OP_CHECKPOINT (R92). -/
def execOpCheckpoint (src : Src) (b : Bytes) (s : State) : Host.Outcome State Fault Refusal := .next (s.dmpArrive src b [] [])

/-- OP_SAVE_OUT (R93). -/
def execOpSaveOut (src : Src) (b : Bytes) (s : State) : Host.Outcome State Fault Refusal := .next (s.dmpArrive src b [] [])

/-- OP_RESTORE (R95). -/
def execOpRestore (src : Src) (b : Bytes) (s : State) : Host.Outcome State Fault Refusal := .next (s.dmpArrive src b [] [])

/-- OP_FIRMWARE_UPDATE (R405). -/
def execOpFirmwareUpdate (src : Src) (b : Bytes) (s : State) : Host.Outcome State Fault Refusal := .next (s.dmpArrive src b [] [])

/-- OP_SUSPEND (R402). -/
def execOpSuspend (src : Src) (b : Bytes) (s : State) : Host.Outcome State Fault Refusal := .next (s.dmpArrive src b [] [])

/-- OP_RESUME (R402). -/
def execOpResume (src : Src) (b : Bytes) (s : State) : Host.Outcome State Fault Refusal := .next (s.dmpArrive src b [] [])

/-- OP_CANCEL (R398). -/
def execOpCancel (src : Src) (b : Bytes) (s : State) : Host.Outcome State Fault Refusal := .next (s.dmpArrive src b [] [])

/-- OP_CANCEL_ABANDON (R400). -/
def execOpCancelAbandon (src : Src) (b : Bytes) (s : State) : Host.Outcome State Fault Refusal := .next (s.dmpArrive src b [] [])

/-- OP_STATUS (R402). -/
def execOpStatus (src : Src) (b : Bytes) (s : State) : Host.Outcome State Fault Refusal := .next (s.dmpArrive src b [] [])

/-- EVENT_ACK (R410). -/
def execEventAck (src : Src) (b : Bytes) (s : State) : Host.Outcome State Fault Refusal := .next (s.dmpArrive src b [] [])

/-! ### Events over time (R410) -/

/-- Lists of at most 16, in order. -/
def by16 {α : Type} : Nat → List α → List (List α)
  | 0, _ => []
  | n + 1, l => if l.isEmpty then [] else l.take 16 :: by16 n (l.drop 16)

/-- One EVENT message to a subscriber, counted. -/
def State.sendPart (s : State) (k : Nat) (es : List EvtEntry) : State :=
  match s.evt.subs[k]? with
  | none => s
  | some u =>
    let s := s.sendUdp 47101 u.src (eventMsg u es)
    { s with evt := { s.evt with subs := setAt s.evt.subs k { u with count := u.count + 1 } } }

/-- R410: the entries that a subscriber has not acknowledged, oldest first, sent again. -/
def State.resendTo (s : State) (k : Nat) : State :=
  match s.evt.subs[k]? with
  | none => s
  | some u =>
    let es := (s.evt.ring.filter (fun e => evtPending s.evt e && decide (u.acked ≤ e.index))).reverse
    (by16 es.length es).foldl (fun (s : State) (p : List EvtEntry) => s.sendPart k p) s

/-- EVENT_RESEND (R410): every resend_ms. -/
def execEventResend (s : State) : Host.Outcome State Fault Refusal :=
  if s.now < s.evt.lastSend + 1000000 * s.rd Reg.EVT_CTRL.resend_ms then .next s
  else
    let s := (List.range s.evt.subs.length).foldl (fun (s : State) (k : Nat) => s.resendTo k) s
    .next { s with evt := { s.evt with lastSend := s.now } }

/-- R410: the subscriber has acknowledged nothing for 1 s, with an entry to acknowledge (log 47). -/
def State.silent (s : State) (u : Subscriber) : Bool :=
  decide (u.acked < s.rd Reg.EVT_INDEX.next) && decide (u.lastAck + giga ≤ s.now)

/-- SUBSCRIBER_DROP (R410). -/
def execSubscriberDrop (s : State) : Host.Outcome State Fault Refusal :=
  match s.evt.subs.findIdx? (fun u => s.silent u), s.evt.subs.find? (fun u => s.silent u) with
  | some k, some u =>
    let s : State := { s with evt := { s.evt with subs := s.evt.subs.filter (fun x => !sameSub x.src u.src) } }
    .next (s.raise 0x0A09 [w k, w u.acked])
  | _, _ => .next s

/-! ### The HKC's view (R413) -/

/-- HKC_RECONCILE (R413): the HKC takes over what differs, each with event 0x0A07, and tells what the data path has changed. -/
def execHkcReconcile (s : State) : Host.Outcome State Fault Refusal :=
  if !s.hkcUp then .next s
  else
    let diff := s.hkcOwn.filter (fun e => tabGet 0 s.hkc.held e.1 ≠ e.2)
    let held := s.hkc.held
    let s := diff.foldl (fun (s : State) (e : Nat × Nat) => s.raise 0x0A07 [w e.1, w (tabGet 0 held e.1), w e.2]) s
    .next ((s.tellLate.hold (fun _ => true)).hkcRuns)

/-! ### SMBus (R448) -/

/-- R448: the registers that answer. -/
def smbusRegs : List Nat := [0x0, 0x4, 0x8, 0xC, 0x10, 0x14, 0x10000, 0x10004, 0x220000, 0x220004, 0x220008]

/-- R448, Table 14.9: the column ID. -/
def State.columnId (s : State) : Nat := if s.variant = 1 then s.rd Reg.RCU_IDENT.column else s.rd Reg.RCU_STRAPS.column

/-- SMBUS_TRANSACTION (R448): target address, command byte, register address; then a read of 5 bytes. It is answered from the
end of P3. -/
def execSmbusTransaction (target cmd reg : Nat) (s : State) : Host.Outcome State Fault Refusal :=
  if !s.hkcUp ∨ target ≠ 0x50 + s.columnId ∨ cmd ≠ 1 then .next s
  else
    let v := toLE 4 (if smbusRegs.contains reg then s.readReg reg else 0xFFFFFFFF)
    let crc := crc8 (toBE 1 (2 * target) ++ toBE 1 cmd ++ toBE 4 reg ++ toBE 1 (2 * target + 1) ++ v)
    .next (s.send (.smbus (v ++ toBE 1 crc)))

end Sys2Proof.Machine
end

