-- ==== Sys2Proof/Machine/Dispatch.lean ====
section
/-! DEFINITION. One arm per command: its meaning, or its refusal by name. -/

namespace Sys2Proof.Machine

open Sys2Proof

def exec (i : Instr) (s : State) : Host.Outcome State Fault Refusal :=
  match i with
  | .dstData src seg => Sys2Proof.Machine.execDstData src seg s
  | .dstSync src seg => Sys2Proof.Machine.execDstSync src seg s
  | .dstFin src seg => Sys2Proof.Machine.execDstFin src seg s
  | .ackIdleTimeout stream => Sys2Proof.Machine.execAckIdleTimeout stream s
  | .reorderTimeout stream => Sys2Proof.Machine.execReorderTimeout stream s
  | .nakRepeat stream => Sys2Proof.Machine.execNakRepeat stream s
  | .windowReopen stream => Sys2Proof.Machine.execWindowReopen stream s
  | .decodeEngineAssign bad => Sys2Proof.Machine.execDecodeEngineAssign bad s
  | .descriptorHoldTimeout seq => Sys2Proof.Machine.execDescriptorHoldTimeout seq s
  | .descriptorQueueRoom => Sys2Proof.Machine.execDescriptorQueueRoom s
  | .stripeAdmit seq bad => Sys2Proof.Machine.execStripeAdmit seq bad s
  | .densityPrepassBand fetched => Sys2Proof.Machine.execDensityPrepassBand fetched s
  | .densityFetchRetry seq band fetched => Sys2Proof.Machine.execDensityFetchRetry seq band fetched s
  | .contextImageStoreDone ok => Sys2Proof.Machine.execContextImageStoreDone ok s
  | .contextRestoreDone ok => Sys2Proof.Machine.execContextRestoreDone ok s
  | .recordChunkCompress band seg => Sys2Proof.Machine.execRecordChunkCompress band seg s
  | .renderStart => Sys2Proof.Machine.execRenderStart s
  | .renderLineDone bad => Sys2Proof.Machine.execRenderLineDone bad s
  | .curveFlattenDone slice band => Sys2Proof.Machine.execCurveFlattenDone slice band s
  | .rerenderDone slice fetched => Sys2Proof.Machine.execRerenderDone slice fetched s
  | .fMapStart => Sys2Proof.Machine.execFMapStart s
  | .fRowDone unread => Sys2Proof.Machine.execFRowDone unread s
  | .pecCommit commit => Sys2Proof.Machine.execPecCommit commit s
  | .tickFix => Sys2Proof.Machine.execTickFix s
  | .tickCompute bad => Sys2Proof.Machine.execTickCompute bad s
  | .rhoRebuildStart => Sys2Proof.Machine.execRhoRebuildStart s
  | .rhoRebuildDone bad => Sys2Proof.Machine.execRhoRebuildDone bad s
  | .windowRowRemap => Sys2Proof.Machine.execWindowRowRemap s
  | .frameLaunch => Sys2Proof.Machine.execFrameLaunch s
  | .tickSend bad => Sys2Proof.Machine.execTickSend bad s
  | .replayLaunch t bad => Sys2Proof.Machine.execReplayLaunch t bad s
  | .ackTimeout t n => Sys2Proof.Machine.execAckTimeout t n s
  | .undoExpiry bad => Sys2Proof.Machine.execUndoExpiry bad s
  | .ackReceive t b => Sys2Proof.Machine.execAckReceive t b s
  | .nakReceive t b => Sys2Proof.Machine.execNakReceive t b s
  | .creditReceive t b => Sys2Proof.Machine.execCreditReceive t b s
  | .statusReceive t b bad => Sys2Proof.Machine.execStatusReceive t b bad s
  | .monitorReceive t b => Sys2Proof.Machine.execMonitorReceive t b s
  | .capsReceive t b => Sys2Proof.Machine.execCapsReceive t b s
  | .latencyReceive t b sub => Sys2Proof.Machine.execLatencyReceive t b sub s
  | .marginReceive t b => Sys2Proof.Machine.execMarginReceive t b s
  | .trnStatReceive t b lock => Sys2Proof.Machine.execTrnStatReceive t b lock s
  | .testResultReceive t b => Sys2Proof.Machine.execTestResultReceive t b s
  | .laneEnableWrite t v => Sys2Proof.Machine.execLaneEnableWrite t v s
  | .laneRestart t v => Sys2Proof.Machine.execLaneRestart t v s
  | .laneRetrainRequest t v => Sys2Proof.Machine.execLaneRetrainRequest t v s
  | .laneTestWrite t v => Sys2Proof.Machine.execLaneTestWrite t v s
  | .receiverDetectProbe t load => Sys2Proof.Machine.execReceiverDetectProbe t load s
  | .bringupTimeout t => Sys2Proof.Machine.execBringupTimeout t s
  | .configResend t => Sys2Proof.Machine.execConfigResend t s
  | .latProbeSend t => Sys2Proof.Machine.execLatProbeSend t s
  | .electricalIdleHoldEnd t => Sys2Proof.Machine.execElectricalIdleHoldEnd t s
  | .laneLost t lock => Sys2Proof.Machine.execLaneLost t lock s
  | .adaptCheckSend t own => Sys2Proof.Machine.execAdaptCheckSend t own s
  | .retrainingSlotStart => Sys2Proof.Machine.execRetrainingSlotStart s
  | .retrainingSlotEnd => Sys2Proof.Machine.execRetrainingSlotEnd s
  | .laneTestEnd t rx => Sys2Proof.Machine.execLaneTestEnd t rx s
  | .injectBit t v => Sys2Proof.Machine.execInjectBit t v s
  | .injectBurst t v => Sys2Proof.Machine.execInjectBurst t v s
  | .injectCrc t v => Sys2Proof.Machine.execInjectCrc t v s
  | .p6DetectLimit t => Sys2Proof.Machine.execP6DetectLimit t s
  | .armPoint => Sys2Proof.Machine.execArmPoint s
  | .stripeEnd => Sys2Proof.Machine.execStripeEnd s
  | .calibrationWindowStart => Sys2Proof.Machine.execCalibrationWindowStart s
  | .calTick => Sys2Proof.Machine.execCalTick s
  | .calibrationWindowEnd => Sys2Proof.Machine.execCalibrationWindowEnd s
  | .firstTickWrite seq arm => Sys2Proof.Machine.execFirstTickWrite seq arm s
  | .syncReceive h twoStep t1 => Sys2Proof.Machine.execSyncReceive h twoStep t1 s
  | .followUpReceive h t1 => Sys2Proof.Machine.execFollowUpReceive h t1 s
  | .delayRespReceive h mine t4 => Sys2Proof.Machine.execDelayRespReceive h mine t4 s
  | .announceReceive h d => Sys2Proof.Machine.execAnnounceReceive h d s
  | .delayReqSend => Sys2Proof.Machine.execDelayReqSend s
  | .deferredStep => Sys2Proof.Machine.execDeferredStep s
  | .announceReceiptTimeout => Sys2Proof.Machine.execAnnounceReceiptTimeout s
  | .syncTimeout => Sys2Proof.Machine.execSyncTimeout s
  | .portLinkDown p => Sys2Proof.Machine.execPortLinkDown p s
  | .timeIncWrite v => Sys2Proof.Machine.execTimeIncWrite v s
  | .pulseTrainEdge u => Sys2Proof.Machine.execPulseTrainEdge u s
  | .tickOutPulse => Sys2Proof.Machine.execTickOutPulse s
  | .captureEdge c rising out => Sys2Proof.Machine.execCaptureEdge c rising out s
  | .captureTagRead who c => Sys2Proof.Machine.execCaptureTagRead who c s
  | .latchedGroupRead who a => Sys2Proof.Machine.execLatchedGroupRead who a s
  | .stageReport src b => Sys2Proof.Machine.execStageReport src b s
  | .dramRequestIssue sc fill x arrivals => Sys2Proof.Machine.execDramRequestIssue sc fill x arrivals s
  | .dramRefetch bad => Sys2Proof.Machine.execDramRefetch bad s
  | .targetedSelftestDone l passed => Sys2Proof.Machine.execTargetedSelftestDone l passed s
  | .ladleTimeout => Sys2Proof.Machine.execLadleTimeout s
  | .fenceComplete q => Sys2Proof.Machine.execFenceComplete q s
  | .refreshDue sc => Sys2Proof.Machine.execRefreshDue sc s
  | .activateWindow => Sys2Proof.Machine.execActivateWindow s
  | .activateCountClear => Sys2Proof.Machine.execActivateCountClear s
  | .dramRetrainStart temps => Sys2Proof.Machine.execDramRetrainStart temps s
  | .dramRetrainDone runs pattern => Sys2Proof.Machine.execDramRetrainDone runs pattern s
  | .dramRepair bad resource unverified => Sys2Proof.Machine.execDramRepair bad resource unverified s
  | .whiskLine x => Sys2Proof.Machine.execWhiskLine x s
  | .whiskTrimCheck bad mirrorBad => Sys2Proof.Machine.execWhiskTrimCheck bad mirrorBad s
  | .regionWrite r size => Sys2Proof.Machine.execRegionWrite r size s
  | .signatureFinal => Sys2Proof.Machine.execSignatureFinal s
  | .recordStreamAck src b => Sys2Proof.Machine.execRecordStreamAck src b s
  | .recordStreamNak src b => Sys2Proof.Machine.execRecordStreamNak src b s
  | .recordResendTimeout k => Sys2Proof.Machine.execRecordResendTimeout k s
  | .recordStreamIdleTimeout k => Sys2Proof.Machine.execRecordStreamIdleTimeout k s
  | .calCommit v => Sys2Proof.Machine.execCalCommit v s
  | .calAbort v => Sys2Proof.Machine.execCalAbort v s
  | .calHostOpen v => Sys2Proof.Machine.execCalHostOpen v s
  | .trimEntryWrite beam v => Sys2Proof.Machine.execTrimEntryWrite beam v s
  | .grantAssert inHigh => Sys2Proof.Machine.execGrantAssert inHigh s
  | .grantRemove => Sys2Proof.Machine.execGrantRemove s
  | .halyardInRise => Sys2Proof.Machine.execHalyardInRise s
  | .roleRefusedTimeout => Sys2Proof.Machine.execRoleRefusedTimeout s
  | .takeoverSettle => Sys2Proof.Machine.execTakeoverSettle s
  | .helloSend => Sys2Proof.Machine.execHelloSend s
  | .helloReceive b => Sys2Proof.Machine.execHelloReceive b s
  | .pairLinkTimeout => Sys2Proof.Machine.execPairLinkTimeout s
  | .tlogFixReceive b => Sys2Proof.Machine.execTlogFixReceive b s
  | .tlogFinalReceive b => Sys2Proof.Machine.execTlogFinalReceive b s
  | .pairAckReceive b => Sys2Proof.Machine.execPairAckReceive b s
  | .trimReceive b => Sys2Proof.Machine.execTrimReceive b s
  | .trimCommitReceive b => Sys2Proof.Machine.execTrimCommitReceive b s
  | .pointersReceive b => Sys2Proof.Machine.execPointersReceive b s
  | .ctxReceive b => Sys2Proof.Machine.execCtxReceive b s
  | .revertReqReceive b => Sys2Proof.Machine.execRevertReqReceive b s
  | .handoverReceive b => Sys2Proof.Machine.execHandoverReceive b s
  | .syncCopyReceive b => Sys2Proof.Machine.execSyncCopyReceive b s
  | .activeRelease => Sys2Proof.Machine.execActiveRelease s
  | .mirrorResendTimeout => Sys2Proof.Machine.execMirrorResendTimeout s
  | .mirrorStallTimeout => Sys2Proof.Machine.execMirrorStallTimeout s
  | .heartbeatEdge => Sys2Proof.Machine.execHeartbeatEdge s
  | .hkcRefreshTimeout => Sys2Proof.Machine.execHkcRefreshTimeout s
  | .feedGood feed mv => Sys2Proof.Machine.execFeedGood feed mv s
  | .feedLost feed mv => Sys2Proof.Machine.execFeedLost feed mv s
  | .pgLow feed => Sys2Proof.Machine.execPgLow feed s
  | .brownOut => Sys2Proof.Machine.execBrownOut s
  | .standbySupplyLost => Sys2Proof.Machine.execStandbySupplyLost s
  | .resetNAssert lowNs released => Sys2Proof.Machine.execResetNAssert lowNs released s
  | .resetRelease src tj => Sys2Proof.Machine.execResetRelease src tj s
  | .thermalWarning tj => Sys2Proof.Machine.execThermalWarning tj s
  | .thermalWarningClear tj => Sys2Proof.Machine.execThermalWarningClear tj s
  | .thermalTrip tj => Sys2Proof.Machine.execThermalTrip tj s
  | .watchdogExpiry => Sys2Proof.Machine.execWatchdogExpiry s
  | .engineReset key => Sys2Proof.Machine.execEngineReset key s
  | .warmReset key => Sys2Proof.Machine.execWarmReset key s
  | .blockReset blk lane => Sys2Proof.Machine.execBlockReset blk lane s
  | .pllLock => Sys2Proof.Machine.execPllLock s
  | .fuseRead bad => Sys2Proof.Machine.execFuseRead bad s
  | .strapSampling bootsel clkmode ratio => Sys2Proof.Machine.execStrapSampling bootsel clkmode ratio s
  | .optionLoading svc => Sys2Proof.Machine.execOptionLoading svc s
  | .checkerSelftest failed => Sys2Proof.Machine.execCheckerSelftest failed s
  | .dramTraining runs noHppr temps => Sys2Proof.Machine.execDramTraining runs noHppr temps s
  | .laneBringupEnd => Sys2Proof.Machine.execLaneBringupEnd s
  | .phaseOverrun => Sys2Proof.Machine.execPhaseOverrun s
  | .svcNvmEnN low prog => Sys2Proof.Machine.execSvcNvmEnN low prog s
  | .dmpRead src b => Sys2Proof.Machine.execDmpRead src b s
  | .dmpWrite src b => Sys2Proof.Machine.execDmpWrite src b s
  | .readBlock src b refetched bad => Sys2Proof.Machine.execReadBlock src b refetched bad s
  | .loadJob src b => Sys2Proof.Machine.execLoadJob src b s
  | .endJob src b => Sys2Proof.Machine.execEndJob src b s
  | .unloadJob src b => Sys2Proof.Machine.execUnloadJob src b s
  | .subscribe src b => Sys2Proof.Machine.execSubscribe src b s
  | .unsubscribe src b => Sys2Proof.Machine.execUnsubscribe src b s
  | .opJobExposure src b => Sys2Proof.Machine.execOpJobExposure src b s
  | .opCalibrationSweep src b => Sys2Proof.Machine.execOpCalibrationSweep src b s
  | .opNvmSnapshot src b => Sys2Proof.Machine.execOpNvmSnapshot src b s
  | .snapshotDone ok => Sys2Proof.Machine.execSnapshotDone ok s
  | .opFullScrub src b => Sys2Proof.Machine.execOpFullScrub src b s
  | .opDramRetrain src b => Sys2Proof.Machine.execOpDramRetrain src b s
  | .opLaneBerTest src b => Sys2Proof.Machine.execOpLaneBerTest src b s
  | .opSelfTest src b => Sys2Proof.Machine.execOpSelfTest src b s
  | .selfTestDone tested failed => Sys2Proof.Machine.execSelfTestDone tested failed s
  | .opCheckpoint src b => Sys2Proof.Machine.execOpCheckpoint src b s
  | .opSaveOut src b => Sys2Proof.Machine.execOpSaveOut src b s
  | .opRestore src b => Sys2Proof.Machine.execOpRestore src b s
  | .opFirmwareUpdate src b => Sys2Proof.Machine.execOpFirmwareUpdate src b s
  | .firmwareUpdateDone ok => Sys2Proof.Machine.execFirmwareUpdateDone ok s
  | .opSuspend src b => Sys2Proof.Machine.execOpSuspend src b s
  | .opResume src b => Sys2Proof.Machine.execOpResume src b s
  | .opCancel src b => Sys2Proof.Machine.execOpCancel src b s
  | .opCancelAbandon src b => Sys2Proof.Machine.execOpCancelAbandon src b s
  | .opStatus src b => Sys2Proof.Machine.execOpStatus src b s
  | .eventAck src b => Sys2Proof.Machine.execEventAck src b s
  | .eventResend => Sys2Proof.Machine.execEventResend s
  | .subscriberDrop => Sys2Proof.Machine.execSubscriberDrop s
  | .evtAckAll v => Sys2Proof.Machine.execEvtAckAll v s
  | .hkcReconcile => Sys2Proof.Machine.execHkcReconcile s
  | .testInject target loc go => Sys2Proof.Machine.execTestInject target loc go s
  | .mcastGroupWrite p v6 g => Sys2Proof.Machine.execMcastGroupWrite p v6 g s
  | .arpRequest p mac ip target => Sys2Proof.Machine.execArpRequest p mac ip target s
  | .neighbourSolicitation p mac src target => Sys2Proof.Machine.execNeighbourSolicitation p mac src target s
  | .echoRequest src dst b => Sys2Proof.Machine.execEchoRequest src dst b s
  | .multicastQuery p v6 g => Sys2Proof.Machine.execMulticastQuery p v6 g s
  | .otherFrame p => Sys2Proof.Machine.execOtherFrame p s
  | .pairLinkBlockLockLoss => Sys2Proof.Machine.execPairLinkBlockLockLoss s
  | .portLinkUp p => Sys2Proof.Machine.execPortLinkUp p s
  | .smbusTransaction target cmd reg => Sys2Proof.Machine.execSmbusTransaction target cmd reg s
  | .pgReleased feed => Sys2Proof.Machine.execPgReleased feed s
  | .unknownBackChannelBlock t hdr b => Sys2Proof.Machine.execUnknownBackChannelBlock t hdr b s
  | .badFcsFrame p => Sys2Proof.Machine.execBadFcsFrame p s

end Sys2Proof.Machine
end

