-- ==== Sys2Proof/Safety.lean ====
section
/-! DEFINITION. The words the statements are made of: next states, frames by part of the state and by register field, the
events a command raises, and the canonical form that every step keeps. -/

namespace Sys2Proof

open Sys2Proof.Machine

/-- An outcome answers a next state that satisfies p. -/
def NextWith (o : Host.Outcome State Fault Refusal) (p : State → Prop) : Prop :=
  ∃ t, o = .next t ∧ p t

/-- An outcome is a next state. -/
def Completes (o : Host.Outcome State Fault Refusal) : Prop := ∃ t, o = .next t

/-- The parts of the state, one for each field of State. -/
inductive Part where
  | pending | out | now | clk | freeCnt | regs | latches | evt | hkc | dmp | ops | net | job | codec | sieve | win | render | pec | shot | stage | trig | ptp | check | cal | lanes | tx | dram | pair | power
deriving DecidableEq, Repr

/-- Two states agree on a part. -/
def Part.Same (s t : State) : Part → Prop
  | .pending => t.pending = s.pending
  | .out => t.out = s.out
  | .now => t.now = s.now
  | .clk => t.clk = s.clk
  | .freeCnt => t.freeCnt = s.freeCnt
  | .regs => t.regs = s.regs
  | .latches => t.latches = s.latches
  | .evt => t.evt = s.evt
  | .hkc => t.hkc = s.hkc
  | .dmp => t.dmp = s.dmp
  | .ops => t.ops = s.ops
  | .net => t.net = s.net
  | .job => t.job = s.job
  | .codec => t.codec = s.codec
  | .sieve => t.sieve = s.sieve
  | .win => t.win = s.win
  | .render => t.render = s.render
  | .pec => t.pec = s.pec
  | .shot => t.shot = s.shot
  | .stage => t.stage = s.stage
  | .trig => t.trig = s.trig
  | .ptp => t.ptp = s.ptp
  | .check => t.check = s.check
  | .cal => t.cal = s.cal
  | .lanes => t.lanes = s.lanes
  | .tx => t.tx = s.tx
  | .dram => t.dram = s.dram
  | .pair => t.pair = s.pair
  | .power => t.power = s.power

/-- Every part of the state but the listed ones is as before. -/
def Frame (touched : List Part) (s t : State) : Prop := ∀ p, p ∉ touched → p.Same s t

/-- Every register field but the listed ones reads as before. -/
def RegsBut (l : List Fld) (s t : State) : Prop := ∀ f : Fld, fldKey f ∉ l.map fldKey → t.rd f = s.rd f

/-- The register fields that entering events may change: the index of the next event, the overflow flag, the count of entries
lost, and the count of frames sent by each of the three ports a subscriber may be reached on (R409, R410). -/
def eventRegs : List Fld :=
  [Reg.EVT_INDEX.next, Reg.EVT_PENDING.overflow, Reg.EVT_DROPPED.dropped,
   Reg.PORT_TX_FRAMES.frames 0, Reg.PORT_TX_FRAMES.frames 1, Reg.PORT_TX_FRAMES.frames 2]

/-- From s to t exactly the events l are entered in the ring, in this order (R409); the report of a lost entry, 0x0A09, that may
come between them is not counted. -/
def Raises (l : List (Nat × List EvWord)) (s t : State) : Prop :=
  ∃ new : List EvtEntry, t.evt.ring = (new ++ s.evt.ring).take 4096 ∧
    (new.filter (fun e => decide (e.code ≠ 0x0A09))).reverse.map (fun e => (e.code, e.data)) = l

/-- What the DK1 sends from s to t includes o. -/
def Sends (o : Out) (s t : State) : Prop := ∃ new : List Out, t.out = new ++ s.out ∧ o ∈ new

/-! ### Words of single families -/

/-- A datagram of len bytes from src reaches the host functions: it arrives on a host port that is enabled and up, it is no longer
than the port admits, and its IP version is on (R428, R429). -/
abbrev Heard (s : State) (src : Src) (len : Nat) : Prop :=
  src.iface < 2 ∧ s.portUp src.iface = true ∧ s.frameFits src.iface (udpFrameLen src.v6 len) = true ∧ s.ipOn src = true

/-- R43: the ACK (type 2) or NAK (type 3) that says the state of an open stream. -/
def ackMsg (typ i : Nat) (x : DstStream) : Bytes :=
  dstBytes ⟨typ, i, 0, 0, x.ackA, x.job, x.win, x.echo, bitmapBytes x.ackA (x.held.map (fun e => e.1))⟩

/-- From s to t the event is entered in the ring, among others perhaps (R409). -/
def Tells (code : Nat) (data : List EvWord) (s t : State) : Prop :=
  ∃ new : List EvtEntry, t.evt.ring = (new ++ s.evt.ring).take 4096 ∧ ∃ e ∈ new, e.code = code ∧ e.data = data

/-- The register fields that a frame mirrored to the partner may change: its generation, and, when the store of frames is full,
protection with its events (R354, R355). -/
def mirrorRegs : List Fld := [Reg.PAIR_GEN_TX.gen, Reg.PAIR_STATUS.unprotected] ++ eventRegs

/-- R71: the register fields a refused stripe changes, with the job state that the end of a job changes (Table 15.5). -/
def refuseFlds : List Fld :=
  [Reg.SIEVE_REFUSE_SEQ.seq, Reg.SIEVE_REFUSE_INFO.band, Reg.SIEVE_REFUSE_INFO.reason, Reg.SIEVE_REFUSE_COUNT.count,
   Reg.TIME_TRIG0_CTRL.pending, Reg.GLOBAL_JOB.state] ++ mirrorRegs

/-- R71: stripe seq is refused by a check, naming a band and a reason. -/
def Refused (seq band code : Nat) (s t : State) : Prop :=
  t.stripeSt seq = some .refused ∧ t.rd Reg.SIEVE_REFUSE_SEQ.seq = seq % 2 ^ Reg.SIEVE_REFUSE_SEQ.seq.width ∧
    t.rd Reg.SIEVE_REFUSE_INFO.band = band % 2 ^ Reg.SIEVE_REFUSE_INFO.band.width ∧
    t.rd Reg.SIEVE_REFUSE_INFO.reason = code % 2 ^ Reg.SIEVE_REFUSE_INFO.reason.width ∧ Tells code [w seq, w band] s t

/-- Every stripe but seq is as before. -/
def StripesBut (seq : Nat) (s t : State) : Prop := ∀ q, q ≠ seq → t.stripe q = s.stripe q

/-- Every window segment outside a slot of the dose window is as before (R25, R112). -/
def WindowBut (slot : Nat) (s t : State) : Prop := ∀ k, k / 64 ≠ slot → tabFind t.win.segs k = tabFind s.win.segs k

/-- Every key of a table but k holds what it held. -/
def TabBut {α : Type} (k : Nat) (a b : Tab α) : Prop := ∀ i, i ≠ k → tabFind b i = tabFind a i


/-- Every lane but t is as before. -/
def LanesBut (t : Nat) (s u : State) : Prop := ∀ k, k ≠ t → u.lane k = s.lane k

/-- A saturating counter has gone up by n. -/
abbrev Counted (f : Fld) (n : Nat) (s t : State) : Prop := t.rd f = Nat.min (s.rd f + n) (2 ^ f.width - 1)

/-- A back-channel message of a type that lane t hears and whose CRC-16 holds (R194). -/
abbrev HeardMsg (s : State) (t typ : Nat) (b : Bytes) : Prop := s.hears t = true ∧ setGood b = true ∧ byteAt b 0 = typ

/-- Every key of a table outside a list holds what it held. -/
def TabKeeps {α : Type} (l : List Nat) (a b : Tab α) : Prop := ∀ i, i ∉ l → tabFind b i = tabFind a i

/-- R354: the standby commits a mirrored frame on arrival: its bytes are sound, its epoch not older, its generation the next, and none
waits. -/
abbrev Commits (s : State) (m : Bytes) (f : PairFrame) : Prop :=
  parsePair m = some f ∧ s.role = roleStandby ∧ s.rd Reg.PAIR_STATUS.link_up = 1 ∧ s.rd Reg.PAIR_STATUS.epoch ≤ f.epoch ∧
    f.gen = (s.pair.committed + 1) % 2 ^ 32 ∧ s.pair.waiting = []

/-- R354: the frame is committed and acknowledged; the register fields that a commit itself leaves are as before. -/
abbrev Committed (f : PairFrame) (s t : State) : Prop :=
  t.pair.committed = f.gen ∧ t.pair.lastGood = s.now ∧ Sends (.pair (frameBytes ⟨false, s.rd Reg.PAIR_STATUS.epoch, 0, 0, .ack f.gen⟩)) s t

/-- A DMP message from src reaches the HKC and is a new request q: it passes the checks of R392, no response to its seq is kept,
and its seq does not precede every kept one (R394). -/
abbrev Asks (s : State) (src : Src) (b : Bytes) (q : DmpReq) : Prop :=
  Heard s src b.length ∧ s.hkcUp = true ∧ parseDmp b = some q ∧ q.flags < 8 ∧ q.status = 0 ∧ q.payload.length ≤ 8192 ∧
    (∀ k ∈ s.keptOf src, k.1 ≠ q.seq) ∧ (s.keptOf src = [] ∨ ∃ k ∈ s.keptOf src, serialBefore 32 q.seq k.1 = false)

/-- R392, R394: from s to t the request is answered: the response goes to its source and is kept as the newest of at most 32. -/
abbrev Answered (src : Src) (q : DmpReq) (flags handle status : Nat) (payload : Bytes) (s t : State) : Prop :=
  Sends (.udp 47101 src (dmpMsg q.op q.seq handle flags status payload)) s t ∧
    t.keptOf src = ((q.seq, dmpMsg q.op q.seq handle flags status payload) :: s.keptOf src).take 32 ∧
    t.power.hbStale = false ∧ t.hkc.alive = s.now

/-- The register fields any request changes: the frames its port receives and sends. -/
abbrev askRegs (src : Src) : List Fld := [Reg.PORT_RX_FRAMES.frames src.iface, Reg.PORT_TX_FRAMES.frames src.iface]

/-- R350, R414: the request refreshes the watchdog of the HKC and nothing else of the HKC and of the power state. -/
abbrev OnlyRefreshed (s t : State) : Prop :=
  t.hkc = { s.hkc with alive := s.now } ∧ t.power = { s.power with hbStale := false }

/-- The state in which a request from src is carried out: its frame counted, the HKC's watchdog refreshed. -/
def Machine.State.asked (s : State) (src : Src) : State := (s.inc (Reg.PORT_RX_FRAMES.frames src.iface)).hkcRuns

/-- The write of word v to register a does nothing besides storing its fields: no block of operations, no register of one. -/
abbrev PlainWrite (a : Nat) : Prop :=
  a / 65536 ∉ [1, 3, 4, 5, 6, 0x18, 0x19] ∧ a ∉ [0x100008, 0x1E0018, 0x1E001C, 0x24000C, 0x260010] ∧
    (a < 0x80010 ∨ 0x8002C < a) ∧ clearFields a = [] ∧ inTrims a = false ∧ inRetained a = false

namespace Machine

/-- The canonical form of the stores: the register file and the DRAM list keys in rising order, and no byte of NVM, byte of
host scratch or line of DRAM is listed that reads as an unlisted one. -/
def Memory.wf (s : State) : Bool :=
  tabSorted none s.regs && tabWf 0xFF#8 s.power.nvm && tabWf 0#8 s.power.scratch &&
    tabSorted none s.dram.lines && s.dram.lines.all (fun e => decide (e.2 ≠ freeLine e.1))

/-- What every step keeps: the canonical form of the stores; an event ring of at most 4,096 entries and a tail of at most 256
(R409), at most two subscribers (R410), at most 64 finished operations (R401), at most 32 reset history entries (R378), kept
responses of at most 8 sources (R394); 16 streams (R54), four record streams (R317), four capture units (R258), and a multicast group
of each version for each of three ports (R422). -/
structure Inv (s : State) : Prop where
  stores : Memory.wf s = true
  ring : s.evt.ring.length ≤ 4096
  tail : s.evt.tail.length ≤ 256
  subs : s.evt.subs.length ≤ 2
  done : s.ops.done.length ≤ 64
  history : s.power.history.length ≤ 32
  kept : s.dmp.length ≤ 8
  streams : s.codec.streams.length = 16
  recs : s.check.recs.length = 4
  caps : s.trig.caps.length = 4
  groups4 : s.net.group4.length = 3
  groups6 : s.net.group6.length = 3

end Machine

end Sys2Proof
end

