-- ==== Sys2Proof/Certificates/Slice0/Obligations.lean ====
section
/-! DEFINITION. The statements for the provers, family by family. A statement about a command says, under hypotheses on the state
and the operands alone, that the command answers a next state, what that state holds, and its frame: the parts of the state
(Frame) and the register fields (RegsBut) that are as before. -/

open Sys2Proof Sys2Proof.Machine

/-- R46: on an open stream a DATA segment at a distance below the window last advertised and not received before is accepted:
at the ack base, with nothing held beyond it, its payload goes to the decoder and A advances by one; beyond the ack base it is
held. With ack_req set an ACK goes out at once (R47). A segment outside the window, or received before, is discarded and
triggers an ACK. Every other stream, and every register but two frame counters, is as before. -/
def Obligations.DstDataIsTakenInsideTheWindowOnly : Prop :=
  ∀ (s : State) (src : Src) (b : Bytes) (g : DstSeg),
    (Heard s src b.length) →
    (parseDst jobTypes b = .seg g) →
    (s.wrongJob g = false) →
    (s.codec.streams.length = 16) →
    (g.typ = 1) →
    ((s.stream g.stream).opened = true) →
    ((serialDiff 32 (s.stream g.stream).ackA g.seq < (s.stream g.stream).win) →
     (∀ e ∈ (s.stream g.stream).held, e.1 ≠ g.seq) →
     NextWith (exec (.dstData src b) s) fun t =>
       t.codec = (s.setStream g.stream (t.stream g.stream)).codec ∧
       (serialDiff 32 (s.stream g.stream).ackA g.seq = 0 → (s.stream g.stream).held = [] → (t.stream g.stream).ackA = ((s.stream g.stream).ackA + 1) % 2 ^ 32 ∧ (t.stream g.stream).held = [] ∧ ((s.stream g.stream).rx ++ [.seg (g.flags.testBit 1) g.payload]) <+: (t.stream g.stream).rx) ∧
       (serialDiff 32 (s.stream g.stream).ackA g.seq ≠ 0 → (t.stream g.stream).ackA = (s.stream g.stream).ackA ∧ (t.stream g.stream).rx = (s.stream g.stream).rx ∧ (t.stream g.stream).held = (s.stream g.stream).held ++ [(g.seq, g.flags.testBit 1, g.payload)]) ∧
       (g.flags.testBit 0 = true → (s.stream g.stream).finSeq = none → Sends (.udp 47100 src (ackMsg 2 g.stream (t.stream g.stream))) s t) ∧
       RegsBut [Reg.PORT_RX_FRAMES.frames src.iface, Reg.PORT_TX_FRAMES.frames src.iface] s t ∧
       Frame [.regs, .out, .codec] s t) ∧
    (((s.stream g.stream).win ≤ serialDiff 32 (s.stream g.stream).ackA g.seq ∨ ∃ e ∈ (s.stream g.stream).held, e.1 = g.seq) →
     NextWith (exec (.dstData src b) s) fun t =>
       t.codec = (s.setStream g.stream (t.stream g.stream)).codec ∧
       (t.stream g.stream).ackA = (s.stream g.stream).ackA ∧
       (t.stream g.stream).rx = (s.stream g.stream).rx ∧
       (t.stream g.stream).held = (s.stream g.stream).held ∧
       Sends (.udp 47100 src (ackMsg 2 g.stream (t.stream g.stream))) s t ∧
       RegsBut [Reg.PORT_RX_FRAMES.frames src.iface, Reg.PORT_TX_FRAMES.frames src.iface] s t ∧
       Frame [.regs, .out, .codec] s t)

/-- R44, R53: on a host port, a malformed segment is counted in crc_drops and a segment of another job in job_drops (event
0x0620 at most once per stream per second), with no reply and no change to a stream; DATA on a closed stream is answered with
a NAK that has closed set and A = 0. -/
def Obligations.DstSegmentsTurnedAway : Prop :=
  ∀ (s : State) (src : Src) (b : Bytes),
    (Heard s src b.length) →
    ((parseDst jobTypes b = .malformed) →
     NextWith (exec (.dstData src b) s) fun t =>
       t.rd (Reg.PORT_DST_DROP.crc_drops src.iface) = Nat.min (s.rd (Reg.PORT_DST_DROP.crc_drops src.iface) + 1) 65535 ∧
       RegsBut [Reg.PORT_RX_FRAMES.frames src.iface, Reg.PORT_DST_DROP.crc_drops src.iface] s t ∧
       Frame [.regs] s t) ∧
    (∀ (g : DstSeg),
       (parseDst jobTypes b = .seg g) →
       (g.typ = 1) →
       (s.wrongJob g = true) →
       ((s.stream g.stream).lastJobDrop = some s.now) →
       NextWith (exec (.dstData src b) s) fun t =>
         t.rd (Reg.PORT_DST_DROP.job_drops src.iface) = Nat.min (s.rd (Reg.PORT_DST_DROP.job_drops src.iface) + 1) 65535 ∧
         RegsBut [Reg.PORT_RX_FRAMES.frames src.iface, Reg.PORT_DST_DROP.job_drops src.iface] s t ∧
         Frame [.regs] s t) ∧
    (∀ (g : DstSeg),
       (parseDst jobTypes b = .seg g) →
       (g.typ = 1) →
       (s.wrongJob g = true) →
       ((s.stream g.stream).lastJobDrop = none) →
       NextWith (exec (.dstData src b) s) fun t =>
         t.rd (Reg.PORT_DST_DROP.job_drops src.iface) = Nat.min (s.rd (Reg.PORT_DST_DROP.job_drops src.iface) + 1) 65535 ∧
         Raises [(0x0620, [w g.stream, w g.job])] s t ∧
         RegsBut ([Reg.PORT_RX_FRAMES.frames src.iface, Reg.PORT_DST_DROP.job_drops src.iface] ++ eventRegs) s t ∧
         t.codec = (s.setStream g.stream { (s.stream g.stream) with lastJobDrop := some s.now }).codec ∧
         Frame [.regs, .evt, .out, .codec] s t) ∧
    (∀ (g : DstSeg),
       (parseDst jobTypes b = .seg g) →
       (g.typ = 1) →
       (s.wrongJob g = false) →
       ((s.stream g.stream).opened = false) →
       NextWith (exec (.dstData src b) s) fun t =>
         Sends (.udp 47100 src (dstBytes ⟨3, g.stream, 4, 0, 0, g.job, 0, g.echo, bitmapBytes 0 []⟩)) s t ∧
         RegsBut [Reg.PORT_RX_FRAMES.frames src.iface, Reg.PORT_TX_FRAMES.frames src.iface] s t ∧
         Frame [.regs, .out] s t)

/-- R51, R52: a SYNC opens a closed stream with its type, its job and A one above its seq, and is acknowledged; a FIN whose
every earlier sequence has been received closes the stream, and its ACK carries A equal to its seq with closed set. -/
def Obligations.DstSyncOpensAndFinCloses : Prop :=
  ∀ (s : State) (src : Src) (b : Bytes) (g : DstSeg),
    (Heard s src b.length) →
    (parseDst jobTypes b = .seg g) →
    (s.wrongJob g = false) →
    (s.codec.streams.length = 16) →
    ((g.typ = 4) →
     ((s.stream g.stream).opened = false) →
     NextWith (exec (.dstSync src b) s) fun t =>
       t.codec = (s.setStream g.stream (t.stream g.stream)).codec ∧
       (t.stream g.stream).opened = true ∧
       (t.stream g.stream).typ = byteAt g.payload 0 ∧
       (t.stream g.stream).job = g.job ∧
       (t.stream g.stream).ackA = (g.seq + 1) % 2 ^ 32 ∧
       Sends (.udp 47100 src (ackMsg 2 g.stream (t.stream g.stream))) s t ∧
       RegsBut [Reg.PORT_RX_FRAMES.frames src.iface, Reg.PORT_TX_FRAMES.frames src.iface] s t ∧
       Frame [.regs, .out, .codec] s t) ∧
    ((g.typ = 5) →
     ((s.stream g.stream).opened = true) →
     (g.seq = (s.stream g.stream).ackA) →
     NextWith (exec (.dstFin src b) s) fun t =>
       t.codec = (s.setStream g.stream (t.stream g.stream)).codec ∧
       (t.stream g.stream).opened = false ∧
       (t.stream g.stream).closedBy = some ((s.stream g.stream).job, g.seq) ∧
       (t.stream g.stream).rx = (s.stream g.stream).rx ++ [.fin] ∧
       Sends (.udp 47100 src (dstBytes ⟨2, g.stream, 4, 0, g.seq, (s.stream g.stream).job, 0, g.echo, bitmapBytes g.seq []⟩)) s t ∧
       RegsBut [Reg.PORT_RX_FRAMES.frames src.iface, Reg.PORT_TX_FRAMES.frames src.iface] s t ∧
       Frame [.regs, .out, .codec] s t)

/-- R47, R48, R50: the timers of an open stream. An ACK goes out ack_idle_us after the oldest segment not acknowledged was
accepted and when W rises above 0; a NAK goes out reorder_us after the hole at A opened and 200 µs after the last NAK with
that A while a later segment is held. Each says the stream's A and the segments held; nothing is delivered by it, and only the
window and the stream's own timers change. -/
def Obligations.DstTimersAcknowledge : Prop :=
  ∀ (s : State) (i : Nat),
    (i < 16) →
    (s.codec.streams.length = 16) →
    ((s.stream i).opened = true) →
    (∀ (since : Nat),
       ((s.stream i).oldestUnacked = some since) →
       (since + 1000 * s.rd (Reg.PORT_DST_CTRL.ack_idle_us (s.stream i).peer.iface) ≤ s.now) →
       NextWith (exec (.ackIdleTimeout i) s) fun t =>
         t.codec = (s.setStream i (t.stream i)).codec ∧
         (t.stream i).ackA = (s.stream i).ackA ∧
         (t.stream i).held = (s.stream i).held ∧
         (t.stream i).rx = (s.stream i).rx ∧
         (t.stream i).win = s.windowOf (s.stream i) ∧
         Sends (.udp 47100 (s.stream i).peer (ackMsg 2 i (t.stream i))) s t ∧
         RegsBut [Reg.PORT_TX_FRAMES.frames (s.stream i).peer.iface] s t ∧
         Frame [.regs, .out, .codec] s t) ∧
    (∀ (since : Nat),
       ((s.stream i).reorder = some since) →
       ((s.stream i).lastNak = none) →
       (since + 1000 * s.rd (Reg.PORT_DST_CTRL.reorder_us (s.stream i).peer.iface) ≤ s.now) →
       NextWith (exec (.reorderTimeout i) s) fun t =>
         t.codec = (s.setStream i (t.stream i)).codec ∧
         (t.stream i).ackA = (s.stream i).ackA ∧
         (t.stream i).held = (s.stream i).held ∧
         (t.stream i).rx = (s.stream i).rx ∧
         (t.stream i).win = s.windowOf (s.stream i) ∧
         Sends (.udp 47100 (s.stream i).peer (ackMsg 3 i (t.stream i))) s t ∧
         RegsBut [Reg.PORT_TX_FRAMES.frames (s.stream i).peer.iface] s t ∧
         Frame [.regs, .out, .codec] s t) ∧
    (∀ (since : Nat),
       ((s.stream i).lastNak = some ((s.stream i).ackA, since)) →
       ((s.stream i).held ≠ []) →
       (since + 200000 ≤ s.now) →
       NextWith (exec (.nakRepeat i) s) fun t =>
         t.codec = (s.setStream i (t.stream i)).codec ∧
         (t.stream i).ackA = (s.stream i).ackA ∧
         (t.stream i).held = (s.stream i).held ∧
         (t.stream i).rx = (s.stream i).rx ∧
         (t.stream i).win = s.windowOf (s.stream i) ∧
         Sends (.udp 47100 (s.stream i).peer (ackMsg 3 i (t.stream i))) s t ∧
         RegsBut [Reg.PORT_TX_FRAMES.frames (s.stream i).peer.iface] s t ∧
         Frame [.regs, .out, .codec] s t) ∧
    (((s.stream i).win = 0) →
     (0 < s.windowOf (s.stream i)) →
     NextWith (exec (.windowReopen i) s) fun t =>
       t.codec = (s.setStream i (t.stream i)).codec ∧
       (t.stream i).ackA = (s.stream i).ackA ∧
       (t.stream i).held = (s.stream i).held ∧
       (t.stream i).rx = (s.stream i).rx ∧
       (t.stream i).win = s.windowOf (s.stream i) ∧
       Sends (.udp 47100 (s.stream i).peer (ackMsg 2 i (t.stream i))) s t ∧
       RegsBut [Reg.PORT_TX_FRAMES.frames (s.stream i).peer.iface] s t ∧
       Frame [.regs, .out, .codec] s t)

/-- R77, R88: the engine serves the stream that waits, from the one after the stream served last. A segment with chunk_start
begins a chunk: while it is shorter than a DCF header its bytes are the header so far. A segment without chunk_start between
chunks of a stream that is not a geometry stream is a framing failure: event 0x0604, and the stream discards up to the next
chunk_start. A context whose check fails has lost its history (Table 10.1, R86), and its place is tested (R308). -/
def Obligations.DecodeEngineTakesItsStream : Prop :=
  ∀ (s : State) (i : Nat) (data : Bytes),
    (s.codec.streams.length = 16) →
    (s.nextStream = some i) →
    ((s.stream i).inChunk = false) →
    ((s.stream i).skipping = false) →
    ((s.stream i).cur = []) →
    (s.opOfKind 8 = none) →
    (s.rd Reg.CODEC_CTRL.quantum_kib ≠ 0) →
    (((s.stream i).rx = [.seg true data]) →
     (data ≠ []) →
     (data.length < 32) →
     NextWith (exec (.decodeEngineAssign false) s) fun t =>
       (t.stream i).ctx.phase = .header ∧
       (t.stream i).ctx.dcfHdr = data ∧
       (t.stream i).rx = [] ∧
       (t.stream i).cur = [] ∧
       t.codec.lastServed = i ∧
       RegsBut eventRegs s t ∧
       Frame [.regs, .out, .codec] s t) ∧
    (((s.stream i).rx = [.seg false data]) →
     ((s.stream i).decTyp ≠ 1) →
     NextWith (exec (.decodeEngineAssign false) s) fun t =>
       Raises [(0x0604, [w 0, w 0])] s t ∧
       (t.stream i).skipping = true ∧
       (t.stream i).rx = [] ∧
       (t.stream i).ctx.histAvail = false ∧
       t.codec.lastServed = i ∧
       RegsBut eventRegs s t ∧
       Frame [.regs, .out, .evt, .codec] s t) ∧
    (((s.stream i).rx = [.seg true data]) →
     (data ≠ []) →
     (data.length < 32) →
     NextWith (exec (.decodeEngineAssign true) s) fun t =>
       (t.stream i).ctx.phase = .header ∧
       (t.stream i).ctx.dcfHdr = data ∧
       (t.stream i).ctx.histAvail = false ∧
       (t.stream i).ctx.hist = [] ∧
       t.codec.lastServed = i ∧
       (s.check.tests = [] → s.check.hist = [] → t.check.tests = [entryLoc memContext i]) ∧
       Frame [.regs, .out, .evt, .check, .codec] s t)

/-- R58, R59: a held descriptor whose number is next and for which the queue has room is taken when it passes every check: its
stripe is PENDING and its number is consumed. When the hold of the only held descriptor expires the descriptor is refused with
0x060D, and its number is consumed. -/
def Obligations.HeldDescriptorIsTakenOrExpires : Prop :=
  ∀ (s : State) (x : HeldDesc),
    (s.codec.streams.length = 16) →
    (x.stream < 16) →
    (s.sieve.held = [x]) →
    (x.seq = (parseDesc x.raw).seq) →
    (s.stripe x.seq = none) →
    ((s.stream x.stream).heldChunks = []) →
    ((s.queue.length < 8) →
     (x.seq = s.job.nextSeq) →
     (s.judgeDesc x.hdr x.raw = none) →
     (s.sieve.seeds = []) →
     NextWith (exec (.descriptorQueueRoom) s) fun t =>
       t.stripeSt x.seq = some .pending ∧
       t.job.nextSeq = x.seq + 1 ∧
       t.job.lastLayer = some (parseDesc x.raw).layer ∧
       t.sieve.held = [] ∧
       (t.stream x.stream).lastDesc = some x.seq ∧
       (t.stream x.stream).holding = false ∧
       RegsBut mirrorRegs s t ∧
       Frame [.regs, .out, .evt, .pair, .codec, .sieve, .job] s t) ∧
    (∀ (due : Nat),
       (x.due = some due) →
       (due ≤ s.now) →
       (s.job.nextSeq < x.seq) →
       NextWith (exec (.descriptorHoldTimeout x.seq) s) fun t =>
         Refused x.seq 0 0x060D s t ∧
         t.job.nextSeq = x.seq + 1 ∧
         t.sieve.held = [] ∧
         (t.stream x.stream).holding = false ∧
         RegsBut refuseFlds s t ∧
         Frame [.regs, .out, .evt, .hkc, .ops, .pair, .codec, .sieve, .job] s t)

/-- R68, R70, R130, R131, R134: a stripe that meets the five conditions becomes ADMITTED. A neighbour's map on which the halo
condition rests and that fails a line check is no longer complete, and is computed again while its geometry remains in the
spool (Table 2.8): the stripe stays PENDING. The coarse renderer stores the density cells of the band at the head of its
queue; a band whose fetch fails waits 1 ms for its retry, and when the retry fails too its stripe is refused with 0x0615. -/
def Obligations.StripeIsAdmittedAndItsDensityStored : Prop :=
  ∀ (s : State) (seq : Nat) (x : Stripe),
    (s.stripe seq = some x) →
    (∀ (bad : List Nat),
       (s.admissible x = true) →
       (∀ y ∈ s.mapsNeeded x, y.d.seq ∉ bad) →
       NextWith (exec (.stripeAdmit seq bad) s) fun t =>
         t.stripe seq = some { x with st := .admitted } ∧
         t.sieve = (s.updStripe seq (fun y => { y with st := .admitted })).sieve ∧
         RegsBut mirrorRegs s t ∧
         Frame [.regs, .out, .evt, .pair, .sieve] s t) ∧
    (∀ (y : Stripe),
       (x.st = .pending) →
       (s.mapsNeeded x = [y]) →
       (s.stripe y.d.seq = some y) →
       (densComplete y = true) →
       (y.d.seq ≠ seq) →
       NextWith (exec (.stripeAdmit seq [y.d.seq]) s) fun t =>
         t.stripe y.d.seq = some { y with dens := [], densDone := [] } ∧
         t.stripe seq = some x ∧
         StripesBut y.d.seq s t ∧
         t.sieve.densQ = s.sieve.densQ ++ (if y.inSpool then (List.range (bandsOf y.d.lenM1)).map (fun b => (y.d.seq, b)) else []) ∧
         Frame [.sieve] s t) ∧
    (∀ (band : Nat) (rest : List (Nat × Nat)) (b : Band),
       (s.sieve.densQ = (seq, band) :: rest) →
       (tabFind x.bands band = some b) →
       NextWith (exec (.densityPrepassBand true) s) fun t =>
         (t.stripe seq) = some { x with dens := bandDensity s.variant b band x.dens, densDone := band :: x.densDone, densRetry := x.densRetry.filter (fun e => e.1 ≠ band) } ∧
         t.sieve.densQ = rest ∧
         StripesBut seq s t ∧
         Frame [.sieve] s t) ∧
    (∀ (band : Nat) (rest : List (Nat × Nat)),
       (s.sieve.densQ = (seq, band) :: rest) →
       NextWith (exec (.densityPrepassBand false) s) fun t =>
         t.stripe seq = some { x with densRetry := (band, s.now + 1000000) :: x.densRetry } ∧
         t.sieve.densQ = rest ∧
         StripesBut seq s t ∧
         Frame [.sieve] s t) ∧
    (∀ (band due : Nat) (b : Band),
       (x.densRetry.find? (fun e => e.1 = band) = some (band, due)) →
       (due ≤ s.now) →
       (tabFind x.bands band = some b) →
       NextWith (exec (.densityFetchRetry seq band true) s) fun t =>
         (t.stripe seq) = some { x with dens := bandDensity s.variant b band x.dens, densDone := band :: x.densDone, densRetry := x.densRetry.filter (fun e => e.1 ≠ band) } ∧
         StripesBut seq s t ∧
         Frame [.sieve] s t) ∧
    (∀ (band due : Nat),
       (x.densRetry.find? (fun e => e.1 = band) = some (band, due)) →
       (due ≤ s.now) →
       NextWith (exec (.densityFetchRetry seq band false) s) fun t =>
         Refused seq band 0x0615 s t ∧
         RegsBut refuseFlds s t ∧
         Frame [.regs, .out, .evt, .hkc, .ops, .pair, .sieve] s t)

/-- R94, R95: when the image of a stream passes its check as it is read back, the stream's checkpoint or save-out slot holds
its type 0x07 chunk; the first time it does not, the write is repeated. A restore whose image is valid loads the stream's
context and clears its freeze; one whose image is not raises 0x0902 and fails the operation. -/
def Obligations.ContextImagesAreStoredAndRestored : Prop :=
  ∀ (s : State) (o : LongOp),
    (s.codec.streams.length = 16) →
    (o.pos < 16) →
    (s.opOfKind 8 = some o) →
    (o.st = .running) →
    ((o.image ≠ []) →
     (o.cancelling = false) →
     NextWith (exec (.contextImageStoreDone true) s) fun t =>
       (o.arg % 4 = 1 → (t.stream o.pos).checkpoint = some (chunkSlot (imageChunk o.pos 0 o.image) [])) ∧
       (o.arg % 4 = 2 → (t.stream o.pos).saveOut = some (chunkSlot (imageChunk o.pos 0 o.image) (s.stream o.pos).ctx.staged)) ∧
       (t.stream o.pos).ctx = (s.stream o.pos).ctx ∧
       Frame [.regs, .out, .hkc, .ops, .codec] s t) ∧
    ((o.image ≠ []) →
     (o.cancelling = false) →
     (s.codec.ctxRetry.contains o.pos = false) →
     NextWith (exec (.contextImageStoreDone false) s) fun t =>
       t.codec = { s.codec with ctxRetry := o.pos :: s.codec.ctxRetry } ∧
       Frame [.codec] s t) ∧
    (∀ (c : Ctx),
       (o.arg % 4 = 3) →
       (s.restorable o.pos = some c) →
       NextWith (exec (.contextRestoreDone true) s) fun t =>
         (t.stream o.pos).ctx = c ∧
         (t.stream o.pos).frozen = false ∧
         (t.stream o.pos).saveOut = none ∧
         Frame [.regs, .out, .hkc, .ops, .codec] s t) ∧
    ((o.arg % 4 = 3) →
     NextWith (exec (.contextRestoreDone false) s) fun t =>
       Raises [(0x0902, [w o.pos])] s t ∧
       ∃ p ∈ t.ops.slots, p.handle = o.handle ∧ p.st = .failed ∧ p.result = 2 ∧
       RegsBut eventRegs s t ∧
       Frame [.regs, .out, .evt, .hkc, .ops] s t)

/-- R113, R114, R117, R118, R119, R123, R125: the render of the next admitted stripe starts at line 0. A line whose slices
have all fetched their records leaves in its slot of the dose window the pattern dose of every segment and a loss of 0, with
good checks, and RENDER_LINE names it. A slice whose record fetch failed leaves its segments out: they are noted as missing,
counted, and told by 0x0523. A queued re-render stands before the next line. A slice that re-renders a segment writes it with
a fresh check and counts it; a fetch that fails again raises 0x0523. Segments of other slots are as before. -/
def Obligations.RenderFollowsTheScan : Prop :=
  ∀ (s : State) (x : Stripe),
    ((s.nextRender = some x) →
     NextWith (exec (.renderStart) s) fun t =>
       t.render = ⟨some x.d.seq, 0, [], [], [], 0⟩ ∧
       t.win.segs = s.win.segs ∧
       t.rd Reg.RENDER_STATUS.active = 1 ∧
       t.rd Reg.RENDER_STATUS.prerolled = 0 ∧
       t.rd Reg.RENDER_LINE.valid = 0 ∧
       Counted Reg.RENDER_RERENDER.dropped s.render.rerender.length s t ∧
       RegsBut [Reg.RENDER_RERENDER.dropped, Reg.RENDER_STATUS.active, Reg.RENDER_STATUS.prerolled, Reg.RENDER_LINE.valid] s t ∧
       Frame [.regs, .render, .win] s t) ∧
    (∀ (b : Band),
       (s.render.stripe = some x.d.seq) →
       (s.stripe x.d.seq = some x) →
       (s.render.lines < x.d.len) →
       (mayStart x s.render.lines = true) →
       (tabFind x.bands (bandOf (scanLine x.d s.render.lines)) = some b) →
       (s.flatReady b (bandOf (scanLine x.d s.render.lines)) = true) →
       (s.lineTurn = true) →
       (inQueue x = true) →
       (∀ e ∈ s.render.missing, scanIx x.d e.1 ≠ s.render.lines) →
       NextWith (exec (.renderLineDone 0) s) fun t =>
         t.render.lines = s.render.lines + 1 ∧
         t.rd Reg.RENDER_LINE.valid = 1 ∧
         t.rd Reg.RENDER_LINE.line = scanLine x.d s.render.lines % 2 ^ Reg.RENDER_LINE.line.width ∧
         (∀ seg < segsOf s.variant, t.winRead x.d.seq (scanLine x.d s.render.lines) 0 seg = some (segmentP x (scanLine x.d s.render.lines) seg)) ∧
         (∀ seg < segsOf s.variant, t.winRead x.d.seq (scanLine x.d s.render.lines) 1 seg = some (List.replicate 256 0)) ∧
         WindowBut (slotOf (scanLine x.d s.render.lines)) s t ∧
         RegsBut ([Reg.RENDER_STATUS.active, Reg.RENDER_STATUS.prerolled, Reg.RENDER_LINE.valid, Reg.RENDER_LINE.line, Reg.RENDER_EDGE_MAX.edge_max, Reg.RENDER_LEAD_MIN.lead_min] ++ eventRegs) s t ∧
         Frame [.regs, .out, .evt, .sieve, .render, .win] s t) ∧
    (∀ (q : Nat) (b : Band),
       (q < slicesOf s.variant) →
       (s.render.stripe = some x.d.seq) →
       (s.stripe x.d.seq = some x) →
       (s.render.lines < x.d.len) →
       (mayStart x s.render.lines = true) →
       (tabFind x.bands (bandOf (scanLine x.d s.render.lines)) = some b) →
       (s.flatReady b (bandOf (scanLine x.d s.render.lines)) = true) →
       (s.lineTurn = true) →
       (inQueue x = true) →
       NextWith (exec (.renderLineDone (2 ^ q)) s) fun t =>
         t.render.lines = s.render.lines + 1 ∧
         Counted Reg.RENDER_FETCH_ERR.fails 1 s t ∧
         Tells 0x0523 [w x.d.seq, w (bandOf (scanLine x.d s.render.lines)), w q] s t ∧
         (∀ seg < segsOf s.variant, if seg / 2 = q then (scanLine x.d s.render.lines, seg) ∈ t.render.missing else t.winRead x.d.seq (scanLine x.d s.render.lines) 0 seg = some (segmentP x (scanLine x.d s.render.lines) seg)) ∧
         (∀ seg < segsOf s.variant, t.winRead x.d.seq (scanLine x.d s.render.lines) 1 seg = some (List.replicate 256 0)) ∧
         WindowBut (slotOf (scanLine x.d s.render.lines)) s t ∧
         RegsBut ([Reg.RENDER_FETCH_ERR.fails, Reg.RENDER_STATUS.active, Reg.RENDER_STATUS.prerolled, Reg.RENDER_LINE.valid, Reg.RENDER_LINE.line, Reg.RENDER_EDGE_MAX.edge_max, Reg.RENDER_LEAD_MIN.lead_min] ++ eventRegs) s t ∧
         Frame [.regs, .out, .evt, .sieve, .render, .win] s t) ∧
    (∀ (slice y seg k : Nat),
       (s.render.stripe = some x.d.seq) →
       (s.stripe x.d.seq = some x) →
       (∀ e ∈ s.render.rerender, released x (scanIx x.d e.1) = false) →
       (s.render.rerender.find? (ofSlice slice) = some (y, seg, k)) →
       NextWith (exec (.rerenderDone slice true) s) fun t =>
         t.winRead x.d.seq y 0 seg = some (segmentP x y seg) ∧
         t.rd Reg.RENDER_RERENDER.done = Nat.min (s.rd Reg.RENDER_RERENDER.done + 1) (2 ^ Reg.RENDER_RERENDER.done.width - 1) ∧
         t.render.rerender = s.render.rerender.filter (fun e => e.1 ≠ y ∨ e.2.1 ≠ seg) ∧
         WindowBut (slotOf y) s t ∧
         RegsBut ([Reg.RENDER_RERENDER.done, Reg.RENDER_RERENDER.dropped, Reg.RENDER_STATUS.prerolled, Reg.RENDER_LINE.valid, Reg.RENDER_LINE.line, Reg.RENDER_LEAD_MIN.lead_min] ++ eventRegs) s t ∧
         Frame [.regs, .out, .evt, .sieve, .render, .win] s t) ∧
    (∀ (slice y seg k : Nat),
       (s.render.stripe = some x.d.seq) →
       (s.stripe x.d.seq = some x) →
       (∀ e ∈ s.render.rerender, released x (scanIx x.d e.1) = false) →
       (s.render.rerender.find? (ofSlice slice) = some (y, seg, k)) →
       NextWith (exec (.rerenderDone slice false) s) fun t =>
         Raises [(0x0523, [w x.d.seq, w (bandOf y), w slice])] s t ∧
         t.rd Reg.RENDER_FETCH_ERR.fails = Nat.min (s.rd Reg.RENDER_FETCH_ERR.fails + 1) (2 ^ Reg.RENDER_FETCH_ERR.fails.width - 1) ∧
         t.render.rerender = s.render.rerender.filter (fun e => e.1 ≠ y ∨ e.2.1 ≠ seg) ∧
         RegsBut ([Reg.RENDER_FETCH_ERR.fails, Reg.RENDER_RERENDER.dropped] ++ eventRegs) s t ∧
         Frame [.regs, .out, .evt, .render] s t) ∧
    (∀ (slice band : Nat),
       (s.render.stripe = some x.d.seq) →
       (s.render.flattened.contains (band, slice) = false) →
       NextWith (exec (.curveFlattenDone slice band) s) fun t =>
         t.render = { s.render with flattened := (band, slice) :: s.render.flattened } ∧
         Frame [.render] s t)

/-- R144, R146: the free engine latches the live parameters for the lowest stripe whose map has not begun, and starts its map
unless the mode is off; the next row of the map in scan order is stored, and the last one ends it; a row to recompute is
stored first. A cell whose density cannot be read and whose records are gone counts as zero from its row on: it is counted,
and event 0x0533 names it (R151). A commit makes the shadow registers live in one step. -/
def Obligations.DoseMapRowsAreStored : Prop :=
  ∀ (s : State),
    (∀ (x : Stripe),
       (s.pec.stripe = none) →
       (s.sieve.stripes.find? (fun y => y.fParams.isNone && (y.st = .admitted || y.st = .armed || y.st = .exposing)) = some x) →
       (s.stripe x.d.seq = some x) →
       NextWith (exec (.fMapStart) s) fun t =>
         t.stripe x.d.seq = some { x with fParams := some s.pec.live } ∧
         StripesBut x.d.seq s t ∧
         t.rd Reg.PEC_STATUS.seq = x.d.seq % 2 ^ Reg.PEC_STATUS.seq.width ∧
         t.rd Reg.PEC_ROW.rows = 0 ∧
         (s.pec.live.mode = 0 → t.pec = s.pec) ∧
         (s.pec.live.mode ≠ 0 → t.pec = { s.pec with stripe := some x.d.seq, rows := 0 } ∧ t.rd Reg.PEC_STATUS.busy = 1) ∧
         RegsBut [Reg.PEC_STATUS.seq, Reg.PEC_STATUS.first_ready, Reg.PEC_STATUS.substituted, Reg.PEC_STATUS.busy, Reg.PEC_ROW.rows, Reg.PEC_CLAMP.clamp_hi, Reg.PEC_CLAMP.clamp_lo] s t ∧
         Frame [.regs, .sieve, .pec] s t) ∧
    (∀ (x : Stripe) (p : PecParams),
       (s.pec.redo = []) →
       (s.pec.stripe = some x.d.seq) →
       (s.stripe x.d.seq = some x) →
       (x.fParams = some p) →
       NextWith (exec (.fRowDone []) s) fun t =>
         t.stripe x.d.seq = some { x with fRows := tabPut x.fRows (rowAt x.d s.pec.rows + 1).toNat ((s.pecRow x p (rowAt x.d s.pec.rows)).map (fun e => e.1)) } ∧
         StripesBut x.d.seq s t ∧
         (t.pec = { s.pec with rows := s.pec.rows + 1, stripe := if s.pec.rows + 1 < cellRows x.d.len + 2 then some x.d.seq else none }) ∧
         t.rd Reg.PEC_ROW.rows = (s.pec.rows + 1) % 2 ^ Reg.PEC_ROW.rows.width ∧
         RegsBut ([Reg.PEC_STATUS.first_ready, Reg.PEC_STATUS.busy, Reg.PEC_ROW.rows, Reg.PEC_CLAMP.clamp_hi, Reg.PEC_CLAMP.clamp_lo] ++ eventRegs) s t ∧
         Frame [.regs, .out, .evt, .sieve, .pec] s t) ∧
    (∀ (x : Stripe) (p : PecParams) (under : Bool) (cx cy : Int),
       (s.pec.redo = []) →
       (s.pec.stripe = some x.d.seq) →
       (s.stripe x.d.seq = some x) →
       (x.fParams = some p) →
       (s.recomputable x under cx cy = false) →
       (zeroed x s.pec.rows under cx cy = false) →
       NextWith (exec (.fRowDone [(under, cx, cy)]) s) fun t =>
         (t.stripe x.d.seq).map (fun z => z.fSubst) = some ((under, cx, cy, s.pec.rows) :: x.fSubst) ∧
         StripesBut x.d.seq s t ∧
         Counted Reg.PEC_ERR.d_subst 1 s t ∧
         t.rd Reg.PEC_STATUS.substituted = 1 ∧
         Tells 0x0533 [w x.d.seq, w (if under then x.d.layer - 1 else x.d.layer), w (toField 32 ((x.d.slot : Int) * (cellsOf s.variant : Int) + cx)), w (toField 32 (x.d.yOrigin / 64 + cy))] s t ∧
         (t.pec = { s.pec with rows := s.pec.rows + 1, stripe := if s.pec.rows + 1 < cellRows x.d.len + 2 then some x.d.seq else none }) ∧
         Frame [.regs, .out, .evt, .sieve, .pec] s t) ∧
    (∀ (x : Stripe) (p : PecParams) (y : Int) (rest : List (Nat × Int)),
       (s.pec.redo = (x.d.seq, y) :: rest) →
       (s.stripe x.d.seq = some x) →
       (x.fParams = some p) →
       NextWith (exec (.fRowDone []) s) fun t =>
         t.stripe x.d.seq = some { x with fRows := tabPut x.fRows (y + 1).toNat ((s.pecRow x p y).map (fun e => e.1)) } ∧
         StripesBut x.d.seq s t ∧
         t.pec = { s.pec with redo := rest } ∧
         Frame [.sieve, .pec] s t) ∧
    (NextWith (exec (.pecCommit true) s) fun t =>
       t.pec = { s.pec with live := t.pec.live } ∧
       t.pec.live.mode = s.rd Reg.PEC_CTRL.mode ∧
       t.pec.live.iter = s.rd Reg.PEC_CTRL.iter ∧
       t.pec.live.kEn = s.rd Reg.PEC_CTRL.k_en ∧
       t.pec.live.fBase = s.rd Reg.PEC_F_BASE.f_base ∧
       (∀ k ∈ List.range 4, t.pec.live.weights.getD k 0 = s.rd (Reg.PEC_WEIGHT.w k)) ∧
       t.pec.live.weightU = s.rd Reg.PEC_WEIGHT_U.w ∧
       (∀ k ∈ List.range 10, ∀ i ∈ List.range 129, tabGet 0 t.pec.live.tabs (k * 256 + i) = s.rd (Reg.PEC_KTAB.tap k i)) ∧
       Frame [.pec] s t)

/-- R148: where the four cells around a pixel hold one value F, bilinear interpolation gives F for every position of the pixel
between them. -/
def Obligations.InterpolationOfAFlatMapIsFlat : Prop :=
  ∀ fx fy f : Nat, fx ≤ 128 → fy ≤ 128 → interpF fx fy f f f f = f

/-- R16, R17: a stripe has L + 8,176 ticks; row r exposes line y_f(s) − 16·r of a forward stripe and y_f(s) + 16·(511 − r) of
a reverse one, as pass r div 16 or 31 − r div 16. Hence every in-stripe shot is the pass that R20 places at its tick and row,
and every pass of a pixel inside the stripe is the shot of its row at its tick. -/
def Obligations.EveryShotIsOnePassOfItsPixel : Prop :=
  (∀ len : Nat, stripeTicks len = len + 8176) ∧
  (∀ len s r : Nat, r < 512 → nominalY 0 len s r = (s : Int) - 16 * r ∧ nominalY 1 len s r = (len : Int) - 1 - s + 16 * (511 - (r : Int)) ∧
    passOf 0 r = r / 16 ∧ passOf 1 r = 31 - r / 16) ∧
  (∀ dir len s r c y : Nat, dir < 2 → r < 512 → y < len → nominalY dir len s r = (y : Int) →
    passTick dir len (pixelX r c) y (passOf dir r) = s ∧ passRow dir (pixelX r c) (passOf dir r) = r ∧ pixelX r c / 16 = c) ∧
  (∀ dir len x y k : Nat, dir < 2 → y < len → k < 32 →
    nominalY dir len (passTick dir len x y k) (passRow dir x k) = (y : Int) ∧ passOf dir (passRow dir x k) = k ∧
      pixelX (passRow dir x k) (x / 16) = x ∧ passTick dir len x y k < stripeTicks len)

/-- R163: the code of a shot is 0 to 255 and its residual −8 to 7; accounted dose, residual and loss add up to the demand; for
a gain inside the window loss arises only from a clamped code. -/
def Obligations.ShotDemandIsAccountedFor : Prop :=
  ∀ (want : Int) (g : Nat),
    (codeOf want g).1 ≤ 255 ∧ -8 ≤ (codeOf want g).2.1 ∧ (codeOf want g).2.1 ≤ 7 ∧
    (accDose (codeOf want g).1 g : Int) + (codeOf want g).2.1 + (codeOf want g).2.2 = want ∧
    (gainOk g = true → 0 ≤ codeRaw want g → codeRaw want g ≤ 255 → (codeOf want g).2.2 = 0)

/-- R162: the shares of the live passes of a column sum to the target less the stuck-open dose exactly, and no two of them
differ by more than one q. -/
def Obligations.SharesSumToTheTarget : Prop :=
  ∀ (t stuck : Int) (live : Nat), 0 < live →
    ((List.range live).map (fun j => share t stuck live j)).sum = t - stuck ∧
    (∀ i j : Nat, i < live → j < live → share t stuck live i ≤ share t stuck live j + 1)

/-- R168: a missed pass is unrecovered exactly when every reserve pass that would make it up was itself missed; and at most
one reserve pass that was not missed makes it up. -/
def Obligations.EveryMissedPassIsMadeUpOnce : Prop :=
  ∀ (lost : List Bool) (i : Nat),
    (unrecovered lost i = true ↔ ∀ p < lost.length, makesUp lost i p = true → lost.getD p false = true) ∧
    (∀ p q : Nat, p < lost.length → q < lost.length → makesUp lost i p = true → makesUp lost i q = true →
      lost.getD p false = false → lost.getD q false = false → p = q)

/-- R159, R160: the samples of a landing offset carry weights above 0 that sum to 4,096; an offset within two pixels and two
lines of the nominal pixel samples nothing beyond the reach. -/
def Obligations.SampleWeightsSumToOne : Prop :=
  ∀ ox oy : Int,
    ((sampleOffsets ox oy).map (fun e => e.2.2)).sum = 4096 ∧ (∀ e ∈ sampleOffsets ox oy, 0 < e.2.2) ∧
    (-128 ≤ ox → ox ≤ 128 → -128 ≤ oy → oy ≤ 128 → beyondReach ox oy = false)

/-- R36, R251, R261, R262, R267: from T − 3τ − 64 ns the next tick of the stripe in progress gets its entry, newest in the
tick log: its number, its time T = first tick + s·τ, the offset judged from the stage reports, and every block blanked when
the stage data say so. From T − 3τ the tick is computed, once. A tick whose every block is blanked leaves the dose window as
it is. -/
def Obligations.TicksAreFixedAndComputed : Prop :=
  ∀ (s : State) (x : Stripe),
    (s.current = some x) →
    (s.stripe x.d.seq = some x) →
    (x.truncated = false) →
    ((s.follows = false) →
     (x.fixed < stripeTicks x.d.len) →
     (tickTime x x.fixed ≤ s.ns + 3 * x.d.tau + 64) →
     NextWith (exec (.tickFix) s) fun t =>
       (t.shot.tlog.head?.map (fun e => (e.n, e.seq, e.s, e.time))) = some (x.nFirst + x.fixed, x.d.seq, x.fixed, x.t0 + x.fixed * x.d.tau) ∧
       (t.shot.tlog.head?.map (fun e => (e.dx, e.dy, e.excursion, e.gapBlank))) = some ((s.judgeStage x x.fixed).dx, (s.judgeStage x x.fixed).dy, (s.judgeStage x x.fixed).excursion, (s.judgeStage x x.fixed).gap) ∧
       (((s.judgeStage x x.fixed).excursion || (s.judgeStage x x.fixed).gap) = true → (t.shot.tlog.head?.map (fun e => e.dk1)) = some (allBlocks s.variant)) ∧
       (((s.judgeStage x x.fixed).excursion || (s.judgeStage x x.fixed).gap) = false → (t.shot.tlog.head?.map (fun e => e.dk1)) = some (s.outBlocks x.dry x.d.tau)) ∧
       t.shot.tlog.tail = s.shot.tlog.take 8191 ∧
       (t.stripe x.d.seq).map (fun y => (y.fixed, y.computed, y.st)) = some (x.fixed + 1, x.computed, x.st) ∧
       StripesBut x.d.seq s t ∧
       t.win = s.win ∧
       (x.fixed ≠ 0 → RegsBut ([Reg.STG_LAST_OFFSET.dx, Reg.STG_LAST_OFFSET.dy, Reg.STG_STATUS.coasting, Reg.STG_STATUS.blanking, Reg.STG_AGE_MAX.age_ns, Reg.STG_BLANKED.excursion, Reg.STG_BLANKED.coast] ++ mirrorRegs) s t) ∧
       Frame [.regs, .out, .evt, .pair, .sieve, .shot, .dram, .check] s t) ∧
    (∀ (e : TickEntry) (bad : List BadRead),
       (x.computed < x.fixed) →
       (tickTime x x.computed ≤ s.ns + 3 * x.d.tau) →
       (s.tickAt x.d.seq x.computed = some e) →
       NextWith (exec (.tickCompute bad) s) fun t =>
         ∃ e2 ∈ t.shot.tlog, e2.n = e.n ∧ e2.computed = true ∧
         (t.stripe x.d.seq).map (fun y => y.computed) = some (x.computed + 1) ∧
         StripesBut x.d.seq s t ∧
         ((∀ b < blocksOf s.variant, e.dk1.testBit b = true) → t.win = s.win) ∧
         Frame [.regs, .out, .evt, .sieve, .win, .render, .pec, .shot, .check, .cal, .pair] s t)

/-- R30, R202, R203, R204: from T − 2τ less the longest flight the next computed tick is launched: SHOT_TICK names it, the
next tick number follows it, and every ACTIVE lane that has not resolved it and holds 16 credits is sent its frame at the cost
of 16 credits; in dry-run the lanes are left alone. Its TICK follows on every ACTIVE lane, and the entry says so. -/
def Obligations.TicksAreLaunchedAndSent : Prop :=
  ∀ (s : State) (e : TickEntry),
    (∀ (x : Stripe),
       (s.current = some x) →
       (s.stripe x.d.seq = some x) →
       (x.truncated = false) →
       (s.follows = false) →
       (x.launched < x.computed) →
       (tickTime x x.launched ≤ s.ns + 2 * x.d.tau + s.maxFwd) →
       (s.tickAt x.d.seq x.launched = some e) →
       NextWith (exec (.frameLaunch) s) fun t =>
         ∃ e2 ∈ t.shot.tlog, e2.n = e.n ∧ e2.launched = true ∧
         t.rd Reg.SHOT_TICK_LO.tick_lo = e.n % 2 ^ 32 ∧
         t.rd Reg.SHOT_TICK_HI.tick_hi = e.n / 2 ^ 32 % 2 ^ 8 ∧
         t.job.nextTick = e.n + 1 ∧
         t.rd Reg.SHOT_STRIPE.seq = x.d.seq % 2 ^ 24 ∧
         (t.stripe x.d.seq).map (fun y => y.launched) = some (x.launched + 1) ∧
         (t.stripe x.d.seq).map (fun y => y.st) = some (if e.s + 1 = stripeTicks x.d.len then StripeSt.done else StripeSt.exposing) ∧
         StripesBut x.d.seq s t ∧
         (x.dry = true → t.lanes = s.lanes ∧ t.tx = s.tx) ∧
         (x.dry = false → ∀ l < lanesOf s.variant, s.laneSt l = lnActive → e.resolved.testBit l = false → 16 ≤ s.rd (Reg.LANE_CREDIT.avail l) → t.rd (Reg.LANE_CREDIT.avail l) = (s.rd (Reg.LANE_CREDIT.avail l) - 16) % 2 ^ (Reg.LANE_CREDIT.avail l).width) ∧
         Frame [.regs, .out, .evt, .hkc, .job, .sieve, .win, .shot, .check, .lanes, .tx, .pair, .power] s t) ∧
    (∀ (bad : List BadRead),
       (s.tickDue = some e) →
       (e.time ≤ s.ns + s.guardMax + 260) →
       NextWith (exec (.tickSend bad) s) fun t =>
         ∃ e2 ∈ t.shot.tlog, e2.n = e.n ∧ e2.tickSent = true ∧
         ((!e.cal && (s.stripe e.seq).any Stripe.dry) = false → ∀ l < lanesOf s.variant, s.laneSt l = lnActive → (!e.cal && s.laneExcludes l e.tau) = false → Sends (.lane l ((tickDelay e.time (s.lane l).guardNs (s.rd (Reg.LANE_RX_APPLY.apply_ps l))).2 - blkPs 1) (tickSet e.n (tickDelay e.time (s.lane l).guardNs (s.rd (Reg.LANE_RX_APPLY.apply_ps l))).1 e.tau (!e.cal && e.s = 0) (!e.cal && (s.stripe e.seq).any (fun x => e.s + 1 = stripeTicks x.d.len)) e.cal)) s t) ∧
         Frame [.regs, .out, .evt, .sieve, .win, .render, .pec, .shot, .check, .cal, .lanes, .tx, .pair, .power] s t)

/-- R167, R266: at T + 5τ of the oldest tick not resolved, event 0x0504 names the lanes that have not resolved it; each of
them has the tick resolved and unconfirmed in the entry from then on. -/
def Obligations.UnresolvedTicksExpire : Prop :=
  ∀ (s : State) (e : TickEntry),
    ∀ (bad : List BadRead),
      (s.oldestOpen = some e) →
      (e.time + 5 * e.tau ≤ s.ns) →
      NextWith (exec (.undoExpiry bad) s) fun t =>
        Tells 0x0504 [w e.seq, wd e.n, wd ((s.lanesWhere (fun l => !e.resolved.testBit l)).foldl withBit 0)] s t ∧
        (∀ l ∈ s.lanesWhere (fun l => !e.resolved.testBit l), ∃ e2 ∈ t.shot.tlog, e2.n = e.n ∧ e2.resolved.testBit l = true ∧ e2.unconf.testBit l = true) ∧
        Frame [.regs, .out, .evt, .sieve, .win, .render, .pec, .shot, .check, .cal, .pair] s t

/-- R174, R175, R272: the oldest rebuild waiting starts once every earlier tick of its stripe is final. One whose inputs all
read good leaves in the segment the residuals that replay gives, with a fresh check; otherwise the segment is written with 0,
its loss told by 0x0506. A lasting window row goes to a spare of its bank, with 0x030F, until its bank has used all eight. -/
def Obligations.ResidualsAreRebuiltAndRowsRemapped : Prop :=
  ∀ (s : State),
    (∀ (r : Rebuild),
       (s.shot.rebuilds.find? (fun q => !q.started) = some r) →
       (s.earlierResolved r.seq r.failTick = true) →
       NextWith (exec (.rhoRebuildStart) s) fun t =>
         t.shot = { s.shot with rebuilds := t.shot.rebuilds } ∧
         (∃ q ∈ t.shot.rebuilds, q.seq = r.seq ∧ q.y = r.y ∧ q.seg = r.seg ∧ q.started = true) ∧
         t.shot.rebuilds.map (fun q => (q.seq, q.y, q.seg)) = s.shot.rebuilds.map (fun q => (q.seq, q.y, q.seg)) ∧
         Frame [.shot] s t) ∧
    (∀ (r : Rebuild) (x : Stripe) (bad : List BadRead) (vals : List Int),
       (s.shot.rebuilds.find? (fun q => q.started) = some r) →
       (s.stripe r.seq = some x) →
       ((s.replaySegment x bad r.y r.seg).toOption = some vals) →
       NextWith (exec (.rhoRebuildDone bad) s) fun t =>
         t.winRead r.seq r.y 1 r.seg = some vals ∧
         WindowBut (slotOf r.y) s t ∧
         t.winRead r.seq r.y 0 r.seg = s.winRead r.seq r.y 0 r.seg ∧
         (∀ q ∈ t.shot.rebuilds, q ∈ s.shot.rebuilds ∧ ¬(q.seq = r.seq ∧ q.y = r.y ∧ q.seg = r.seg)) ∧
         t.rd Reg.SHOT_RHO_REBUILD.rebuilt = Nat.min (s.rd Reg.SHOT_RHO_REBUILD.rebuilt + 1) (2 ^ Reg.SHOT_RHO_REBUILD.rebuilt.width - 1) ∧
         RegsBut [Reg.SHOT_RHO_REBUILD.rebuilt] s t ∧
         Frame [.regs, .win, .shot] s t) ∧
    (∀ (r : Rebuild) (x : Stripe) (bad : List BadRead),
       (s.shot.rebuilds.find? (fun q => q.started) = some r) →
       (s.stripe r.seq = some x) →
       ((s.replaySegment x bad r.y r.seg).toOption = none) →
       NextWith (exec (.rhoRebuildDone bad) s) fun t =>
         t.winRead r.seq r.y 1 r.seg = some (List.replicate 256 0) ∧
         WindowBut (slotOf r.y) s t ∧
         t.winRead r.seq r.y 0 r.seg = s.winRead r.seq r.y 0 r.seg ∧
         Tells 0x0506 [w x.d.seq, w r.y, w r.seg] s t ∧
         Frame [.regs, .out, .evt, .sieve, .win, .render, .pec, .shot, .check, .cal] s t) ∧
    (∀ (bank row : Nat) (rest : List (Nat × Nat)),
       (s.win.waiting = (bank, row) :: rest) →
       (tabGet 0 s.win.sparesUsed bank < 8) →
       NextWith (exec (.windowRowRemap) s) fun t =>
         tabGet 0 t.win.sparesUsed bank = tabGet 0 s.win.sparesUsed bank + 1 ∧
         TabBut bank s.win.sparesUsed t.win.sparesUsed ∧
         t.win.waiting = rest ∧
         t.rd Reg.WIN_SPARE_LAST.bank = bank % 2 ^ 9 ∧
         t.rd Reg.WIN_SPARE_LAST.row = row % 2 ^ 10 ∧
         t.rd Reg.WIN_SPARE.used = Nat.min (s.rd Reg.WIN_SPARE.used + 1) (2 ^ 13 - 1) % 2 ^ 13 ∧
         Tells 0x030F [w bank, w row] s t ∧
         Frame [.regs, .out, .evt, .sieve, .win, .render, .shot, .check] s t) ∧
    (∀ (bank row : Nat) (rest : List (Nat × Nat)),
       (s.win.waiting = (bank, row) :: rest) →
       (8 ≤ tabGet 0 s.win.sparesUsed bank) →
       NextWith (exec (.windowRowRemap) s) fun t =>
         t.win = { s.win with waiting := rest } ∧
         t.rd Reg.WIN_SPARE.exhausted = 1 ∧
         Raises [(0x0310, [w bank])] s t ∧
         RegsBut (Reg.WIN_SPARE.exhausted :: eventRegs) s t ∧
         Frame [.regs, .out, .evt, .win] s t)

/-- R199, R200: a lane whose line is free replays the units due of its oldest open tick that still fit, with one RPL that
names them, and counts them; when none fits its candidates are refused and nothing is sent. No ACK by the limit makes every
unit not acknowledged a candidate, with event 0x0422. -/
def Obligations.ReplaysFillTheWait : Prop :=
  ∀ (s : State) (t : Nat),
    (∀ (bad : List Nat) (r : ReplayTick) (e : TickEntry),
       (s.laneSt t = lnActive) →
       (s.runOn t = false) →
       ((s.lane t).replay.find? (fun q => q.cand ≠ 0 && s.tickOpen q.n) = some r) →
       (s.shot.tlog.find? (fun q => q.n = r.n) = some e) →
       (s.replayUnits e r t bad ≠ []) →
       NextWith (exec (.replayLaunch t bad) s) fun u =>
         Sends (.lane t (s.runStart t) (rplSet r.n (((s.replayUnits e r t bad).filter (fun k => k ≠ 16)).foldl withBit 0) ((s.replayUnits e r t bad).contains 16))) s u ∧
         Counted (Reg.LANE_NAKS.replays t) ((s.replayUnits e r t bad).length) s u ∧
         (u.replayOf t r.n).map (fun q => q.cand) = some 0 ∧
         (bad = [] → RegsBut [Reg.LANE_NAKS.replays t] s u) ∧
         LanesBut t s u ∧
         Frame [.regs, .out, .evt, .sieve, .check, .lanes, .tx] s u) ∧
    (∀ (bad : List Nat) (r : ReplayTick) (e : TickEntry),
       (s.laneSt t = lnActive) →
       (s.runOn t = false) →
       ((s.lane t).replay.find? (fun q => q.cand ≠ 0 && s.tickOpen q.n) = some r) →
       (s.shot.tlog.find? (fun q => q.n = r.n) = some e) →
       (s.replayUnits e r t bad = []) →
       NextWith (exec (.replayLaunch t bad) s) fun u =>
         u.replayOf t r.n = some { r with cand := 0, refused := r.refused ||| (candidates r).foldl withBit 0 } ∧
         u.out.countP (fun o => match o with | .lane _ _ _ => true | _ => false) = s.out.countP (fun o => match o with | .lane _ _ _ => true | _ => false) ∧
         (bad = [] → u.regs = s.regs ∧ u.out = s.out) ∧
         LanesBut t s u ∧
         Frame [.regs, .out, .evt, .sieve, .check, .lanes] s u) ∧
    (∀ (n seq : Nat) (r : ReplayTick),
       (t < lanesOf s.variant) →
       (s.replayOf t n = some r) →
       (r.acks = false) →
       (s.tickOpen n = true) →
       (r.frameEnd - (s.lane t).dfwd + 200000 + (s.lane t).loop + 1000 * s.rd Reg.LANE_PROTO_CTRL.ack_slack_ns ≤ s.ps) →
       ((s.shot.tlog.find? (fun q => q.n = n)).map (fun q => q.seq) = some seq) →
       (∀ x, s.stripe seq = some x → x.told.contains (0x100000 + 0x0422 * 64 + t) = false) →
       NextWith (exec (.ackTimeout t n) s) fun u =>
         (u.replayOf t n).map (fun q => (q.acks, q.cand, q.acked)) = some (true, r.cand ||| (0x1FFFF ^^^ r.acked), r.acked) ∧
         Counted (Reg.LANE_PROTO_ERR.ack_timeouts t) (1) s u ∧
         Raises [(0x0422, [w seq, w t, wd n])] s u ∧
         RegsBut (Reg.LANE_PROTO_ERR.ack_timeouts t :: eventRegs) s u ∧
         LanesBut t s u ∧
         Frame [.regs, .out, .evt, .sieve, .lanes] s u)

/-- R194, R199, R202: a message whose check fails is discarded and counted. An ACK of a tick whose TICK has not been sent
settles its 17 units, the header as unit 16: a good one is acknowledged and a bad one becomes a candidate for replay, unless
the ACK came too early to cover the unit's latest replay. A NAK is counted and makes one unit a candidate. A CREDIT sets what
is available: the lane's credits less those still in flight. -/
def Obligations.AcknowledgementsAndCredits : Prop :=
  ∀ (s : State) (t : Nat) (b : Bytes),
    ((s.hears t = true) →
     (setGood b = false) →
     (∀ x, s.stripe s.seqNow = some x → x.told.contains (0x100000 + 0x0427 * 64 + t) = false) →
     NextWith (exec (.ackReceive t b) s) fun u =>
       Counted (Reg.LANE_PROTO_ERR.msg_crc t) (1) s u ∧
       Raises [(0x0427, [w s.seqNow, w t])] s u ∧
       RegsBut (Reg.LANE_PROTO_ERR.msg_crc t :: eventRegs) s u ∧
       Frame [.regs, .out, .evt, .sieve, .tx] s u) ∧
    (∀ (r : ReplayTick),
       (HeardMsg s t 0x81 b) →
       (s.tickOpen (beAt b 1 5) = true) →
       (s.replayOf t (beAt b 1 5) = some r) →
       NextWith (exec (.ackReceive t b) s) fun u =>
         (∀ j ∈ List.range 17, s.tooEarly t r j = false → (u.replayOf t (beAt b 1 5)).map (fun q => (q.acks, q.acked.testBit j, q.cand.testBit j)) = some (true, (if j < 16 then (beAt b 6 2).testBit j else (byteAt b 8).testBit 0) || r.acked.testBit j, !(if j < 16 then (beAt b 6 2).testBit j else (byteAt b 8).testBit 0))) ∧
         LanesBut t s u ∧
         Frame [.lanes, .tx] s u) ∧
    (∀ (r : ReplayTick),
       (HeardMsg s t 0x82 b) →
       (s.tickOpen (beAt b 1 5) = true) →
       (byteAt b 6 % 32 ≤ 16) →
       (s.replayOf t (beAt b 1 5) = some r) →
       (s.tooEarly t r (byteAt b 6 % 32) = false) →
       NextWith (exec (.nakReceive t b) s) fun u =>
         u.replayOf t (beAt b 1 5) = some { r with cand := withBit r.cand (byteAt b 6 % 32) } ∧
         Counted (Reg.LANE_NAKS.naks t) (1) s u ∧
         RegsBut [Reg.LANE_NAKS.naks t] s u ∧
         LanesBut t s u ∧
         Frame [.regs, .lanes, .tx] s u) ∧
    ((HeardMsg s t 0x83 b) →
     (s.laneSt t = lnActive) →
     NextWith (exec (.creditReceive t b) s) fun u =>
       u.rd (Reg.LANE_CREDIT.cum_rx t) = beAt b 1 2 % 2 ^ (Reg.LANE_CREDIT.cum_rx t).width ∧
       u.rd (Reg.LANE_CREDIT.avail t) = (s.rd (Reg.LANE_RX_CAPS0.credits t) - serialDiff 16 (beAt b 1 2) (s.lane t).spent) % 2 ^ (Reg.LANE_CREDIT.avail t).width ∧
       RegsBut [Reg.LANE_CREDIT.cum_rx t, Reg.LANE_CREDIT.avail t] s u ∧
       Frame [.regs, .tx] s u)

/-- R196, R197: a STATUS is kept, its tick number is shown, and with its flag 5 it resolves nothing; a STATUS of a tick
launched and sent on the lane resolves the tick there, with event 0x0425 when its TICK was missed. -/
def Obligations.StatusResolvesTicks : Prop :=
  ∀ (s : State) (t : Nat) (b : Bytes),
    (HeardMsg s t 0x84 b) →
    (∀ (bad : List BadRead),
       ((byteAt b 12).testBit 5 = true) →
       ((byteAt b 12).testBit 3 = false) →
       ((byteAt b 12).testBit 6 = false) →
       NextWith (exec (.statusReceive t b bad) s) fun u =>
         u.lane t = { s.lane t with lastStatus := some (beAt b 1 5, beAt b 6 2, beAt b 8 2, beAt b 10 2, byteAt b 12) } ∧
         u.rd (Reg.LANE_LAST_STATUS.tick_lo t) = beAt b 1 5 % 2 ^ 32 ∧
         RegsBut [Reg.LANE_LAST_STATUS.tick_lo t] s u ∧
         LanesBut t s u ∧
         Frame [.regs, .lanes, .tx] s u) ∧
    (∀ (bad : List BadRead) (e : TickEntry),
       (byteAt b 12 < 2) →
       (s.shot.tlog.find? (fun q => q.n = beAt b 1 5) = some e) →
       (e.launched = true) →
       (e.sent.testBit t = true) →
       (e.resolved.testBit t = false) →
       (∀ q ∈ s.shot.tlog, q.n + 1 ≠ beAt b 1 5 ∧ q.n + 2 ≠ beAt b 1 5) →
       (∀ x, s.stripe e.seq = some x → x.told.contains (0x100000 + 0x0425 * 64 + t) = false) →
       NextWith (exec (.statusReceive t b bad) s) fun u =>
         ∃ e2 ∈ u.shot.tlog, e2.n = e.n ∧ e2.resolved.testBit t = true ∧
         u.rd (Reg.LANE_LAST_STATUS.tick_lo t) = beAt b 1 5 % 2 ^ 32 ∧
         u.replayOf t e.n = none ∧
         ((byteAt b 12).testBit 0 = true → Tells 0x0425 [w e.seq, w t, wd e.n] s u) ∧
         LanesBut t s u ∧
         Frame [.regs, .out, .evt, .sieve, .win, .render, .pec, .shot, .check, .cal, .lanes, .tx, .pair] s u)

/-- R219, R220, R222, Table 8.2: a fitted lane that is enabled while its module holds the lanes goes from DISABLED to DETECT;
FAILED lanes go there on a restart. Every 1,000 µs DETECT probes for a load; two loads in a row start training from the
preset. A TRN_STAT that says trained, with block lock, moves TRAIN to LOCK and one that says locked moves LOCK to CAPS, with a
CONFIG. An attempt that times out is counted with its reason, event 0x0402, and idles 100 µs before DETECT; the last one fails
the lane, event 0x0403. -/
def Obligations.LanesAreFoundAndTrained : Prop :=
  ∀ (s : State) (t : Nat),
    (s.fitted t = true) →
    ((s.holdsLanes = true) →
     (s.laneSt t = lnDisabled) →
     NextWith (exec (.laneEnableWrite t true) s) fun u =>
       u.laneSt t = lnDetect ∧
       u.rd (Reg.LANE_CTRL.enable t) = 1 ∧
       u.lane t = { s.lane t with hits := 0, since := s.now, lastSend := s.now, hold := none, blockLock := false } ∧
       RegsBut [Reg.LANE_CTRL.enable t, Reg.LANE_STATE.state t] s u ∧
       LanesBut t s u ∧
       Frame [.regs, .lanes, .tx] s u) ∧
    ((s.laneSt t ≠ lnActive) →
     NextWith (exec (.laneEnableWrite t false) s) fun u =>
       u.laneSt t = lnDisabled ∧
       u.rd (Reg.LANE_CTRL.enable t) = 0 ∧
       u.rd (Reg.LANE_TEST.running t) = 0 ∧
       (u.lane t).test = none ∧
       RegsBut [Reg.LANE_CTRL.enable t, Reg.LANE_TEST.running t, Reg.LANE_STATE.state t] s u ∧
       LanesBut t s u ∧
       Frame [.regs, .lanes, .tx] s u) ∧
    ((s.laneSt t = lnFailed) →
     NextWith (exec (.laneRestart t true) s) fun u =>
       u.laneSt t = lnDetect ∧
       u.rd (Reg.LANE_STATE.attempts t) = 0 ∧
       RegsBut [Reg.LANE_STATE.attempts t, Reg.LANE_STATE.state t] s u ∧
       LanesBut t s u ∧
       Frame [.regs, .lanes, .tx] s u) ∧
    (∀ (load : Bool),
       (s.laneSt t = lnDetect) →
       ((s.lane t).hold = none) →
       ((s.lane t).lastSend + 1000000 ≤ s.now) →
       (load = false ∨ (s.lane t).hits = 0) →
       NextWith (exec (.receiverDetectProbe t load) s) fun u =>
         (u.lane t = { s.lane t with lastSend := s.now, hits := if load then 1 else 0 }) ∧
         LanesBut t s u ∧
         Frame [.lanes] s u) ∧
    ((s.laneSt t = lnDetect) →
     ((s.lane t).hold = none) →
     ((s.lane t).lastSend + 1000000 ≤ s.now) →
     (0 < (s.lane t).hits) →
     NextWith (exec (.receiverDetectProbe t true) s) fun u =>
       u.laneSt t = lnTrain ∧
       (u.lane t).since = s.now ∧
       (u.rd (Reg.LANE_FFE.pre2 t), u.rd (Reg.LANE_FFE.pre1 t), u.rd (Reg.LANE_FFE.post1 t), u.rd (Reg.LANE_FFE.post2 t)) = presetTaps (s.rd Reg.LANE_BRINGUP.preset) ∧
       RegsBut [Reg.LANE_FFE.pre2 t, Reg.LANE_FFE.pre1 t, Reg.LANE_FFE.post1 t, Reg.LANE_FFE.post2 t, Reg.LANE_STATE.state t] s u ∧
       LanesBut t s u ∧
       Frame [.regs, .lanes, .tx] s u) ∧
    (∀ (b : Bytes) (lock : Bool),
       (HeardMsg s t 0x89 b) →
       (s.laneSt t = lnTrain) →
       ((s.lane t).lastReq = some (byteAt b 2)) →
       NextWith (exec (.trnStatReceive t b lock) s) fun u =>
         (u.laneSt t = if (byteAt b 1).testBit 0 && lock then lnLock else lnTrain) ∧
         (u.lane t).blockLock = lock ∧
         RegsBut [Reg.LANE_STATE.state t] s u ∧
         LanesBut t s u ∧
         Frame [.regs, .lanes, .tx] s u) ∧
    (∀ (b : Bytes),
       (HeardMsg s t 0x89 b) →
       (s.laneSt t = lnLock) →
       ((byteAt b 1).testBit 1 = true) →
       NextWith (exec (.trnStatReceive t b true) s) fun u =>
         u.laneSt t = lnCaps ∧
         (u.lane t).sends = 1 ∧
         (u.lane t).guardNs = s.rd Reg.LANE_GUARD.guard_ns ∧
         Sends (.lane t (s.ps + (s.lane t).dfwd) (configSet t s.variant (s.rd Reg.LANE_GUARD.guard_ns) (s.rd Reg.GLOBAL_REV.fw_rev))) s u ∧
         RegsBut [Reg.LANE_STATE.state t] s u ∧
         LanesBut t s u ∧
         Frame [.regs, .out, .lanes, .tx] s u) ∧
    (∀ (reason : Nat),
       (s.laneSt t = lnTrain ∧ reason = 1 ∧ (s.lane t).since + 2000000 ≤ s.now ∨ s.laneSt t = lnLock ∧ reason = 2 ∧ (s.lane t).since + 100000 ≤ s.now) →
       (s.rd (Reg.LANE_STATE.attempts t) < 15) →
       NextWith (exec (.bringupTimeout t) s) fun u =>
         u.rd (Reg.LANE_STATE.attempts t) = s.rd (Reg.LANE_STATE.attempts t) + 1 ∧
         u.rd (Reg.LANE_STATE.last_fail t) = reason ∧
         Tells 0x0402 [w t, w reason] s u ∧
         (s.rd (Reg.LANE_STATE.attempts t) + 1 < s.rd Reg.LANE_BRINGUP.retries → u.laneSt t = lnDetect ∧ (u.lane t).hold = some (s.now + 100000)) ∧
         (s.rd Reg.LANE_BRINGUP.retries ≤ s.rd (Reg.LANE_STATE.attempts t) + 1 → u.laneSt t = lnFailed ∧ Tells 0x0403 [w t, w reason] s u) ∧
         RegsBut ([Reg.LANE_STATE.state t, Reg.LANE_STATE.attempts t, Reg.LANE_STATE.last_fail t] ++ eventRegs) s u ∧
         LanesBut t s u ∧
         Frame [.regs, .out, .evt, .lanes, .tx] s u) ∧
    (∀ (due : Nat),
       ((s.lane t).hold = some due) →
       (due ≤ s.now) →
       NextWith (exec (.electricalIdleHoldEnd t) s) fun u =>
         u.laneSt t = lnDetect ∧
         u.lane t = { s.lane t with hits := 0, since := s.now, lastSend := s.now, hold := none, blockLock := false } ∧
         RegsBut [Reg.LANE_STATE.state t] s u ∧
         LanesBut t s u ∧
         Frame [.regs, .lanes, .tx] s u) ∧
    ((s.rd Reg.RCU_PHASE.phase = 6) →
     (s.power.phaseAt + 2000000000 ≤ s.now) →
     (s.laneSt t = lnDetect) →
     ((s.lane t).p6Told = false) →
     NextWith (exec (.p6DetectLimit t) s) fun u =>
       Raises [(0x0401, [w t])] s u ∧
       u.lane t = { s.lane t with p6Told := true } ∧
       RegsBut eventRegs s u ∧
       LanesBut t s u ∧
       Frame [.regs, .out, .evt, .lanes, .tx] s u)

/-- R207, R209: in CAPS the CONFIG is sent again each 2 µs, up to 8 sends. A CAPS whose fields are within their limits is
shown and starts the latency measurement; one outside them fails the lane with reason 4 and event 0x0428. Eight LAT_PROBEs are
sent 10 µs apart, and each answer gives a round trip and a loop flight; the eighth answer is judged: when the loop flights
spread over at most 500 ps and half their median with the skew is at most 250 ns, that is the lane's forward flight, shown in
LANE_LATENCY, and the lane enters ACTIVE with the credits of its CAPS and a STATUS_REQ; otherwise it fails with reason 5 and
event 0x0429. -/
def Obligations.LanesAreConfiguredAndMeasured : Prop :=
  ∀ (s : State) (t : Nat),
    (s.fitted t = true) →
    ((s.laneSt t = lnCaps) →
     ((s.lane t).sends < 8) →
     ((s.lane t).lastSend + 2000 ≤ s.now) →
     NextWith (exec (.configResend t) s) fun u =>
       Sends (.lane t (s.ps + (s.lane t).dfwd) (configSet t s.variant (s.rd Reg.LANE_GUARD.guard_ns) (s.rd Reg.GLOBAL_REV.fw_rev))) s u ∧
       u.lane t = { s.lane t with sends := (s.lane t).sends + 1, lastSend := s.now, guardNs := s.rd Reg.LANE_GUARD.guard_ns, replay := (u.lane t).replay } ∧
       LanesBut t s u ∧
       Frame [.out, .lanes, .tx] s u) ∧
    (∀ (b : Bytes),
       (HeardMsg s t 0x86 b) →
       (s.laneSt t = lnCaps) →
       (capsRefusal b = 0) →
       NextWith (exec (.capsReceive t b) s) fun u =>
         u.laneSt t = lnLatency ∧
         u.lane t = { s.lane t with probes := [], flights := [], since := s.now, farLoop := (byteAt b 13).testBit 0 } ∧
         u.rd (Reg.LANE_RX_CAPS0.rx_type t) = beAt b 1 2 % 2 ^ 16 ∧
         u.rd (Reg.LANE_RX_CAPS0.credits t) = beAt b 3 2 % 2 ^ 16 ∧
         u.rd (Reg.LANE_RX_APPLY.apply_ps t) = beAt b 11 2 % 2 ^ (Reg.LANE_RX_APPLY.apply_ps t).width ∧
         RegsBut [Reg.LANE_RX_CAPS0.rx_type t, Reg.LANE_RX_CAPS0.credits t, Reg.LANE_RX_TICKS.tick_min t, Reg.LANE_RX_TICKS.tick_max t, Reg.LANE_RX_CAPS1.fw_rev t, Reg.LANE_RX_APPLY.apply_ps t, Reg.LANE_RX_CAPS1.monitor t, Reg.LANE_RX_CAPS1.far_loop t, Reg.LANE_STATE.state t] s u ∧
         LanesBut t s u ∧
         Frame [.regs, .lanes, .tx] s u) ∧
    (∀ (b : Bytes),
       (HeardMsg s t 0x86 b) →
       (s.laneSt t = lnCaps) →
       (capsRefusal b ≠ 0) →
       NextWith (exec (.capsReceive t b) s) fun u =>
         u.laneSt t = lnFailed ∧
         u.rd (Reg.LANE_STATE.last_fail t) = 4 ∧
         Raises [(0x0428, [w t, w (capsRefusal b)]), (0x0403, [w t, w 4])] s u ∧
         RegsBut ([Reg.LANE_STATE.state t, Reg.LANE_STATE.last_fail t, Reg.LANE_RX_CAPS0.rx_type t, Reg.LANE_RX_CAPS0.credits t, Reg.LANE_RX_TICKS.tick_min t, Reg.LANE_RX_TICKS.tick_max t, Reg.LANE_RX_CAPS1.fw_rev t, Reg.LANE_RX_APPLY.apply_ps t, Reg.LANE_RX_CAPS1.monitor t, Reg.LANE_RX_CAPS1.far_loop t] ++ eventRegs) s u ∧
         Frame [.regs, .out, .evt, .tx] s u) ∧
    ((s.laneSt t = lnLatency) →
     ((s.lane t).probes.length < 8) →
     ((s.lane t).probes = [] ∨ (s.lane t).since + 10000 * (s.lane t).probes.length ≤ s.now) →
     NextWith (exec (.latProbeSend t) s) fun u =>
       Sends (.lane t (s.ps + (s.lane t).dfwd) (latProbeSet (s.lane t).probes.length)) s u ∧
       (u.lane t).probes = (s.lane t).probes ++ [((s.lane t).probes.length, s.ps + blkPs 1)] ∧
       LanesBut t s u ∧
       Frame [.out, .lanes, .tx] s u) ∧
    (∀ (b : Bytes) (sub p sent : Nat) (fl : List (Nat × Nat)),
       (HeardMsg s t 0x87 b) →
       (s.laneSt t = lnLatency) →
       (s.now ≤ (s.lane t).since + 100000) →
       ((s.lane t).probes.find? (fun q => q.1 = byteAt b 1) = some (p, sent)) →
       (fl = (s.lane t).flights ++ [(s.ps + sub - sent, s.ps + sub - sent - beAt b 2 4)]) →
       ((s.lane t).flights.length < 7) →
       NextWith (exec (.latencyReceive t b sub) s) fun u =>
         u.lane t = { s.lane t with flights := fl, probes := (s.lane t).probes.map (fun q => if q.1 = p then (256 + q.1, q.2) else q) } ∧
         LanesBut t s u ∧
         Frame [.lanes, .tx] s u) ∧
    (∀ (b : Bytes) (sub p sent : Nat) (fl : List (Nat × Nat)),
       (HeardMsg s t 0x87 b) →
       (s.laneSt t = lnLatency) →
       (s.now ≤ (s.lane t).since + 100000) →
       ((s.lane t).probes.find? (fun q => q.1 = byteAt b 1) = some (p, sent)) →
       (fl = (s.lane t).flights ++ [(s.ps + sub - sent, s.ps + sub - sent - beAt b 2 4)]) →
       ((s.lane t).flights.length = 7) →
       ((sortNat (fl.map (fun q => q.2))).getLastD 0 ≤ (sortNat (fl.map (fun q => q.2))).headD 0 + 500) →
       (((median (fl.map (fun q => q.2)) / 2 : Nat) + signedOf 16 (s.rd (Reg.LANE_SKEW.skew_ps t))) ≤ 250000) →
       NextWith (exec (.latencyReceive t b sub) s) fun u =>
         u.laneSt t = lnActive ∧
         (u.lane t).flights = fl ∧
         (u.lane t).loop = median (fl.map (fun q => q.2)) ∧
         (u.lane t).dfwd = ((median (fl.map (fun q => q.2)) / 2 : Nat) + signedOf 16 (s.rd (Reg.LANE_SKEW.skew_ps t))).toNat ∧
         (u.lane t).spent = 0 ∧
         u.rd (Reg.LANE_LATENCY.rtt_ns t) = Nat.min 65535 (median (fl.map (fun q => q.1)) / 1000) ∧
         u.rd (Reg.LANE_LATENCY.fwd t) = Nat.min 65535 (((median (fl.map (fun q => q.2)) / 2 : Nat) + signedOf 16 (s.rd (Reg.LANE_SKEW.skew_ps t))).toNat * 64 / 1000) ∧
         u.rd (Reg.LANE_CREDIT.avail t) = s.rd (Reg.LANE_RX_CAPS0.credits t) % 2 ^ (Reg.LANE_CREDIT.avail t).width ∧
         u.rd (Reg.LANE_STATE.attempts t) = 0 ∧
         RegsBut [Reg.LANE_LATENCY.rtt_ns t, Reg.LANE_LATENCY.fwd t, Reg.LANE_STATE.attempts t, Reg.LANE_STATE.frozen t, Reg.LANE_STATE.retrain_pending t, Reg.LANE_CREDIT.cum_rx t, Reg.LANE_CREDIT.avail t, Reg.LANE_STATE.state t] s u ∧
         Sends (.lane t (u.ps + (u.lane t).dfwd) statusReqSet) s u ∧
         LanesBut t s u ∧
         Frame [.regs, .out, .lanes, .tx] s u) ∧
    (∀ (b : Bytes) (sub p sent : Nat) (fl : List (Nat × Nat)),
       (HeardMsg s t 0x87 b) →
       (s.laneSt t = lnLatency) →
       (s.now ≤ (s.lane t).since + 100000) →
       ((s.lane t).probes.find? (fun q => q.1 = byteAt b 1) = some (p, sent)) →
       (fl = (s.lane t).flights ++ [(s.ps + sub - sent, s.ps + sub - sent - beAt b 2 4)]) →
       ((s.lane t).flights.length = 7) →
       ((sortNat (fl.map (fun q => q.2))).headD 0 + 500 < (sortNat (fl.map (fun q => q.2))).getLastD 0 ∨ 250000 < ((median (fl.map (fun q => q.2)) / 2 : Nat) + signedOf 16 (s.rd (Reg.LANE_SKEW.skew_ps t)))) →
       NextWith (exec (.latencyReceive t b sub) s) fun u =>
         u.laneSt t = lnFailed ∧
         u.rd (Reg.LANE_STATE.last_fail t) = 5 ∧
         Raises [(0x0429, [w t, w (Nat.min 65535 (((median (fl.map (fun q => q.2)) / 2 : Nat) + signedOf 16 (s.rd (Reg.LANE_SKEW.skew_ps t))).toNat * 64 / 1000))]), (0x0403, [w t, w 5])] s u ∧
         RegsBut ([Reg.LANE_STATE.state t, Reg.LANE_STATE.last_fail t] ++ eventRegs) s u ∧
         LanesBut t s u ∧
         Frame [.regs, .out, .evt, .lanes, .tx] s u)

/-- R226, R228, R229, R231, R232: an ACTIVE lane that loses signal or lock leaves ACTIVE, with event 0x0404, and idles 10 µs.
Every 64 µs it is sent an ADAPT_CHECK and its back-channel margin is noted; the MARGIN that answers it is noted too. A
retraining asked for starts at once when the job is quiet, with TRAIN_START, and waits otherwise. A block of neither header is
counted; one of an unknown type is counted and remembered. -/
def Obligations.ActiveLanesAreWatched : Prop :=
  ∀ (s : State) (t : Nat),
    (s.fitted t = true) →
    (∀ (lock : Bool),
       (s.laneSt t = lnActive) →
       (s.shot.tlog = []) →
       NextWith (exec (.laneLost t lock) s) fun u =>
         u.laneSt t = lnDetect ∧
         (u.rd (Reg.LANE_STATE.last_fail t) = if lock then 7 else 6) ∧
         (u.lane t).hold = some (s.now + 10000) ∧
         (u.lane t).replay = [] ∧
         Counted (Reg.LANE_STATE.downs t) (1) s u ∧
         Raises [(0x0404, [w s.seqNow, w t, wd s.lastTick, w (if lock then 7 else 6)])] s u ∧
         RegsBut ([Reg.LANE_STATE.state t, Reg.LANE_STATE.last_fail t, Reg.LANE_STATE.downs t] ++ eventRegs) s u ∧
         LanesBut t s u ∧
         Frame [.regs, .out, .evt, .lanes, .tx] s u) ∧
    (∀ (lock : Bool),
       (s.laneSt t ≠ lnActive) →
       NextWith (exec (.laneLost t lock) s) fun u =>
         u.lane t = { s.lane t with blockLock := false } ∧
         LanesBut t s u ∧
         Frame [.lanes] s u) ∧
    (∀ (own : Nat),
       (s.laneSt t = lnActive) →
       ((s.lane t).lastCheck + 63000 ≤ s.now) →
       ((s.lane t).answered = true) →
       (s.rd Reg.LANE_ADAPT.margin_min ≤ own) →
       NextWith (exec (.adaptCheckSend t own) s) fun u =>
         Sends (.lane t (s.ps + (s.lane t).dfwd) (adaptCheckSet (((s.lane t).checkNo + 1) % 65536) (s.rd (Reg.LANE_STATE.frozen t) = 1))) s u ∧
         u.lane t = { s.lane t with checkNo := ((s.lane t).checkNo + 1) % 65536, lastCheck := s.now, answered := false, replay := (u.lane t).replay } ∧
         u.rd (Reg.LANE_MARGIN.back_last t) = own % 2 ^ 8 ∧
         u.rd (Reg.LANE_MARGIN.back_min t) = Nat.min own (s.rd (Reg.LANE_MARGIN.back_min t)) % 2 ^ 8 ∧
         RegsBut [Reg.LANE_MARGIN.back_last t, Reg.LANE_MARGIN.back_min t] s u ∧
         LanesBut t s u ∧
         Frame [.regs, .out, .lanes, .tx] s u) ∧
    (∀ (b : Bytes),
       (HeardMsg s t 0x88 b) →
       (s.laneSt t = lnActive) →
       ((s.lane t).answered = false) →
       (beAt b 1 2 = (s.lane t).checkNo) →
       (s.rd Reg.LANE_ADAPT.margin_min ≤ byteAt b 3) →
       NextWith (exec (.marginReceive t b) s) fun u =>
         u.lane t = { s.lane t with answered := true, misses := 0 } ∧
         u.rd (Reg.LANE_MARGIN.fwd_last t) = byteAt b 3 ∧
         u.rd (Reg.LANE_MARGIN.fwd_min t) = Nat.min (byteAt b 3) (s.rd (Reg.LANE_MARGIN.fwd_min t)) ∧
         RegsBut [Reg.LANE_MARGIN.fwd_last t, Reg.LANE_MARGIN.fwd_min t] s u ∧
         LanesBut t s u ∧
         Frame [.regs, .lanes, .tx] s u) ∧
    (∀ (b : Bytes),
       (HeardMsg s t 0x88 b) →
       (s.laneSt t = lnActive) →
       ((s.lane t).answered = false) →
       (beAt b 1 2 = (s.lane t).checkNo) →
       (byteAt b 3 < s.rd Reg.LANE_ADAPT.margin_min) →
       ((s.lane t).lowSeen = false) →
       (s.jobQuiet = false) →
       NextWith (exec (.marginReceive t b) s) fun u =>
         u.rd (Reg.LANE_STATE.frozen t) = 1 ∧
         u.rd (Reg.LANE_STATE.retrain_pending t) = 1 ∧
         u.laneSt t = lnActive ∧
         Raises [(0x0405, [w s.seqNow, w t, w (byteAt b 3), w (s.rd (Reg.LANE_MARGIN.back_last t))])] s u ∧
         LanesBut t s u ∧
         Frame [.regs, .out, .evt, .lanes, .tx] s u) ∧
    ((s.laneSt t = lnActive) →
     (s.jobQuiet = false) →
     NextWith (exec (.laneRetrainRequest t true) s) fun u =>
       u.rd (Reg.LANE_STATE.retrain_pending t) = 1 ∧
       RegsBut [Reg.LANE_STATE.retrain_pending t] s u ∧
       Frame [.regs] s u) ∧
    ((s.laneSt t = lnActive) →
     (s.jobQuiet = true) →
     (s.shot.tlog = []) →
     NextWith (exec (.laneRetrainRequest t true) s) fun u =>
       u.laneSt t = lnTrain ∧
       u.rd (Reg.LANE_STATE.retrain_pending t) = 1 ∧
       Sends (.lane t (s.ps + (s.lane t).dfwd) (trainStartSet 2)) s u ∧
       RegsBut [Reg.LANE_STATE.retrain_pending t, Reg.LANE_STATE.state t] s u ∧
       LanesBut t s u ∧
       Frame [.regs, .out, .lanes, .tx] s u) ∧
    (∀ (hdr : Nat) (b : Bytes),
       (s.hears t = true) →
       (hdr ≠ 1) →
       (hdr ≠ 2) →
       (((false :: (s.txLine t).heads).take 64).countP (fun v => !v) < 16) →
       NextWith (exec (.unknownBackChannelBlock t hdr b) s) fun u =>
         Counted (Reg.LANE_PROTO_ERR.msg_crc t) (1) s u ∧
         (u.txLine t).heads = (false :: (s.txLine t).heads).take 64 ∧
         RegsBut [Reg.LANE_PROTO_ERR.msg_crc t] s u ∧
         Frame [.regs, .tx] s u) ∧
    (∀ (b : Bytes),
       (s.hears t = true) →
       (setGood b = true) →
       (byteAt b 0 < 0x81 ∨ 0x8A < byteAt b 0) →
       ((s.lane t).unknown = []) →
       NextWith (exec (.unknownBackChannelBlock t 2 b) s) fun u =>
         Counted (Reg.LANE_PROTO_ERR.msg_crc t) (1) s u ∧
         u.lane t = { s.lane t with unknown := [s.now] } ∧
         RegsBut [Reg.LANE_PROTO_ERR.msg_crc t] s u ∧
         LanesBut t s u ∧
         Frame [.regs, .lanes, .tx] s u)

/-- R227, R234 to R237: LANE_CTRL.lane_test takes a lane out of service. A test that ends returns the lane by its path; for a
test of the DK1's own checker, and for a TEST_RESULT, the errors (saturating) and the bits (48 of them) are latched and event
0x0409 tells the errors. An injection inverts bits of a running pattern from the next symbol on (1, or burst_len), those on
the pair where the DK1 sends the pattern; block frames are corrupted in lane test only, event 0x0408 otherwise. -/
def Obligations.LaneTestsAreCounted : Prop :=
  ∀ (s : State) (t : Nat),
    (t < 64) →
    (∀ (v : Bool),
       (s.fitted t = true) →
       NextWith (exec (.laneTestWrite t v) s) fun u =>
         u.rd (Reg.LANE_CTRL.lane_test t) = b2n v ∧
         RegsBut [Reg.LANE_CTRL.lane_test t] s u ∧
         Frame [.regs] s u) ∧
    (∀ (rx : List Bool) (x : LaneTest),
       ((s.lane t).test = some x) →
       (s.rd (Reg.LANE_TEST.running t) = 1) →
       (x.endsAt ≤ s.now) →
       (x.clipped = false ∨ x.leftUs = 0) →
       (s.opOfKind kindBer = none) →
       NextWith (exec (.laneTestEnd t rx) s) fun u =>
         (3 ≤ x.code → u.rd (Reg.LANE_TEST_ERR.errors t) = Nat.min (s.rd (Reg.LANE_TEST_ERR.errors t) + (testChecker x rx).errors) (2 ^ 32 - 1) ∧ u.rd (Reg.LANE_TEST_BITS_LO.bits_lo t) = (s.rd (Reg.LANE_TEST_BITS_HI.bits_hi t) * 2 ^ 32 + s.rd (Reg.LANE_TEST_BITS_LO.bits_lo t) + (testChecker x rx).bits) % 2 ^ 32 ∧ u.rd (Reg.LANE_TEST_BITS_HI.bits_hi t) = (s.rd (Reg.LANE_TEST_BITS_HI.bits_hi t) * 2 ^ 32 + s.rd (Reg.LANE_TEST_BITS_LO.bits_lo t) + (testChecker x rx).bits) / 2 ^ 32 % 2 ^ 16 ∧ u.rd (Reg.LANE_TEST.synced t) = b2n ((testChecker x rx).synced)) ∧
         (u.laneSt t = if x.code ≤ 3 then lnLock else if x.code = 4 then lnTrain else lnDetect) ∧
         u.rd (Reg.LANE_TEST.running t) = 0 ∧
         (3 ≤ x.code → (u.lane t).test = none ∧ Raises [(0x0409, [w t, w x.code, w (Nat.min (s.rd (Reg.LANE_TEST_ERR.errors t) + (testChecker x rx).errors) (2 ^ 32 - 1))])] s u) ∧
         (x.code < 3 → (u.lane t).test = some { x with leftUs := 0, endsAt := 0 } ∧ u.evt = s.evt) ∧
         RegsBut ([Reg.LANE_STATE.state t, Reg.LANE_TEST.running t] ++ [Reg.LANE_TEST_ERR.errors t, Reg.LANE_TEST_BITS_LO.bits_lo t, Reg.LANE_TEST_BITS_HI.bits_hi t, Reg.LANE_TEST.synced t] ++ eventRegs) s u ∧
         LanesBut t s u ∧
         Frame [.regs, .out, .evt, .lanes, .tx] s u) ∧
    (∀ (b : Bytes) (x : LaneTest),
       (HeardMsg s t 0x8A b) →
       ((s.lane t).test = some x) →
       (x.code = byteAt b 1) →
       (x.code ≤ 2) →
       (s.rd (Reg.LANE_TEST.running t) ≠ 1) →
       (x.leftUs = 0) →
       NextWith (exec (.testResultReceive t b) s) fun u =>
         u.rd (Reg.LANE_TEST_ERR.errors t) = Nat.min (s.rd (Reg.LANE_TEST_ERR.errors t) + beAt b 3 4) (2 ^ 32 - 1) ∧
         u.rd (Reg.LANE_TEST_BITS_LO.bits_lo t) = (s.rd (Reg.LANE_TEST_BITS_HI.bits_hi t) * 2 ^ 32 + s.rd (Reg.LANE_TEST_BITS_LO.bits_lo t) + beAt b 7 6) % 2 ^ 32 ∧
         u.rd (Reg.LANE_TEST_BITS_HI.bits_hi t) = (s.rd (Reg.LANE_TEST_BITS_HI.bits_hi t) * 2 ^ 32 + s.rd (Reg.LANE_TEST_BITS_LO.bits_lo t) + beAt b 7 6) / 2 ^ 32 % 2 ^ 16 ∧
         u.rd (Reg.LANE_TEST.synced t) = b2n ((byteAt b 2).testBit 0) ∧
         (u.lane t).test = none ∧
         Raises [(0x0409, [w t, w x.code, w (Nat.min (s.rd (Reg.LANE_TEST_ERR.errors t) + beAt b 3 4) (2 ^ 32 - 1))])] s u ∧
         RegsBut ([Reg.LANE_TEST_ERR.errors t, Reg.LANE_TEST_BITS_LO.bits_lo t, Reg.LANE_TEST_BITS_HI.bits_hi t, Reg.LANE_TEST.synced t] ++ eventRegs) s u ∧
         LanesBut t s u ∧
         Frame [.regs, .out, .evt, .lanes, .tx] s u) ∧
    (∀ (x : LaneTest),
       ((s.lane t).test = some x) →
       (s.rd (Reg.LANE_TEST.running t) = 1) →
       (x.code ≠ 3) →
       NextWith (exec (.injectBit t true) s) fun u =>
         u.lane t = { s.lane t with test := some { x with flips := x.flips ++ [(nextSymbol x.from_ s.now, 1)] } } ∧
         (sendsPattern x.code = true → (u.txLine t).carried = .inverted (nextSymbol x.from_ s.now) 1 :: (s.txLine t).carried) ∧
         LanesBut t s u ∧
         Frame [.lanes, .tx] s u) ∧
    (∀ (x : LaneTest),
       ((s.lane t).test = some x) →
       (s.rd (Reg.LANE_TEST.running t) = 1) →
       (x.code ≠ 3) →
       NextWith (exec (.injectBurst t true) s) fun u =>
         u.lane t = { s.lane t with test := some { x with flips := x.flips ++ [(nextSymbol x.from_ s.now, (if s.rd (Reg.LANE_TEST.burst_len t) = 0 then 64 else s.rd (Reg.LANE_TEST.burst_len t)))] } } ∧
         (sendsPattern x.code = true → (u.txLine t).carried = .inverted (nextSymbol x.from_ s.now) (if s.rd (Reg.LANE_TEST.burst_len t) = 0 then 64 else s.rd (Reg.LANE_TEST.burst_len t)) :: (s.txLine t).carried) ∧
         LanesBut t s u ∧
         Frame [.lanes, .tx] s u) ∧
    ((s.rd (Reg.LANE_CTRL.lane_test t) = 1) →
     NextWith (exec (.injectCrc t true) s) fun u =>
       (u.lane t = { s.lane t with corrupt := if s.rd (Reg.LANE_TEST.crc_count t) = 0 then 16 else s.rd (Reg.LANE_TEST.crc_count t) }) ∧
       LanesBut t s u ∧
       Frame [.lanes] s u) ∧
    ((s.rd (Reg.LANE_CTRL.lane_test t) ≠ 1) →
     NextWith (exec (.injectCrc t true) s) fun u =>
       Raises [(0x0408, [w t, w (s.rd (Reg.LANE_TEST.test t))])] s u ∧
       RegsBut eventRegs s u ∧
       Frame [.regs, .out, .evt] s u)

/-- R31, R32, R33, R252, R396, R397, R398: a first_tick that passes its checks is held by its stripe alone; one that fails
them is refused, event 0x0210. At its arm point an admitted stripe that meets every condition is armed: its number of ticks
starts at the job's next tick number and its latch holds the mode in effect and the live trims; otherwise event 0x0A01 says
why it is not armed, and its first_tick is cleared. The dwell of its last tick ends the stripe: the job goes from EXPOSING to
TURNAROUND, or to SUSPENDED or DONE when a suspend or a cancel waits. The reasons of 0x0210 and 0x0A01 are the model's numbers
(log 20). -/
def Obligations.StripesAreTimedArmedAndEnded : Prop :=
  ∀ (s : State),
    (∀ (seq : Nat),
       NextWith (exec (.firstTickWrite seq false) s) fun u =>
         u.rd Reg.TIME_TRIG0_CTRL.seq = seq % 2 ^ Reg.TIME_TRIG0_CTRL.seq.width ∧
         RegsBut [Reg.TIME_TRIG0_CTRL.seq] s u ∧
         Frame [.regs] s u) ∧
    (∀ (seq why : Nat),
       (s.follows = false) →
       (s.firstRefusal seq (s.rd Reg.TIME_TRIG0_NS.ns) ((s.rd Reg.TIME_TRIG0_SEC_HI.sec_hi * 2 ^ 32 + s.rd Reg.TIME_TRIG0_SEC_LO.sec_lo) * giga + s.rd Reg.TIME_TRIG0_NS.ns) = why) →
       (why ≠ 0) →
       NextWith (exec (.firstTickWrite seq true) s) fun u =>
         Raises [(0x0210, [w seq, w why])] s u ∧
         RegsBut (Reg.TIME_TRIG0_CTRL.seq :: eventRegs) s u ∧
         Frame [.regs, .out, .evt] s u) ∧
    (∀ (seq first : Nat) (x : Stripe),
       (s.follows = false) →
       ((s.rd Reg.TIME_TRIG0_SEC_HI.sec_hi * 2 ^ 32 + s.rd Reg.TIME_TRIG0_SEC_LO.sec_lo) * giga + s.rd Reg.TIME_TRIG0_NS.ns = first) →
       (s.firstRefusal seq (s.rd Reg.TIME_TRIG0_NS.ns) first = 0) →
       (s.stripe seq = some x) →
       NextWith (exec (.firstTickWrite seq true) s) fun u =>
         u.stripe seq = some { x with firstTick := some first } ∧
         (∀ y ∈ u.sieve.stripes, y.d.seq ≠ seq → y.firstTick = none) ∧
         u.rd Reg.TIME_TRIG0_CTRL.pending = 1 ∧
         Frame [.regs, .out, .evt, .hkc, .ops, .sieve, .win, .render, .pec, .shot, .check, .trig, .lanes, .tx, .cal, .pair] s u) ∧
    (∀ (x : Stripe) (first : Nat),
       (s.pendingFirst = some (x, first)) →
       (s.stripe x.d.seq = some x) →
       (s.follows = false) →
       (first ≤ s.ns + 3 * x.d.tau) →
       (s.armReason x first = 0) →
       (x.latch = none) →
       NextWith (exec (.armPoint) s) fun u =>
         (u.stripe x.d.seq).map (fun y => (y.st, y.t0, y.nFirst, y.firstTick)) = some (.armed, first, s.job.nextTick, none) ∧
         ((u.stripe x.d.seq).bind (fun y => y.latch)).map (fun l => (l.expose, l.rp, l.nominal, l.trims)) = some (s.effMode, s.rd Reg.SHOT_RESERVE_PASSES.rp, s.rd Reg.SHOT_DOSE_NOMINAL.nominal, s.cal.live) ∧
         u.rd Reg.GLOBAL_MODE_EFF.expose = s.effMode % 2 ^ Reg.GLOBAL_MODE_EFF.expose.width ∧
         u.rd Reg.TIME_TRIG0_CTRL.pending = 0 ∧
         StripesBut x.d.seq s u ∧
         Frame [.regs, .out, .evt, .sieve, .stage, .check, .pair] s u) ∧
    (∀ (x : Stripe) (first why : Nat),
       (s.pendingFirst = some (x, first)) →
       (s.stripe x.d.seq = some x) →
       (s.follows = false) →
       (first ≤ s.ns + 3 * x.d.tau) →
       (s.armReason x first = why) →
       (why ≠ 0) →
       NextWith (exec (.armPoint) s) fun u =>
         u.stripe x.d.seq = some { x with firstTick := none } ∧
         u.rd Reg.TIME_TRIG0_CTRL.pending = 0 ∧
         Tells 0x0A01 [w x.d.seq, w why] s u ∧
         StripesBut x.d.seq s u ∧
         RegsBut (Reg.TIME_TRIG0_CTRL.pending :: mirrorRegs) s u ∧
         Frame [.regs, .out, .evt, .sieve, .pair] s u) ∧
    (∀ (x : Stripe),
       (s.stripeToEnd = some x) →
       (s.stripe x.d.seq = some x) →
       (s.follows = false) →
       (tickTime x (stripeTicks x.d.len) ≤ s.ns) →
       (s.rd Reg.GLOBAL_JOB.end_given = 0) →
       (s.jobSt = jobExposing) →
       NextWith (exec (.stripeEnd) s) fun u =>
         u.trig.dwellEnd = tickTime x (stripeTicks x.d.len) ∧
         u.trig.endedStripe = some x.d.seq ∧
         (s.job.cancelPending = false → s.job.suspendPending = false → u.jobSt = jobTurnaround) ∧
         (s.job.cancelPending = false → s.job.suspendPending = true → u.jobSt = jobSuspended ∧ u.job.suspendPending = false) ∧
         (s.job.cancelPending = true → u.jobSt = jobDone ∧ u.rd Reg.GLOBAL_JOB.cancelled = 1) ∧
         Frame [.regs, .out, .evt, .hkc, .ops, .job, .sieve, .win, .render, .pec, .shot, .trig, .dram, .pair, .cal, .check, .lanes, .tx, .power] s u)

/-- R231: in the turnaround whose slot is due, every lane scheduled for retraining leaves for TRAIN with TRAIN_START. 2,500 µs
into the turnaround the slot is over: a lane of the slot that is not back is lost with reason 9, with event 0x0407. -/
def Obligations.RetrainingHasItsSlot : Prop :=
  ∀ (s : State),
    ((s.trig.slot = 1) →
     (s.jobSt = jobTurnaround) →
     (s.trig.dwellEnd ≤ s.ns) →
     NextWith (exec (.retrainingSlotStart) s) fun u =>
       u.trig = { s.trig with slot := 2 } ∧
       (∀ t ∈ s.lanesWhere s.retrainDue, u.laneSt t = lnTrain ∧ (u.lane t).slot = true ∧ Sends (.lane t (s.ps + (s.lane t).dfwd) (trainStartSet 1)) s u) ∧
       (∀ t ∈ List.range 64, t ∉ s.lanesWhere s.retrainDue → u.laneSt t = s.laneSt t ∧ u.lane t = s.lane t) ∧
       Frame [.regs, .out, .evt, .sieve, .win, .render, .pec, .shot, .check, .cal, .pair, .trig, .lanes, .tx] s u) ∧
    ((s.trig.slot = 2) →
     (s.trig.dwellEnd + 2500000 ≤ s.ns) →
     NextWith (exec (.retrainingSlotEnd) s) fun u =>
       u.trig = { s.trig with slot := 3 } ∧
       (∀ t ∈ s.lanesWhere (fun k => (s.lane k).slot), (u.lane t).slot = false) ∧
       (∀ t ∈ s.lanesWhere (fun k => (s.lane k).slot && s.laneSt k ≠ lnActive), u.laneSt t = lnDetect ∧ u.rd (Reg.LANE_STATE.last_fail t) = 9 ∧ Tells 0x0407 [w t] s u) ∧
       Frame [.regs, .out, .evt, .hkc, .ops, .sieve, .win, .render, .pec, .shot, .check, .cal, .pair, .trig, .lanes, .tx] s u)

/-- R327 to R331, R342: the window of a turnaround starts at its instant, and the windows of a sweep at once, with the
registers latched. Each calibration tick takes the job's next tick number and its entry is launched and marked. A MONITOR
reading of a beam fired for that tick is kept, any other counted as stray. At its end the cursor moves on by the positions
completed; nothing of the live bank changes before a commit. -/
def Obligations.CalibrationWindowsMeasureBeams : Prop :=
  ∀ (s : State),
    (∀ (w0 : Nat),
       (s.cal.window = none) →
       (s.role ≠ roleStandby) →
       (s.trig.calStart = some w0) →
       (w0 ≤ s.ns) →
       (s.trig.slot ≠ 2) →
       (s.jobSt = jobTurnaround) →
       (s.rd Reg.CAL_CTRL.enable = 1) →
       (s.lockOk = true) →
       (s.bwNow ≠ 0) →
       (s.job.nextTick + s.bwNow * s.rd Reg.CAL_CTRL.shots ≤ 2 ^ 40) →
       (s.pendingFirst = none) →
       NextWith (exec (.calibrationWindowStart) s) fun u =>
         u.cal = { s.cal with window := some (s.latchWindow w0 false) } ∧
         u.trig = { s.trig with calStart := none } ∧
         u.rd Reg.CAL_STATUS.window_active = 1 ∧
         u.rd Reg.CAL_MEAS.measured = 0 ∧
         u.rd Reg.CAL_MEAS.unmeasured = 0 ∧
         RegsBut ([Reg.CAL_STATUS.window_active, Reg.CAL_MEAS.measured, Reg.CAL_MEAS.unmeasured] ++ eventRegs) s u ∧
         Frame [.regs, .out, .evt, .cal, .trig, .lanes] s u) ∧
    (∀ (o : LongOp),
       (s.cal.window = none) →
       (s.role ≠ roleStandby) →
       (s.trig.calStart = none) →
       (s.opOfKind kindSweep = some o) →
       (o.st = .running) →
       (s.jobRuns = false) →
       (s.bwNow ≠ 0) →
       (s.job.nextTick + s.bwNow * s.rd Reg.CAL_CTRL.shots ≤ 2 ^ 40) →
       NextWith (exec (.calibrationWindowStart) s) fun u =>
         u.cal = { s.cal with window := some (s.latchWindow s.ns true) } ∧
         u.rd Reg.CAL_STATUS.window_active = 1 ∧
         Frame [.regs, .out, .evt, .cal, .lanes] s u) ∧
    (∀ (c : CalWindow),
       (s.cal.window = some c) →
       (c.fired < c.ticks) →
       (c.fits c.fired = true) →
       (c.tickAt c.fired ≤ s.ns + 2 * c.tau + s.maxFwd) →
       NextWith (exec (.calTick) s) fun u =>
         u.cal = { s.cal with window := some { c with fired := c.fired + 1 } } ∧
         u.job.nextTick = s.job.nextTick + 1 ∧
         (∃ e ∈ u.shot.tlog, e.n = s.job.nextTick ∧ e.cal = true ∧ e.launched = true ∧ e.time = c.tickAt c.fired ∧ e.tau = c.tau) ∧
         u.rd Reg.SHOT_TICK_LO.tick_lo = s.job.nextTick % 2 ^ 32 ∧
         u.rd Reg.SHOT_STRIPE.cal = 1 ∧
         Frame [.freeCnt, .regs, .out, .evt, .hkc, .job, .sieve, .win, .render, .pec, .shot, .check, .cal, .lanes, .tx, .pair, .power] s u) ∧
    (∀ (t : Nat) (b : Bytes) (c : CalWindow),
       (HeardMsg s t 0x85 b) →
       (s.cal.window = some c) →
       ((∃ e ∈ s.shot.tlog, e.n = beAt b 1 5 ∧ e.cal = true ∧ ∃ q ∈ e.fired, q.2 = bitsOf (beAt b 6 3) 0 18)) →
       (s.job.nextTick ≤ beAt b 1 5 + c.fired) →
       (c.seen.contains (beAt b 1 5, bitsOf (beAt b 6 3) 0 18) = false) →
       NextWith (exec (.monitorReceive t b) s) fun u =>
         (u.cal = { s.cal with window := some { c with seen := (beAt b 1 5, bitsOf (beAt b 6 3) 0 18) :: c.seen, readings := if (beAt b 6 3).testBit 18 || (beAt b 6 3).testBit 19 then c.readings else (bitsOf (beAt b 6 3) 0 18, beAt b 9 2) :: c.readings } }) ∧
         Frame [.cal, .tx] s u) ∧
    (∀ (t : Nat) (b : Bytes),
       (HeardMsg s t 0x85 b) →
       (s.cal.window = none) →
       NextWith (exec (.monitorReceive t b) s) fun u =>
         Counted Reg.CAL_SKIP.stray 1 s u ∧
         RegsBut [Reg.CAL_SKIP.stray] s u ∧
         Frame [.regs, .tx] s u) ∧
    (∀ (c : CalWindow),
       (s.cal.window = some c) →
       (c.endsAt ≤ s.ns) →
       (c.fired < c.ticks → c.fits c.fired = false) →
       (c.sweep = false) →
       NextWith (exec (.calibrationWindowEnd) s) fun u =>
         u.cal.window = none ∧
         u.cal.live = s.cal.live ∧
         u.rd Reg.CAL_STATUS.window_active = 0 ∧
         u.rd Reg.CAL_CURSOR.next = (c.cursor + c.positions) % 4096 ∧
         Frame [.freeCnt, .regs, .out, .evt, .hkc, .ops, .cal, .lanes, .tx, .sieve, .win, .render, .pec, .shot, .check, .pair] s u)

/-- R331, R334, R335, R336, R431: a host write to a trim entry opens a session and changes the shadow bank only; no entry past
the last beam is written. An abort gives the session's entries their live values back. A commit closes the session and clears
the measurement history of its entries; while the job is ARMED, EXPOSING or TURNAROUND it waits for the commit point,
otherwise the whole shadow bank becomes live at once. -/
def Obligations.TrimsAreWrittenAndCommitted : Prop :=
  ∀ (s : State),
    (∀ (beam v : Nat),
       (beam < beamsOf s.variant) →
       NextWith (exec (.trimEntryWrite beam v) s) fun u =>
         trimAt u.cal.shadow beam = v ∧
         TabBut beam s.cal.shadow u.cal.shadow ∧
         u.cal.live = s.cal.live ∧
         beam ∈ u.cal.session ∧
         u.rd Reg.CAL_HOST.open_ = 1 ∧
         u.rd Reg.CAL_HOST.dirty = u.cal.session.length % 2 ^ Reg.CAL_HOST.dirty.width ∧
         RegsBut [Reg.CAL_HOST.open_, Reg.CAL_HOST.dirty] s u ∧
         Frame [.regs, .cal] s u) ∧
    (∀ (beam v : Nat),
       (beamsOf s.variant ≤ beam) →
       NextWith (exec (.trimEntryWrite beam v) s) fun u =>
         u = s) ∧
    (NextWith (exec (.calHostOpen true) s) fun u =>
       u.rd Reg.CAL_HOST.open_ = 1 ∧
       RegsBut [Reg.CAL_HOST.open_] s u ∧
       Frame [.regs] s u) ∧
    (NextWith (exec (.calHostOpen false) s) fun u =>
       u = s) ∧
    (NextWith (exec (.calAbort true) s) fun u =>
       (∀ k ∈ s.cal.session, trimAt u.cal.shadow k = trimAt s.cal.live k) ∧
       TabKeeps s.cal.session s.cal.shadow u.cal.shadow ∧
       u.cal.session = [] ∧
       u.rd Reg.CAL_HOST.open_ = 0 ∧
       u.rd Reg.CAL_HOST.dirty = 0 ∧
       RegsBut [Reg.CAL_HOST.open_, Reg.CAL_HOST.dirty] s u ∧
       Frame [.regs, .cal] s u) ∧
    ((s.jobSt = jobArmed ∨ s.jobSt = jobExposing ∨ s.jobSt = jobTurnaround) →
     NextWith (exec (.calCommit true) s) fun u =>
       u.cal = { s.cal with session := [], prevLow := s.cal.prevLow.filter (fun b => !s.cal.session.contains b), suspect := tabKeep (fun b => !s.cal.session.contains b) s.cal.suspect } ∧
       u.rd Reg.CAL_STATUS.commit_pending = 1 ∧
       u.rd Reg.CAL_HOST.open_ = 0 ∧
       u.rd Reg.CAL_HOST.dirty = 0 ∧
       RegsBut [Reg.CAL_HOST.open_, Reg.CAL_HOST.dirty, Reg.CAL_STATUS.commit_pending] s u ∧
       Frame [.regs, .cal] s u) ∧
    ((s.jobQuiet = true) →
     (s.role = roleSolo) →
     NextWith (exec (.calCommit true) s) fun u =>
       u.cal.live = s.cal.shadow ∧
       u.cal.mirror = s.cal.shadow ∧
       u.cal.shadow = s.cal.shadow ∧
       u.cal.session = [] ∧
       u.rd Reg.CAL_STATUS.commit_pending = 0 ∧
       u.rd Reg.CAL_HOST.open_ = 0 ∧
       u.rd Reg.CAL_GAIN_MAX.gain = (gainMax s.variant s.cal.shadow).2 % 2 ^ Reg.CAL_GAIN_MAX.gain.width ∧
       (s.rd Reg.DMC_STATUS.sc_failed = 0 → RegsBut ([Reg.CAL_HOST.open_, Reg.CAL_HOST.dirty, Reg.CAL_STATUS.commit_pending, Reg.CAL_GAIN_MAX.gain, Reg.CAL_GAIN_MAX_BEAM.beam] ++ eventRegs) s u ∧ Frame [.regs, .out, .evt, .cal] s u) ∧
       Frame [.regs, .out, .evt, .cal, .check, .dram, .power] s u)

/-- R243, R244, R245: a Sync of the current master is stamped at its arrival less the receive latency; a two-step one waits
for its Follow_Up, a one-step one is complete at once. Before any path delay is known a complete Sync is only the pair a
Delay_Req follows; then it gives the offset from master, which TIME_OFFSET shows and which ends holdover. The Delay_Resp to
the outstanding Delay_Req gives the mean path delay of the Sync before that request, at the Follow_Up of that Sync when it
comes later (log 92). A message on a port that is not selected is dropped. -/
def Obligations.PtpFollowsItsMaster : Prop :=
  ∀ (s : State),
    (∀ (h : PtpHdr) (t1 : PtpTime),
       (s.portUp h.iface = true) →
       (h.iface = s.rd Reg.TIME_CTRL.port) →
       (h.transport = s.rd Reg.TIME_CTRL.transport) →
       (h.domain = s.rd Reg.TIME_CTRL.domain) →
       (s.fromMaster h = true) →
       (-7 ≤ h.logInterval ∧ h.logInterval ≤ 1) →
       NextWith (exec (.syncReceive h true t1) s) fun u =>
         u.ptp = { s.ptp with sync := some (h.seq, (s.now16 - ps16 (s.rd (Reg.TIME_PHY_LAT.rx_ps h.iface))), h.corr), lastSync := s.now, syncLog := h.logInterval } ∧
         Counted (Reg.PORT_RX_FRAMES.frames h.iface) 1 s u ∧
         RegsBut [Reg.PORT_RX_FRAMES.frames h.iface] s u ∧
         Frame [.regs, .ptp] s u) ∧
    (∀ (h : PtpHdr) (t1 : PtpTime),
       (s.portUp h.iface = true) →
       (h.iface = s.rd Reg.TIME_CTRL.port) →
       (h.transport = s.rd Reg.TIME_CTRL.transport) →
       (h.domain = s.rd Reg.TIME_CTRL.domain) →
       (s.fromMaster h = true) →
       (-7 ≤ h.logInterval ∧ h.logInterval ≤ 1) →
       (s.ptp.mpd = none) →
       NextWith (exec (.syncReceive h false t1) s) fun u =>
         u.ptp = { s.ptp with sync := none, lastPair := some (time16 t1, (s.now16 - ps16 (s.rd (Reg.TIME_PHY_LAT.rx_ps h.iface))), h.corr), lastSync := s.now, syncLog := h.logInterval } ∧
         RegsBut [Reg.PORT_RX_FRAMES.frames h.iface] s u ∧
         Frame [.regs, .ptp] s u) ∧
    (∀ (h : PtpHdr) (b : Bool) (t1 : PtpTime),
       (s.portUp h.iface = true) →
       (h.iface ≠ s.rd Reg.TIME_CTRL.port) →
       NextWith (exec (.syncReceive h b t1) s) fun u =>
         Counted (Reg.PORT_RX_FRAMES.frames h.iface) 1 s u ∧
         Counted (Reg.PORT_RX_DROP.drops h.iface) 1 s u ∧
         RegsBut [Reg.PORT_RX_FRAMES.frames h.iface, Reg.PORT_RX_DROP.drops h.iface] s u ∧
         Frame [.regs] s u) ∧
    (∀ (h : PtpHdr) (t1 : PtpTime) (a c : Int),
       (s.portUp h.iface = true) →
       (h.iface = s.rd Reg.TIME_CTRL.port) →
       (h.transport = s.rd Reg.TIME_CTRL.transport) →
       (h.domain = s.rd Reg.TIME_CTRL.domain) →
       (s.fromMaster h = true) →
       (s.ptp.sync = some (h.seq, a, c)) →
       (s.ptp.mpd = none) →
       (s.ptp.req.all (fun r => r.sync.isNone && r.resp.isNone) = true) →
       NextWith (exec (.followUpReceive h t1) s) fun u =>
         u.ptp = { s.ptp with sync := none, lastPair := some (time16 t1, a, c + h.corr) } ∧
         RegsBut [Reg.PORT_RX_FRAMES.frames h.iface] s u ∧
         Frame [.regs, .ptp] s u) ∧
    (∀ (h : PtpHdr) (t1 : PtpTime) (a c mpd o : Int),
       (s.portUp h.iface = true) →
       (h.iface = s.rd Reg.TIME_CTRL.port) →
       (h.transport = s.rd Reg.TIME_CTRL.transport) →
       (h.domain = s.rd Reg.TIME_CTRL.domain) →
       (s.fromMaster h = true) →
       (s.ptp.sync = some (h.seq, a, c)) →
       (s.ptp.mpd = some mpd) →
       (s.ptp.lastOffset = none) →
       (s.ptp.req.all (fun r => r.sync.isNone && r.resp.isNone) = true) →
       (a - time16 t1 - (c + h.corr) - mpd - signedOf 32 (s.rd (Reg.TIME_ASYM.asym_ps (s.rd Reg.TIME_CTRL.port))) * 65536 / 1000 = o) →
       (o.natAbs < 50 * 65536) →
       (s.rd Reg.TIME_STATUS.good_syncs < 15) →
       (50 ≤ s.rd Reg.TIME_UNLOCK.unlock_ns) →
       NextWith (exec (.followUpReceive h t1) s) fun u =>
         u.rd Reg.TIME_OFFSET.offset = toField 32 (o / 65536) ∧
         u.rd Reg.TIME_STATUS.holdover = 0 ∧
         u.rd Reg.TIME_STATUS.good_syncs = s.rd Reg.TIME_STATUS.good_syncs + 1 ∧
         u.ptp.lastOffset = some (o, s.ns) ∧
         u.ptp.lastPair = some (time16 t1, a, c + h.corr) ∧
         u.clk = s.clk ∧
         RegsBut [Reg.PORT_RX_FRAMES.frames h.iface, Reg.TIME_OFFSET.offset, Reg.TIME_STATUS.holdover, Reg.TIME_STATUS.good_syncs] s u ∧
         Frame [.regs, .ptp] s u) ∧
    ((s.ptp.lastPair ≠ none ∨ s.ptp.sync ≠ none) →
     (s.ptp.master ≠ none) →
     (s.portUp (s.rd Reg.TIME_CTRL.port) = true) →
     NextWith (exec (.delayReqSend) s) fun u =>
       u.ptp = { s.ptp with req := some ⟨s.ptp.reqSeq, s.now16 + ps16 (s.rd (Reg.TIME_PHY_LAT.tx_ps (s.rd Reg.TIME_CTRL.port))), s.ptp.sync, if s.ptp.sync.isSome then none else s.ptp.lastPair, none⟩, reqSeq := (s.ptp.reqSeq + 1) % 65536 } ∧
       Sends (.delayReq (s.rd Reg.TIME_CTRL.port) (s.rd Reg.TIME_CTRL.transport) (s.rd Reg.TIME_CTRL.domain) s.ptp.reqSeq) s u ∧
       Counted (Reg.PORT_TX_FRAMES.frames (s.rd Reg.TIME_CTRL.port)) 1 s u ∧
       RegsBut [Reg.PORT_TX_FRAMES.frames (s.rd Reg.TIME_CTRL.port)] s u ∧
       Frame [.regs, .out, .ptp] s u) ∧
    (∀ (h : PtpHdr) (t4 : PtpTime) (r : DelayReq) (t1 t2 cs mpd : Int),
       (s.portUp h.iface = true) →
       (h.iface = s.rd Reg.TIME_CTRL.port) →
       (h.transport = s.rd Reg.TIME_CTRL.transport) →
       (h.domain = s.rd Reg.TIME_CTRL.domain) →
       (s.fromMaster h = true) →
       (s.ptp.req = some r) →
       (r.seq = h.seq) →
       (r.pair = some (t1, t2, cs)) →
       (((t2 - r.t3) + (time16 t4 - t1) - cs - h.corr) / 2 = mpd) →
       NextWith (exec (.delayRespReceive h true t4) s) fun u =>
         u.ptp = { s.ptp with req := none, mpd := some mpd, reqLog := h.logInterval } ∧
         u.rd Reg.TIME_PATH_DELAY.mpd = toField 32 (mpd / 65536) ∧
         RegsBut [Reg.PORT_RX_FRAMES.frames h.iface, Reg.TIME_PATH_DELAY.mpd] s u ∧
         Frame [.regs, .ptp] s u) ∧
    (∀ (h : PtpHdr) (t4 : PtpTime) (r : DelayReq),
       (s.portUp h.iface = true) →
       (h.iface = s.rd Reg.TIME_CTRL.port) →
       (h.transport = s.rd Reg.TIME_CTRL.transport) →
       (h.domain = s.rd Reg.TIME_CTRL.domain) →
       (s.fromMaster h = true) →
       (s.ptp.req = some r) →
       (r.seq = h.seq) →
       (r.pair = none) →
       NextWith (exec (.delayRespReceive h true t4) s) fun u =>
         u.ptp = { s.ptp with req := some { r with resp := some (time16 t4, h.corr) }, reqLog := h.logInterval } ∧
         RegsBut [Reg.PORT_RX_FRAMES.frames h.iface] s u ∧
         Frame [.regs, .ptp] s u) ∧
    (∀ (h : PtpHdr) (t1 : PtpTime) (q : Nat) (t3 t2 cs t4 cd mpd : Int),
       (s.portUp h.iface = true) →
       (h.iface = s.rd Reg.TIME_CTRL.port) →
       (h.transport = s.rd Reg.TIME_CTRL.transport) →
       (h.domain = s.rd Reg.TIME_CTRL.domain) →
       (s.fromMaster h = true) →
       (s.ptp.req = some ⟨q, t3, some (h.seq, t2, cs), none, some (t4, cd)⟩) →
       (s.ptp.sync.all (fun x => x.1 ≠ h.seq) = true) →
       (((t2 - t3) + (t4 - time16 t1) - (cs + h.corr) - cd) / 2 = mpd) →
       NextWith (exec (.followUpReceive h t1) s) fun u =>
         u.ptp = { s.ptp with req := none, mpd := some mpd } ∧
         u.rd Reg.TIME_PATH_DELAY.mpd = toField 32 (mpd / 65536) ∧
         RegsBut [Reg.PORT_RX_FRAMES.frames h.iface, Reg.TIME_PATH_DELAY.mpd] s u ∧
         Frame [.regs, .ptp] s u)

/-- R243, R249, R428: an Announce on the slave port is entered for its sender among the foreign masters, and the best of those
qualified is the master; a second Announce of the one foreign master heard, within four of its intervals, qualifies it; it
becomes the master, TIME_MASTER shows its clock, and event 0x0205 tells it. Three intervals without an Announce of the current
master, and no other qualified one, four Sync intervals without a Sync, or the loss of the slave port's link bring holdover,
event 0x0206, with the reason numbers of the model (log 20), and lock is lost; a qualified one becomes the master instead. A
port whose link goes down is counted; one whose link comes up carries traffic. -/
def Obligations.MastersComeAndGo : Prop :=
  ∀ (s : State),
    (∀ (h : PtpHdr) (d : PtpData),
       (s.portUp h.iface = true) →
       (h.iface = s.rd Reg.TIME_CTRL.port) →
       (h.transport = s.rd Reg.TIME_CTRL.transport) →
       (h.domain = s.rd Reg.TIME_CTRL.domain) →
       NextWith (exec (.announceReceive h d) s) fun u =>
         u.ptp.masters = addAnnounce h d s.now s.ptp.masters ∧
         u.ptp.master = ((bestMaster s.now (addAnnounce h d s.now s.ptp.masters)).map Master.sender).or s.ptp.master ∧
         Counted (Reg.PORT_RX_FRAMES.frames h.iface) 1 s u ∧
         RegsBut ([Reg.PORT_RX_FRAMES.frames h.iface, Reg.TIME_MASTER_HI.id_hi, Reg.TIME_MASTER_LO.id_lo, Reg.TIME_STATUS.locked, Reg.TIME_STATUS.good_syncs] ++ eventRegs) s u ∧
         Frame [.regs, .out, .evt, .ptp] s u) ∧
    (∀ (h : PtpHdr) (d : PtpData) (m : Master) (a : Nat),
       (s.portUp h.iface = true) →
       (h.iface = s.rd Reg.TIME_CTRL.port) →
       (h.transport = s.rd Reg.TIME_CTRL.transport) →
       (h.domain = s.rd Reg.TIME_CTRL.domain) →
       (s.ptp.masters = [m]) →
       (s.ptp.master = none) →
       (m.sender = senderOf h) →
       (m.times = [a]) →
       (s.now ≤ a + 4 * intervalNs h.logInterval) →
       (s.now ≤ a + 4 * intervalNs m.interval) →
       (d.steps < 255) →
       (s.rd Reg.TIME_STATUS.locked = 0) →
       (h.clock < 2 ^ 64) →
       (h.portNo < 65536) →
       NextWith (exec (.announceReceive h d) s) fun u =>
         u.ptp.master = some (senderOf h) ∧
         u.rd Reg.TIME_MASTER_HI.id_hi = h.clock / 2 ^ 32 ∧
         u.rd Reg.TIME_MASTER_LO.id_lo = h.clock % 2 ^ 32 ∧
         Raises [(0x0205, [wd h.clock])] s u ∧
         RegsBut ([Reg.PORT_RX_FRAMES.frames h.iface, Reg.TIME_MASTER_HI.id_hi, Reg.TIME_MASTER_LO.id_lo, Reg.TIME_STATUS.locked, Reg.TIME_STATUS.good_syncs] ++ eventRegs) s u ∧
         Frame [.regs, .out, .evt, .ptp] s u) ∧
    (∀ (m : Master),
       (s.ptp.master = some m.sender) →
       (s.ptp.masters.find? (fun q => s.ptp.master = some q.sender) = some m) →
       (m.times.headD 0 + 3 * intervalNs m.interval ≤ s.now) →
       (bestMaster s.now (s.ptp.masters.filter (fun q => q.sender ≠ m.sender)) = none) →
       NextWith (exec (.announceReceiptTimeout) s) fun u =>
         u.ptp.master = none ∧
         u.ptp.masters = s.ptp.masters.filter (fun q => q.sender ≠ m.sender) ∧
         u.rd Reg.TIME_STATUS.holdover = 1 ∧
         (s.rd Reg.TIME_STATUS.holdover = 0 → u.rd Reg.TIME_STATUS.locked = 0 ∧ u.rd Reg.TIME_STATUS.good_syncs = 0 ∧ Tells 0x0206 [w 1] s u) ∧
         RegsBut ([Reg.TIME_STATUS.holdover, Reg.TIME_STATUS.locked, Reg.TIME_STATUS.good_syncs] ++ eventRegs) s u ∧
         Frame [.regs, .out, .evt, .ptp] s u) ∧
    (∀ (m g : Master),
       (s.ptp.master = some m.sender) →
       (s.ptp.masters.find? (fun q => s.ptp.master = some q.sender) = some m) →
       (m.times.headD 0 + 3 * intervalNs m.interval ≤ s.now) →
       (bestMaster s.now (s.ptp.masters.filter (fun q => q.sender ≠ m.sender)) = some g) →
       NextWith (exec (.announceReceiptTimeout) s) fun u =>
         u.ptp.master = some g.sender ∧
         u.ptp.masters = s.ptp.masters.filter (fun q => q.sender ≠ m.sender) ∧
         u.rd Reg.TIME_STATUS.locked = 0 ∧
         Tells 0x0205 [wd (g.sender / 65536)] s u ∧
         RegsBut ([Reg.TIME_MASTER_HI.id_hi, Reg.TIME_MASTER_LO.id_lo, Reg.TIME_STATUS.locked, Reg.TIME_STATUS.good_syncs] ++ eventRegs) s u ∧
         Frame [.regs, .out, .evt, .ptp] s u) ∧
    ((s.ptp.master ≠ none) →
     (s.ptp.lastSync + 4 * intervalNs s.ptp.syncLog ≤ s.now) →
     (s.rd Reg.TIME_STATUS.holdover = 0) →
     NextWith (exec (.syncTimeout) s) fun u =>
       u.rd Reg.TIME_STATUS.holdover = 1 ∧
       u.rd Reg.TIME_STATUS.locked = 0 ∧
       u.rd Reg.TIME_STATUS.good_syncs = 0 ∧
       (s.rd Reg.TIME_STATUS.locked = 1 → Raises [(0x0202, [w (s.rd Reg.TIME_OFFSET.offset), w 3]), (0x0206, [w 2])] s u) ∧
       (s.rd Reg.TIME_STATUS.locked = 0 → Raises [(0x0206, [w 2])] s u) ∧
       RegsBut ([Reg.TIME_STATUS.holdover, Reg.TIME_STATUS.locked, Reg.TIME_STATUS.good_syncs] ++ eventRegs) s u ∧
       Frame [.regs, .out, .evt, .ptp] s u) ∧
    (∀ (p : Nat),
       (s.rd (Reg.PORT_STATUS.link_up p) = 1) →
       (p < 4) →
       (p ≠ s.rd Reg.TIME_CTRL.port) →
       NextWith (exec (.portLinkDown p) s) fun u =>
         u.rd (Reg.PORT_STATUS.link_up p) = 0 ∧
         u.rd (Reg.PORT_STATUS.aligned p) = 0 ∧
         Counted (Reg.PORT_STATUS.link_downs p) 1 s u ∧
         RegsBut [Reg.PORT_STATUS.link_up p, Reg.PORT_STATUS.aligned p, Reg.PORT_STATUS.link_downs p] s u ∧
         Frame [.regs] s u) ∧
    (∀ (p : Nat),
       (s.rd (Reg.PORT_STATUS.link_up p) = 1) →
       (p < 4) →
       (p = s.rd Reg.TIME_CTRL.port) →
       (s.rd Reg.TIME_STATUS.holdover = 0) →
       NextWith (exec (.portLinkDown p) s) fun u =>
         u.rd (Reg.PORT_STATUS.link_up p) = 0 ∧
         u.rd (Reg.PORT_STATUS.aligned p) = 0 ∧
         Counted (Reg.PORT_STATUS.link_downs p) 1 s u ∧
         u.ptp.master = none ∧
         u.ptp.masters = [] ∧
         u.rd Reg.TIME_STATUS.holdover = 1 ∧
         u.rd Reg.TIME_STATUS.locked = 0 ∧
         Tells 0x0206 [w 4] s u ∧
         RegsBut ([Reg.PORT_STATUS.link_up p, Reg.PORT_STATUS.aligned p, Reg.PORT_STATUS.link_downs p, Reg.TIME_STATUS.holdover, Reg.TIME_STATUS.locked, Reg.TIME_STATUS.good_syncs] ++ eventRegs) s u ∧
         Frame [.regs, .out, .evt, .ptp] s u) ∧
    (∀ (p : Nat),
       (s.rd (Reg.PORT_CTRL.enable p) = 1) →
       (p < 4) →
       NextWith (exec (.portLinkUp p) s) fun u =>
         u.rd (Reg.PORT_STATUS.link_up p) = 1 ∧
         u.rd (Reg.PORT_STATUS.aligned p) = 1 ∧
         RegsBut [Reg.PORT_STATUS.link_up p, Reg.PORT_STATUS.aligned p] s u ∧
         Frame [.regs] s u)

/-- R242, R247, R254, R256, R258: with the servo off a write of TIME_INC_LO takes effect with the TIME_INC_HI last written. A
deferred step is made when the step window opens: the clock moves by the offset, lock is lost and event 0x0203 tells it.
TICK_OUT and a pulse unit send their next pulse at its instant. An edge in the wanted direction enters its capture unit, which
holds 16; one more sets overflow, event 0x0215. A read of a TAG pops the oldest edge, and a read of the first register of a
group latches the rest of it for its reader. -/
def Obligations.ClockAndEdges : Prop :=
  ∀ (s : State),
    (∀ (v : Nat),
       (s.rd Reg.TIME_CTRL.servo_en = 0) →
       NextWith (exec (.timeIncWrite v) s) fun u =>
         u.rd Reg.TIME_INC_HI.inc_ns = s.ptp.incHi % 2 ^ Reg.TIME_INC_HI.inc_ns.width ∧
         u.rd Reg.TIME_INC_LO.inc_frac = v % 2 ^ 32 ∧
         RegsBut [Reg.TIME_INC_HI.inc_ns, Reg.TIME_INC_LO.inc_frac] s u ∧
         Frame [.regs] s u) ∧
    (∀ (v : Nat),
       (s.rd Reg.TIME_CTRL.servo_en ≠ 0) →
       NextWith (exec (.timeIncWrite v) s) fun u =>
         u = s) ∧
    (∀ (o : Int) (at_ : Nat),
       (s.rd Reg.TIME_STATUS.step_pending = 1) →
       (s.rd Reg.TIME_CTRL.step_en = 1) →
       (s.stepWindow = true) →
       (s.ptp.lastOffset = some (o, at_)) →
       (100000 * 65536 < o.natAbs) →
       NextWith (exec (.deferredStep) s) fun u =>
         u.clk = (((s.clk : Int) - o * 65536) % clkSpan).toNat ∧
         u.rd Reg.TIME_STATUS.locked = 0 ∧
         u.ptp.lastOffset = some (o, u.ns) ∧
         u.rd Reg.TIME_STATUS.step_pending = 0 ∧
         u.rd Reg.TIME_STATUS.good_syncs = 0 ∧
         Counted Reg.TIME_STEPS.steps 1 s u ∧
         Tells 0x0203 [wd (toField 64 ((-o) / 65536))] s u ∧
         RegsBut ([Reg.TIME_STATUS.step_pending, Reg.TIME_STATUS.locked, Reg.TIME_STATUS.good_syncs, Reg.TIME_STEPS.steps, Reg.TIME_TRIG1_SEC_HI.sec_hi, Reg.TIME_TRIG1_SEC_LO.sec_lo, Reg.TIME_TRIG1_NS.ns] ++ eventRegs) s u ∧
         Frame [.clk, .regs, .out, .evt, .trig, .ptp] s u) ∧
    (∀ (e : TickEntry),
       (s.shot.tlog.reverse.find? (fun e => e.launched && decide (s.trig.tickOut ≤ e.n)) = some e) →
       (e.time + s.rd Reg.TIME_TICK_OUT.delay_ns ≤ s.ns) →
       NextWith (exec (.tickOutPulse) s) fun u =>
         u.trig = { s.trig with tickOut := e.n + 1 } ∧
         (if s.rd Reg.TIME_TICK_OUT.enable = 1 ∧ (e.cal = false ∨ s.rd Reg.TIME_TICK_OUT.cal = 1) then Sends (.pulse 0 (64 * (e.time + s.rd Reg.TIME_TICK_OUT.delay_ns) + s.rd Reg.TIME_TICK_OUT.fine) (s.rd Reg.TIME_TICK_OUT_WIDTH.width_ns)) s u else u.out = s.out) ∧
         Frame [.out, .trig] s u) ∧
    (∀ (v : Nat) (q g : PulseUnit) (a : Nat),
       (2 ≤ v) →
       (s.trig.pulses[v - 2]? = some q) →
       (q.enable = true ∧ g = q ∨ q.enable = false ∧ g = s.pulseRegs v q.last) →
       (g.enable = true) →
       (s.edgeAt g = some a) →
       (∀ l, q.last = some l → l < a) →
       NextWith (exec (.pulseTrainEdge v) s) fun u =>
         u.trig = { s.trig with pulses := setAt s.trig.pulses (v - 2) (s.pulseRegs v (some a)) } ∧
         (s.rd (Reg.TIME_PULSE_CTRL.enable v) = 1 → s.rd (Reg.TIME_PULSE_CTRL.route v) = 1 ∨ s.rd (Reg.TIME_PULSE_CTRL.route v) = 2 → Sends (.pulse (s.rd (Reg.TIME_PULSE_CTRL.route v)) (64 * a) (s.rd (Reg.TIME_PULSE_WIDTH.width_ns v))) s u) ∧
         Frame [.out, .trig] s u) ∧
    (∀ (c : Nat) (rising out : Bool) (fifo : List CapEdge),
       (c < 4) →
       ((if c = 3 ∧ s.rd (Reg.TIME_CAP_CTRL.halyard_out 3) = 1 then out else !out) = true) →
       (edgeWanted (s.rd (Reg.TIME_CAP_CTRL.edge c)) rising = true) →
       (s.trig.caps.getD c [] = fifo) →
       (fifo.length < 16) →
       (s.trig.caps.length = 4) →
       NextWith (exec (.captureEdge c rising out) s) fun u =>
         u.trig.caps.getD c [] = fifo ++ [⟨s.edgeTime, rising⟩] ∧
         u.rd (Reg.TIME_CAP_CTRL.count c) = fifo.length + 1 ∧
         RegsBut [Reg.TIME_CAP_CTRL.count c] s u ∧
         Frame [.regs, .trig] s u) ∧
    (∀ (c : Nat) (rising out : Bool),
       (c < 4) →
       ((if c = 3 ∧ s.rd (Reg.TIME_CAP_CTRL.halyard_out 3) = 1 then out else !out) = true) →
       (edgeWanted (s.rd (Reg.TIME_CAP_CTRL.edge c)) rising = true) →
       (16 ≤ (s.trig.caps.getD c []).length) →
       (s.trig.capTold.getD c none = none) →
       NextWith (exec (.captureEdge c rising out) s) fun u =>
         u.rd (Reg.TIME_CAP_CTRL.overflow c) = 1 ∧
         u.trig.caps = s.trig.caps ∧
         Raises [(0x0215, [w c])] s u ∧
         RegsBut (Reg.TIME_CAP_CTRL.overflow c :: eventRegs) s u ∧
         Frame [.regs, .out, .evt, .trig] s u) ∧
    (∀ (who : Src) (c : Nat) (e : CapEdge) (rest : List CapEdge),
       (c < 4) →
       (s.trig.caps.getD c [] = e :: rest) →
       (s.trig.caps.length = 4) →
       NextWith (exec (.captureTagRead who c) s) fun u =>
         u.trig.caps.getD c [] = rest ∧
         u.rd (Reg.TIME_CAP_CTRL.count c) = rest.length % 32 ∧
         tabFind (u.latchesOf who) (0x30404 + 16 * c + 4) = some (e.time / giga % 2 ^ 32) ∧
         tabFind (u.latchesOf who) (0x30404 + 16 * c + 8) = some (e.time % giga) ∧
         RegsBut [Reg.TIME_CAP_CTRL.count c] s u ∧
         Frame [.regs, .latches, .trig] s u) ∧
    (∀ (who : Src) (a : Nat),
       (groupOf a ≠ []) →
       (capTag a = none) →
       NextWith (exec (.latchedGroupRead who a) s) fun u =>
         (∀ b ∈ groupOf a, tabFind (u.latchesOf who) b = some (s.readReg b)) ∧
         Frame [.latches] s u)

/-- R259: a sound report on the stage port whose number and time follow the last one's is the newest report held and its fault
and number are shown; one that fails a check is counted, with event 0x0216 once in a second. A report on a host port is
dropped. -/
def Obligations.StageReportsAreTakenOrDiscarded : Prop :=
  ∀ (s : State) (src : Src) (b : Bytes),
    (s.portUp src.iface = true) →
    (s.frameFits src.iface (udpFrameLen src.v6 b.length) = true) →
    (s.ipOn src = true) →
    ((src.iface = 2) →
     (s.rd Reg.STG_CTRL.enable = 1) →
     (s.reportOk b (reportOf b (s.now16 - ps16 (s.rd (Reg.TIME_PHY_LAT.rx_ps 2))).toNat) = true) →
     NextWith (exec (.stageReport src b) s) fun u =>
       u.stage = { s.stage with reps := reportOf b (s.now16 - ps16 (s.rd (Reg.TIME_PHY_LAT.rx_ps 2))).toNat :: s.stage.reps } ∧
       u.rd Reg.STG_STATUS.last_seq = beAt b 2 2 ∧
       u.rd Reg.STG_STATUS.fault = b2n ((byteAt b 1).testBit 0) ∧
       RegsBut [Reg.PORT_RX_FRAMES.frames 2, Reg.STG_STATUS.last_seq, Reg.STG_STATUS.fault, Reg.STG_STATUS.coasting] s u ∧
       Frame [.regs, .stage] s u) ∧
    ((src.iface = 2) →
     (s.rd Reg.STG_CTRL.enable = 1) →
     (s.reportOk b (reportOf b (s.now16 - ps16 (s.rd (Reg.TIME_PHY_LAT.rx_ps 2))).toNat) = false) →
     (s.stage.lastTold.all (fun t => t + giga ≤ s.now) = true) →
     NextWith (exec (.stageReport src b) s) fun u =>
       Counted Reg.STG_DISCARD.discarded 1 s u ∧
       u.stage = { s.stage with lastTold := some s.now } ∧
       Raises [(0x0216, [w (u.rd Reg.STG_DISCARD.discarded)])] s u ∧
       RegsBut ([Reg.PORT_RX_FRAMES.frames 2, Reg.STG_DISCARD.discarded] ++ eventRegs) s u ∧
       Frame [.regs, .out, .evt, .stage] s u) ∧
    ((src.iface < 2) →
     NextWith (exec (.stageReport src b) s) fun u =>
       Counted (Reg.PORT_RX_DROP.drops src.iface) 1 s u ∧
       RegsBut [Reg.PORT_RX_FRAMES.frames src.iface, Reg.PORT_RX_DROP.drops src.iface] s u ∧
       Frame [.regs] s u)

/-- R276, R278, R279, R282, R283, R286, R287: a request that reaches an idle DRAM whose subchannel is not under training is
issued. A whole write leaves its line with its data and tag, the generation of a new allocation the next one of its region,
and no other line changes; a read that passes its check changes nothing stored, and one that fails is queued for its refetch,
or fails at once when the line is poisoned. A narrow write to a line that has no entry gathers in the Ladle; two microseconds
after it the Ladle gives it to its port. A fence waits for the writes of its requester that are not in DRAM, and is complete
when none of them is left. In these, no line is one that a training row or a retired block holds. -/
def Obligations.DramRequestsAreServed : Prop :=
  ∀ (s : State),
    (∀ (sc : Nat) (fill : PortFill) (x : Transfer) (r : DramReq),
       (r.write = true) →
       (r.mask = fullMask) →
       (x = .good) →
       (reqChecked r = true → (s.rd Reg.DMC_STATUS.sc_failed).testBit sc = false) →
       (s.subchannels.contains sc = true) →
       (sc < 4) →
       ((s.placeOf r.line).sc = sc) →
       ((s.rd Reg.DMC_STATUS.sc_training).testBit sc = false) →
       (s.mayUse r = true) →
       (s.dram.queues = []) →
       (s.dram.ports = []) →
       (s.dram.ladle = []) →
       (s.dram.refetch = []) →
       (r.cls < 5) →
       (s.mayActivate sc r = true) →
       (s.panicPorts fill = 0) →
       (s.rd Reg.DMC_STATUS.panic = 0) →
       NextWith (exec (.dramRequestIssue sc fill x [r]) s) fun u =>
         u.dramLine r.line = lineOf r.line r.data r.region (if r.fresh then (tabGet 0 s.dram.gens r.region + 1) % 2 ^ 24 else r.gen) false ∧
         TabBut r.line s.dram.lines u.dram.lines ∧
         tabFind u.dram.allocs r.line = (if r.region = 0 then none else some (r.region, (if r.fresh then (tabGet 0 s.dram.gens r.region + 1) % 2 ^ 24 else r.gen))) ∧
         TabBut r.line s.dram.allocs u.dram.allocs ∧
         u.dram.queues = [] ∧
         u.dram.ports = [] ∧
         RegsBut [Reg.DMC_ACT_STAT.drfm] s u ∧
         Frame [.regs, .dram, .check] s u) ∧
    (∀ (sc : Nat) (fill : PortFill) (x : Transfer) (r : DramReq),
       (r.write = false) →
       (s.subchannels.contains sc = true) →
       (sc < 4) →
       ((s.placeOf r.line).sc = sc) →
       ((s.rd Reg.DMC_STATUS.sc_training).testBit sc = false) →
       (s.mayUse r = true) →
       (s.dram.queues = []) →
       (s.dram.ports = []) →
       (s.dram.ladle = []) →
       (s.dram.refetch = []) →
       (r.cls < 5) →
       (s.mayActivate sc r = true) →
       (s.panicPorts fill = 0) →
       (s.rd Reg.DMC_STATUS.panic = 0) →
       NextWith (exec (.dramRequestIssue sc fill x [r]) s) fun u =>
         u.dram.lines = s.dram.lines ∧
         (s.readFault r.line r.region r.gen = none → u.dram.refetch = if x = .good then [] else [{ r with tag := s.dram.nextTag, others := [] }]) ∧
         (s.readFault r.line r.region r.gen ≠ none → s.readFault r.line r.region r.gen ≠ some 3 → u.dram.refetch = [{ r with tag := s.dram.nextTag, others := [] }]) ∧
         (s.readFault r.line r.region r.gen = some 3 → u.dram.refetch = [] ∧ Counted Reg.DMC_RD_ERR.refetch_fail 1 s u ∧ u.rd Reg.DMC_LAST_BAD.kind = 3) ∧
         u.dram.queues = [] ∧
         u.dram.ports = [] ∧
         (s.readFault r.line r.region r.gen ≠ some 3 → RegsBut [Reg.DMC_ACT_STAT.drfm] s u) ∧
         Frame [.regs, .out, .evt, .check, .cal, .dram, .power] s u) ∧
    (∀ (sc : Nat) (fill : PortFill) (x : Transfer) (r : DramReq),
       (r.write = true) →
       (r.mask ≠ 0) →
       (r.mask ≠ fullMask) →
       (s.mayUse r = true) →
       (s.dram.ladle.find? (fun e => e.line = r.line) = none) →
       (s.dram.ladle.length < 32) →
       (s.dram.ports = []) →
       ((s.rd Reg.DMC_STATUS.sc_training).testBit sc = true) →
       (s.panicPorts fill = 0) →
       (s.rd Reg.DMC_STATUS.panic = 0) →
       NextWith (exec (.dramRequestIssue sc fill x [r]) s) fun u =>
         u.dram.ladle = s.dram.ladle ++ [⟨r.line, r.mask, mergeBytes 0 r.data r.mask, s.now, { r with gen := (if r.fresh then (tabGet 0 s.dram.gens r.region + 1) % 2 ^ 24 else r.gen), tag := s.dram.nextTag, others := [] }⟩] ∧
         u.dram = { s.dram with ladle := u.dram.ladle, gens := u.dram.gens, nextTag := s.dram.nextTag + 1 } ∧
         RegsBut [] s u ∧
         Frame [.regs, .dram] s u) ∧
    (∀ (sc : Nat) (fill : PortFill) (x : Transfer) (r : DramReq),
       (r.write = true) →
       (r.mask = 0) →
       (s.dram.ladle.all (fun e => !ofRequester r.requester e.req) = true) →
       (s.dram.ports = []) →
       ((s.rd Reg.DMC_STATUS.sc_training).testBit sc = true) →
       (s.panicPorts fill = 0) →
       (s.rd Reg.DMC_STATUS.panic = 0) →
       NextWith (exec (.dramRequestIssue sc fill x [r]) s) fun u =>
         u.dram = { s.dram with fences := s.dram.fences ++ [(r.requester, (s.openWrites (fun q => ofRequester r.requester q)).map (fun q => q.tag))] } ∧
         RegsBut [] s u ∧
         Frame [.regs, .dram] s u) ∧
    (∀ (e : LadleEnt) (rest : List LadleEnt),
       (s.dram.ladle = e :: rest) →
       (∀ x ∈ rest, x.line ≠ e.line) →
       (e.since + 2000 ≤ s.now) →
       (s.dram.ports = []) →
       (s.bankQueue (bankKey (s.placeOf e.line)) = []) →
       (s.refetches (bankKey (s.placeOf e.line)) < 16) →
       (s.inFlight (s.placeOf e.line).sc < 128) →
       (e.req.line = e.line) →
       NextWith (exec (.ladleTimeout) s) fun u =>
         u.dram.ladle = rest ∧
         u.bankQueue (bankKey (s.placeOf e.line)) = [{ e.req with mask := e.mask, data := e.data }] ∧
         u.dram.lines = s.dram.lines ∧
         Frame [.dram] s u) ∧
    (∀ (q : Nat) (f : Nat × List Nat),
       (s.dram.fences.find? (fun f => f.1 = q) = some f) →
       (s.openWrites (fun r => f.2.contains r.tag) = []) →
       NextWith (exec (.fenceComplete q) s) fun u =>
         u.dram = { s.dram with fences := s.dram.fences.erase f } ∧
         Frame [.dram] s u) ∧
    (∀ (q : Nat) (f : Nat × List Nat),
       (s.dram.fences.find? (fun f => f.1 = q) = some f) →
       (s.openWrites (fun r => f.2.contains r.tag) ≠ []) →
       NextWith (exec (.fenceComplete q) s) fun u =>
         u = s)

/-- R279, R294, R295, R298, R299, R300, R301, R302, R308, R310: a refetch that passes is counted, with event 0x0301 once in a
second; one that fails again is counted and named, event 0x0302. Whisk reads a line of an allocation and leaves a good one as
it stands, writes a free one again, counts and poisons one that fails and has no source, event 0x0303, passes over one it may
not touch, and goes on to the next. A live trim group that fails its check is copied from the mirror; when the mirror fails
too it is bad, event 0x0305. A training sweep ends with its width, or asks for a widened one, event 0x030A, or fails its
subchannel, event 0x030B. A queued row is repaired once in a turnaround, event 0x030C, or its block retired, event 0x030E. A
self-test that fails makes its location lasting, events 0x0541 and 0x0540. -/
def Obligations.DramErrorsAreFollowedUp : Prop :=
  ∀ (s : State),
    (∀ (bad : Bool) (r : DramReq),
       (s.dram.refetch.find? (fun r => !s.classWaits r.cls && !(s.rd Reg.DMC_STATUS.sc_training).testBit (s.placeOf r.line).sc) = some r) →
       (s.readFault r.line r.region r.gen = none) →
       (bad = false) →
       NextWith (exec (.dramRefetch bad) s) fun u =>
         Counted Reg.DMC_RD_ERR.refetch_ok 1 s u ∧
         (s.dram.toldRd.all (fun t => t + giga ≤ s.now) = true → Raises [(0x0301, [w r.line, w r.cls])] s u) ∧
         u.dram.refetch = s.dram.refetch.erase r ∧
         u.dram.lines = s.dram.lines ∧
         RegsBut (Reg.DMC_RD_ERR.refetch_ok :: eventRegs) s u ∧
         Frame [.regs, .out, .evt, .dram] s u) ∧
    (∀ (bad : Bool) (r : DramReq) (k : Nat),
       (s.dram.refetch.find? (fun r => !s.classWaits r.cls && !(s.rd Reg.DMC_STATUS.sc_training).testBit (s.placeOf r.line).sc) = some r) →
       (s.readFault r.line r.region r.gen = some k ∨ s.readFault r.line r.region r.gen = none ∧ bad = true ∧ k = 0) →
       NextWith (exec (.dramRefetch bad) s) fun u =>
         Counted Reg.DMC_RD_ERR.refetch_fail 1 s u ∧
         u.rd Reg.DMC_LAST_BAD.kind = k % 2 ^ Reg.DMC_LAST_BAD.kind.width ∧
         u.rd Reg.DMC_LAST_BAD.line = r.line % 2 ^ Reg.DMC_LAST_BAD.line.width ∧
         u.rd Reg.DMC_LAST_BAD_SRC.region = r.region % 2 ^ Reg.DMC_LAST_BAD_SRC.region.width ∧
         (r.region ≠ 8 → Tells 0x0302 [w r.line, w k, w r.region, w r.cls] s u) ∧
         u.dram.refetch = s.dram.refetch.erase r ∧
         u.dram.lines = s.dram.lines ∧
         Frame [.regs, .out, .evt, .hkc, .ops, .job, .sieve, .check, .cal, .dram, .pair, .power] s u) ∧
    (∀ (line region gen : Nat),
       (s.dram.lastLine + s.whiskPeriod ≤ s.now) →
       (s.rd Reg.DMC_STATUS.ready ≠ 0) →
       (s.classWaits 3 = false) →
       (s.dram.scrubOp = false) →
       (s.rd Reg.DMC_SCRUB_POS.line = line) →
       (s.whiskSkips line = false) →
       (tabFind s.dram.allocs line = some (region, gen)) →
       (s.readFault line region gen = none) →
       NextWith (exec (.whiskLine .good) s) fun u =>
         u.rd Reg.DMC_SCRUB_POS.line = (if line + 1 < s.whiskLines then line + 1 else 0) % 2 ^ Reg.DMC_SCRUB_POS.line.width ∧
         u.dram = { s.dram with lastLine := s.now, slots := u.dram.slots } ∧
         RegsBut [Reg.DMC_SCRUB_POS.line] s u ∧
         Frame [.regs, .dram] s u) ∧
    (∀ (x : Transfer) (line region gen k : Nat),
       (s.dram.lastLine + s.whiskPeriod ≤ s.now) →
       (s.rd Reg.DMC_STATUS.ready ≠ 0) →
       (s.classWaits 3 = false) →
       (s.dram.scrubOp = false) →
       (s.rd Reg.DMC_SCRUB_POS.line = line) →
       (s.whiskSkips line = false) →
       (tabFind s.dram.allocs line = some (region, gen)) →
       (s.readFault line region gen = some k) →
       (region < 5) →
       NextWith (exec (.whiskLine x) s) fun u =>
         u.rd Reg.DMC_SCRUB_POS.line = (if line + 1 < s.whiskLines then line + 1 else 0) % 2 ^ Reg.DMC_SCRUB_POS.line.width ∧
         u.dramLine line = lineOf line (s.dramLine line).data region gen true ∧
         TabBut line s.dram.lines u.dram.lines ∧
         Counted Reg.DMC_SCRUB_ERR.dram 1 s u ∧
         Tells 0x0303 [w region, w line] s u ∧
         Frame [.regs, .out, .evt, .hkc, .ops, .job, .sieve, .check, .cal, .dram, .pair, .power, .freeCnt] s u) ∧
    (∀ (line : Nat),
       (s.dram.lastLine + s.whiskPeriod ≤ s.now) →
       (s.rd Reg.DMC_STATUS.ready ≠ 0) →
       (s.classWaits 3 = false) →
       (s.dram.scrubOp = false) →
       (s.rd Reg.DMC_SCRUB_POS.line = line) →
       (s.whiskSkips line = false) →
       (tabFind s.dram.allocs line = none) →
       ((s.rd Reg.DMC_STATUS.sc_failed).testBit (s.placeOf line).sc = false) →
       NextWith (exec (.whiskLine .good) s) fun u =>
         u.rd Reg.DMC_SCRUB_POS.line = (if line + 1 < s.whiskLines then line + 1 else 0) % 2 ^ Reg.DMC_SCRUB_POS.line.width ∧
         u.dramLine line = freeLine line ∧
         TabBut line s.dram.lines u.dram.lines ∧
         RegsBut [Reg.DMC_SCRUB_POS.line] s u ∧
         Frame [.regs, .dram] s u) ∧
    (∀ (x : Transfer) (line : Nat),
       (s.dram.lastLine + s.whiskPeriod ≤ s.now) →
       (s.rd Reg.DMC_STATUS.ready ≠ 0) →
       (s.classWaits 3 = false) →
       (s.dram.scrubOp = false) →
       (s.rd Reg.DMC_SCRUB_POS.line = line) →
       (s.whiskSkips line = true) →
       NextWith (exec (.whiskLine x) s) fun u =>
         u.rd Reg.DMC_SCRUB_POS.line = (if line + 1 < s.whiskLines then line + 1 else 0) % 2 ^ Reg.DMC_SCRUB_POS.line.width ∧
         u.dram = { s.dram with lastLine := s.now } ∧
         RegsBut [Reg.DMC_SCRUB_POS.line] s u ∧
         Frame [.regs, .dram] s u) ∧
    (∀ (mb : Bool),
       (s.cal.badGroups = []) →
       (s.cal.badShadow = []) →
       (s.dram.lastTrim + 2000 ≤ s.now) →
       NextWith (exec (.whiskTrimCheck false mb) s) fun u =>
         u.dram = { s.dram with lastTrim := s.now, trimPos := (s.dram.trimPos + 1) % (beamsOf s.variant / 32) } ∧
         Frame [.dram] s u) ∧
    (∀ (bad mb : Bool) (g : Nat),
       (s.cal.badGroups.find? (fun x => !s.cal.toldBad.contains x) = some g) →
       (s.mirrorWriting = false) →
       ((mb || s.mirrorFails g) = true) →
       NextWith (exec (.whiskTrimCheck bad mb) s) fun u =>
         g ∈ u.cal.badGroups ∧
         u.cal.live = s.cal.live ∧
         Tells 0x0305 [w g] s u ∧
         Frame [.regs, .out, .evt, .check, .cal, .dram] s u) ∧
    (∀ (bad : Bool) (g : Nat),
       (s.cal.badGroups.find? (fun x => !s.cal.toldBad.contains x) = some g) →
       (s.mirrorWriting = false) →
       (s.mirrorFails g = false) →
       NextWith (exec (.whiskTrimCheck bad false) s) fun u =>
         g ∉ u.cal.badGroups ∧
         u.cal.live = copyGroup g s.cal.live s.cal.mirror ∧
         Counted Reg.DMC_SCRUB_ERR.trim 1 s u ∧
         Frame [.regs, .out, .evt, .check, .cal, .dram] s u) ∧
    (∀ (temps : List Int) (c : Nat) (wide : Bool),
       (s.dram.train = none) →
       (s.rd Reg.DMC_STATUS.ready ≠ 0) →
       (s.jobQuiet = true ∨ s.jobSt = jobTurnaround) →
       (s.nextSweep temps = some (c, wide)) →
       (s.dram.due.contains c = false) →
       (c < 4) →
       NextWith (exec (.dramRetrainStart temps) s) fun u =>
         u.dram = { s.dram with train := some ⟨c, wide, false, temps.getD c 0⟩, widened := s.dram.widened || wide, swept := c :: s.dram.swept } ∧
         u.rd Reg.DMC_STATUS.sc_training = 2 ^ c ∧
         RegsBut [Reg.DMC_STATUS.sc_training] s u ∧
         Frame [.regs, .dram] s u) ∧
    (∀ (runs : List (List (Nat × Nat × Nat))) (pattern wide : Bool) (width lane c : Nat) (temp : Int),
       (s.dram.train = some ⟨c, wide, false, temp⟩) →
       (c < 4) →
       (s.dram.ports = []) →
       (narrowest (s.sweepRuns ⟨c, wide, false, temp⟩ runs) = (width, lane)) →
       (0 < width ∨ pattern = true) →
       NextWith (exec (.dramRetrainDone runs pattern) s) fun u =>
         u.dram.train = none ∧
         u.rd Reg.DMC_STATUS.sc_training = 0 ∧
         tabGet 0 u.dram.trained c = s.now ∧
         tabFind u.dram.temps c = some temp ∧
         Counted (Reg.DMC_TRAIN.count c) 1 s u ∧
         u.rd (Reg.DMC_TRAIN.width_min c) = width % 2 ^ (Reg.DMC_TRAIN.width_min c).width ∧
         u.rd (Reg.DMC_TRAIN.widen c) = b2n (width = 0) ∧
         u.rd (Reg.DMC_TRAIN.result c) = b2n (width = 0) ∧
         (width = 0 → u.dram.settings = s.dram.settings ∧ Raises [(0x030A, [w c, w lane])] s u) ∧
         RegsBut ([Reg.DMC_STATUS.sc_training, Reg.DMC_TRAIN.count c, Reg.DMC_TRAIN.width_min c, Reg.DMC_TRAIN.widen c, Reg.DMC_TRAIN.result c] ++ eventRegs) s u ∧
         Frame [.regs, .out, .evt, .dram] s u) ∧
    (∀ (runs : List (List (Nat × Nat × Nat))) (wide : Bool) (c : Nat) (temp : Int),
       (s.dram.train = some ⟨c, wide, false, temp⟩) →
       (c < 4) →
       (s.dram.ports = []) →
       ((narrowest (s.sweepRuns ⟨c, wide, false, temp⟩ runs)).1 = 0) →
       ((s.rd Reg.DMC_STATUS.sc_failed).testBit c = false) →
       NextWith (exec (.dramRetrainDone runs false) s) fun u =>
         u.dram.train = none ∧
         u.rd Reg.DMC_STATUS.sc_training = 0 ∧
         u.rd (Reg.DMC_TRAIN.result c) = 2 ∧
         u.rd Reg.DMC_STATUS.sc_failed = withBit (s.rd Reg.DMC_STATUS.sc_failed) c % 2 ^ Reg.DMC_STATUS.sc_failed.width ∧
         Tells 0x030B [w c, w 1] s u ∧
         u.dram.settings = s.dram.settings ∧
         Frame [.regs, .out, .evt, .hkc, .ops, .job, .sieve, .dram, .pair] s u) ∧
    (∀ (bad unv rest : List Nat) (loc : Nat),
       (s.dram.repairs = loc :: rest) →
       (s.jobSt = jobTurnaround) →
       (s.dram.repaired = false) →
       (s.dram.train = none) →
       (s.dram.retired.length < 64) →
       (s.dram.retired.contains (locRow loc) = false) →
       NextWith (exec (.dramRepair bad false unv) s) fun u =>
         u.dram = { s.dram with repairs := rest, repaired := true, retired := s.dram.retired ++ [locRow loc] } ∧
         u.rd Reg.DMC_REPAIR.pending = rest.length % 2 ^ Reg.DMC_REPAIR.pending.width ∧
         u.rd Reg.DMC_REPAIR.retired = (s.dram.retired.length + 1) % 2 ^ Reg.DMC_REPAIR.retired.width ∧
         Raises [(0x030E, [w (s.blockLine (locRow loc)), w (s.dram.retired.length + 1)])] s u ∧
         RegsBut ([Reg.DMC_REPAIR.pending, Reg.DMC_REPAIR.retired] ++ eventRegs) s u ∧
         Frame [.regs, .out, .evt, .dram, .power] s u) ∧
    (∀ (bad unv rest : List Nat) (loc : Nat),
       (s.dram.repairs = loc :: rest) →
       (s.jobSt = jobTurnaround) →
       (s.dram.repaired = false) →
       (s.dram.train = none) →
       NextWith (exec (.dramRepair bad true unv) s) fun u =>
         u.dram.repaired = true ∧
         loc ∈ u.dram.listed ∧
         Counted Reg.DMC_REPAIR.sppr 1 s u ∧
         Tells 0x030C [w (bitsOf loc 26 2), w (bitsOf loc 21 5), w (locRow loc)] s u ∧
         (bad = [] → unv = [] → s.rd Reg.DMC_STATUS.sc_failed = 0 → (s.rowLines loc).all (fun k => (s.dramLine k).crc = lineCrc k (s.dramLine k).data (s.dramLine k).region (s.dramLine k).gen (s.dramLine k).poison) = true → u.dram.lines = s.dram.lines ∧ u.dram.repairs = rest ∧ u.rd Reg.DMC_REPAIR.pending = rest.length % 2 ^ Reg.DMC_REPAIR.pending.width) ∧
         Frame [.regs, .out, .evt, .hkc, .ops, .job, .sieve, .check, .cal, .dram, .pair, .power, .freeCnt] s u) ∧
    (∀ (l : Location),
       (s.check.tests.contains l = true) →
       (l.kind = 1 → (s.rd Reg.DMC_STATUS.sc_training).testBit (bitsOf l.loc 26 2) = false) →
       NextWith (exec (.targetedSelftestDone l true) s) fun u =>
         u.check = { s.check with tests := s.check.tests.filter (fun x => x ≠ l) } ∧
         Frame [.check] s u) ∧
    (∀ (l : Location),
       (s.check.tests.contains l = true) →
       (l.kind = 1 → (s.rd Reg.DMC_STATUS.sc_training).testBit (bitsOf l.loc 26 2) = false) →
       NextWith (exec (.targetedSelftestDone l false) s) fun u =>
         Tells 0x0541 [w l.kind, w l.loc] s u ∧
         Tells 0x0540 [w l.kind, w l.loc] s u ∧
         Counted Reg.CHECK_LASTING.judged 1 s u ∧
         u.rd Reg.CHECK_LAST_LOC.kind = l.kind % 2 ^ Reg.CHECK_LAST_LOC.kind.width ∧
         l ∉ u.check.tests ∧
         Frame [.regs, .out, .evt, .check, .win, .dram, .power] s u)

/-- R280, R290, R291, R292: a refresh closes the rows of its subchannel, and under PANIC up to four are postponed. At each
whole microsecond the activate budgets start again, and every 32 ms the activate counts. A region's size is written while the
job is IDLE and 16 units remain to the geometry spool: the bases follow in address order, and every line of DRAM is discarded;
otherwise the write does nothing. -/
def Obligations.RefreshWindowsAndRegions : Prop :=
  ∀ (s : State),
    (∀ (sc : Nat),
       (s.rd Reg.DMC_STATUS.panic = 0 ∨ 4 ≤ tabGet 0 s.dram.debt sc) →
       NextWith (exec (.refreshDue sc) s) fun u =>
         u.dram = { s.dram with openRow := tabKeep (fun k => k / 32 ≠ sc) s.dram.openRow } ∧
         Frame [.dram] s u) ∧
    (∀ (sc : Nat),
       (s.rd Reg.DMC_STATUS.panic ≠ 0) →
       (tabGet 0 s.dram.debt sc < 4) →
       NextWith (exec (.refreshDue sc) s) fun u =>
         tabGet 0 u.dram.debt sc = tabGet 0 s.dram.debt sc + 1 ∧
         TabBut sc s.dram.debt u.dram.debt ∧
         u.dram.openRow = s.dram.openRow ∧
         Frame [.dram] s u) ∧
    ((s.ns / 1000 ≠ s.dram.actWindow) →
     NextWith (exec (.activateWindow) s) fun u =>
       u.dram = { s.dram with actWindow := s.ns / 1000, budget := [], throttled := [] } ∧
       Frame [.dram] s u) ∧
    ((s.dram.actClear + 32000000 ≤ s.now) →
     NextWith (exec (.activateCountClear) s) fun u =>
       u.dram = { s.dram with actClear := s.now, acts := [] } ∧
       Frame [.dram] s u) ∧
    (∀ (r size : Nat),
       (2 ≤ r) →
       (r ≤ 7) →
       (s.jobSt = jobIdle) →
       (size < 256) →
       (size ≠ s.rd (Reg.DMC_REGION.size r)) →
       (([2, 3, 4, 5, 6, 7, 8].map (fun k => if k = r then size else s.rd (Reg.DMC_REGION.size k))).sum + 16 ≤ s.units) →
       NextWith (exec (.regionWrite r size) s) fun u =>
         u.rd (Reg.DMC_REGION.size r) = size ∧
         u.rd (Reg.DMC_REGION.size 1) = s.units - ([2, 3, 4, 5, 6, 7, 8].map (fun k => if k = r then size else s.rd (Reg.DMC_REGION.size k))).sum ∧
         (∀ k ∈ List.range 9, 2 ≤ k → k ≠ r → u.rd (Reg.DMC_REGION.size k) = s.rd (Reg.DMC_REGION.size k)) ∧
         u.rd (Reg.DMC_REGION.base 2) = 0 ∧
         (∀ k ∈ List.range 8, 2 ≤ k → u.rd (Reg.DMC_REGION.base (k + 1)) = u.rd (Reg.DMC_REGION.base k) + u.rd (Reg.DMC_REGION.size k)) ∧
         u.rd (Reg.DMC_REGION.base 1) = u.rd (Reg.DMC_REGION.base 8) + u.rd (Reg.DMC_REGION.size 8) ∧
         u.dram.lines = [] ∧
         Frame [.regs, .evt, .codec, .check, .cal, .dram] s u) ∧
    (∀ (r size : Nat),
       (s.jobSt ≠ jobIdle ∨ r < 2 ∨ 7 < r ∨ s.units < ([2, 3, 4, 5, 6, 7, 8].map (fun k => if k = r then size else s.rd (Reg.DMC_REGION.size k))).sum + 16) →
       NextWith (exec (.regionWrite r size) s) fun u =>
         u = s)

/-- R97, R314, R317, R319, R320: once every launched tick of a stripe that is over is final, its signature over those entries
and its record signature (0 with the record off) are latched with the ticks and the flag bytes counted, and event 0x0546 tells
it, once. A record chunk whose band is done goes to the spool of stream 0 with the values of its pixels; with no room the
stripe falls back to its signature, event 0x0542. -/
def Obligations.SignaturesAndRecordChunks : Prop :=
  ∀ (s : State),
    (∀ (x : Stripe),
       (s.stripeToSign = some x) →
       (s.stripe x.d.seq = some x) →
       NextWith (exec (.signatureFinal) s) fun u =>
         u.rd Reg.CHECK_BURGEE_HI.sig_hi = burgee s.variant (s.rd Reg.GLOBAL_JOB_ID.job) x (s.finalEntries x) / 2 ^ 32 % 2 ^ 32 ∧
         u.rd Reg.CHECK_BURGEE_LO.sig_lo = burgee s.variant (s.rd Reg.GLOBAL_JOB_ID.job) x (s.finalEntries x) % 2 ^ 32 ∧
         (x.lat.recMode = 0 → u.rd Reg.CHECK_RECSIG_HI.sig_hi = 0 ∧ u.rd Reg.CHECK_RECSIG_LO.sig_lo = 0) ∧
         (x.lat.recMode ≠ 0 → u.rd Reg.CHECK_RECSIG_LO.sig_lo = s.recSig x % 2 ^ 32) ∧
         u.rd Reg.CHECK_TICKS.ticks = x.launched % 2 ^ Reg.CHECK_TICKS.ticks.width ∧
         u.rd Reg.CHECK_FLAGS_IN.flags_in = flagsIn s.variant (s.finalEntries x) % 2 ^ Reg.CHECK_FLAGS_IN.flags_in.width ∧
         u.rd Reg.CHECK_STATUS.sig_ready = 1 ∧
         u.rd Reg.CHECK_STATUS.seq = x.d.seq % 2 ^ Reg.CHECK_STATUS.seq.width ∧
         u.stripe x.d.seq = some { x with sigDone := true } ∧
         StripesBut x.d.seq s u ∧
         Raises [(0x0546, [w x.d.seq])] s u ∧
         Frame [.regs, .out, .evt, .sieve, .check] s u) ∧
    (∀ (band seg : Nat) (x : Stripe),
       (s.recStripe = some x) →
       (x.lat.recMode = 1) →
       (x.recFallback = false) →
       (256 * seg < widthOf s.variant) →
       (256 * band < x.d.len) →
       ((x.d.seq, 32 * band + seg) ∉ s.check.recDone) →
       (s.bandDone x band seg = true) →
       (131104 ≤ s.recRoom) →
       (s.check.recs.length = 4) →
       NextWith (exec (.recordChunkCompress band seg) s) fun u =>
         (∃ c ∈ (u.recStream 0).spool, c.raw = s.recordRaw x band seg ∧ c.hdr.bandId = bandId x.d.seq band ∧ c.hdr.seq = (s.recStream 0).chunkSeq) ∧
         (u.recStream 0).spool.length = (s.recStream 0).spool.length + 1 ∧
         (x.d.seq, 32 * band + seg) ∈ u.check.recDone ∧
         u.sieve = s.sieve ∧
         Frame [.regs, .out, .check] s u) ∧
    (∀ (band seg : Nat) (x : Stripe),
       (s.recStripe = some x) →
       (s.stripe x.d.seq = some x) →
       (x.lat.recMode = 1) →
       (x.recFallback = false) →
       (256 * seg < widthOf s.variant) →
       (256 * band < x.d.len) →
       ((x.d.seq, 32 * band + seg) ∉ s.check.recDone) →
       (s.bandDone x band seg = true) →
       (s.recRoom < 32) →
       NextWith (exec (.recordChunkCompress band seg) s) fun u =>
         u.stripe x.d.seq = some { x with recFallback := true } ∧
         u.check.recs = s.check.recs ∧
         u.check.fellBack = true ∧
         Counted Reg.CHECK_LOST.fallbacks 1 s u ∧
         Raises [(0x0542, [w x.d.seq, w band])] s u ∧
         RegsBut (Reg.CHECK_LOST.fallbacks :: eventRegs) s u ∧
         Frame [.regs, .out, .evt, .sieve, .check] s u)

/-- R49, R322: an ACK of A = 0 and window 128 attaches a record stream: a SYNC opens it and CHECK_SPOOL shows it. An ACK of
the attached host drops from the spool every chunk whose last segment lies before A and keeps what is not acknowledged; a NAK
has the missing segments up to the highest one received sent again, and so has 1,000 µs without acknowledgement. 100 ms with
none acknowledged detach the stream, event 0x0545. ACKs from another host change nothing. -/
def Obligations.RecordStreamsReachTheHost : Prop :=
  ∀ (s : State),
    (∀ (src : Src) (b : Bytes) (g : DstSeg),
       (Heard s src b.length) →
       (parseDst jobTypes b = .seg g) →
       (g.stream < 4) →
       (g.typ = 2) →
       (g.ackLen = 0) →
       (g.window = 128) →
       (s.check.recs.length = 4) →
       NextWith (exec (.recordStreamAck src b) s) fun u =>
         (u.recStream g.stream).peer = some src ∧
         (u.recStream g.stream).ackA = (s.recStream g.stream).nextSeq ∧
         (u.recStream g.stream).spool = (s.recStream g.stream).spool ∧
         Sends (.udp 47102 src (dstBytes ⟨4, g.stream, 0, (s.recStream g.stream).nextSeq, 0, s.rd Reg.GLOBAL_JOB_ID.job, 0, s.ns % 2 ^ 32, toBE 1 (0x81 + g.stream) ++ zeros 3⟩)) s u ∧
         (u.rd Reg.CHECK_SPOOL.attached).testBit g.stream = true ∧
         RegsBut (Reg.CHECK_SPOOL.attached :: [Reg.PORT_RX_FRAMES.frames src.iface, Reg.PORT_TX_FRAMES.frames src.iface]) s u ∧
         Frame [.regs, .out, .check] s u) ∧
    (∀ (src : Src) (b : Bytes) (g : DstSeg),
       (Heard s src b.length) →
       (parseDst jobTypes b = .seg g) →
       (g.stream < 4) →
       (g.typ = 2) →
       (g.ackLen ≠ 0) →
       ((s.recStream g.stream).peer = some src) →
       ((s.recStream g.stream).queue = []) →
       (s.check.recs.length = 4) →
       NextWith (exec (.recordStreamAck src b) s) fun u =>
         (u.recStream g.stream).sent = ((s.recStream g.stream).sent.filter (fun e => !serialBefore 32 e.1 g.ackLen)).map (fun e => if ackedBy g.ackLen (leNat g.payload) e.1 then (e.1, e.2.1, [], e.2.2.2) else e) ∧
         (u.recStream g.stream).spool = (s.recStream g.stream).spool.drop ((s.recStream g.stream).sent.filter (fun e => serialBefore 32 e.1 g.ackLen && e.2.2.2)).length ∧
         (u.recStream g.stream).window = g.window ∧
         u.out = s.out ∧
         RegsBut [Reg.PORT_RX_FRAMES.frames src.iface] s u ∧
         Frame [.regs, .check] s u) ∧
    (∀ (src : Src) (b : Bytes) (g : DstSeg),
       (Heard s src b.length) →
       (parseDst jobTypes b = .seg g) →
       (g.stream < 4) →
       (g.typ = 2) →
       (g.ackLen ≠ 0) →
       ((s.recStream g.stream).peer ≠ some src) →
       NextWith (exec (.recordStreamAck src b) s) fun u =>
         RegsBut [Reg.PORT_RX_FRAMES.frames src.iface] s u ∧
         Frame [.regs] s u) ∧
    (∀ (src : Src) (b : Bytes) (g : DstSeg),
       (Heard s src b.length) →
       (parseDst jobTypes b = .seg g) →
       (g.stream < 4) →
       (g.typ = 3) →
       ((s.recStream g.stream).peer = some src) →
       ((s.recStream g.stream).queue = []) →
       (s.check.recs.length = 4) →
       NextWith (exec (.recordStreamNak src b) s) fun u =>
         (∀ e ∈ (s.recStream g.stream).sent, e.2.2.1 ≠ [] → serialBefore 32 e.1 g.ackLen = false → (leNat g.payload).testBit (serialDiff 32 g.ackLen e.1) = false → serialDiff 32 g.ackLen e.1 ≤ (setBits (leNat g.payload) 128).foldl Nat.max 0 → Sends (.udp 47102 src e.2.2.1) s u) ∧
         (u.recStream g.stream).window = g.window ∧
         RegsBut [Reg.PORT_RX_FRAMES.frames src.iface, Reg.PORT_TX_FRAMES.frames src.iface] s u ∧
         Frame [.regs, .out, .check] s u) ∧
    (∀ (k : Nat) (dest : Src),
       ((s.recStream k).peer = some dest) →
       (k < 4) →
       (s.check.recs.length = 4) →
       NextWith (exec (.recordResendTimeout k) s) fun u =>
         (∀ e ∈ (s.recStream k).sent, e.2.2.1 ≠ [] → e.2.1 + 1000000 ≤ s.now → Sends (.udp 47102 dest e.2.2.1) s u) ∧
         (u.recStream k).sent.map (fun e => (e.1, e.2.2)) = (s.recStream k).sent.map (fun e => (e.1, e.2.2)) ∧
         (u.recStream k).spool = (s.recStream k).spool ∧
         RegsBut [Reg.PORT_TX_FRAMES.frames dest.iface] s u ∧
         Frame [.regs, .out, .check] s u) ∧
    (∀ (k : Nat),
       ((s.recStream k).peer ≠ none) →
       (∃ e ∈ (s.recStream k).sent, e.2.2.1 ≠ []) →
       ((s.recStream k).lastAck + 100000000 ≤ s.now) →
       (k < 4) →
       (s.check.recs.length = 4) →
       NextWith (exec (.recordStreamIdleTimeout k) s) fun u =>
         (u.recStream k) = { (s.recStream k) with peer := none, sent := [], queue := [] } ∧
         (u.rd Reg.CHECK_SPOOL.attached).testBit k = false ∧
         Raises [(0x0545, [w k])] s u ∧
         RegsBut (Reg.CHECK_SPOOL.attached :: eventRegs) s u ∧
         Frame [.regs, .out, .evt, .check] s u)

/-- R347, R350, R362, R364, R368, R370: a healthy standby that gets the grant with HALYARD_IN low becomes active in the next
epoch, event 0x0708, and takes over the lanes; with HALYARD_IN high a standby waits, and after 1,000 µs event 0x0707 tells it.
An active that loses the grant, or hands over, drops its lanes and HALYARD and is standby; a rise of HALYARD_IN does the same
and locks the module out. A stripe interrupted with the standby synchronised is settled to its resume tick, event 0x0709,
otherwise it is abandoned, event 0x070F. The heartbeat toggles at its half-period while the module is healthy; when it is not,
or its HKC has not refreshed it in time, it stops, and a revert request is withdrawn. -/
def Obligations.GrantsDecideWhoDrivesTheLanes : Prop :=
  ∀ (s : State),
    ((s.role = roleStandby) →
     (s.pair.lockout = false) →
     (s.healthy = true) →
     NextWith (exec (.grantAssert false) s) fun u =>
       u.role = roleActive ∧
       u.rd Reg.PAIR_STATUS.halyard_out = 1 ∧
       u.rd Reg.PAIR_STATUS.grant = 1 ∧
       u.rd Reg.PAIR_STATUS.epoch = (Nat.max (s.rd Reg.PAIR_STATUS.epoch) s.pair.partnerEpoch + 1) % 65536 ∧
       u.rd Reg.PAIR_TAKEOVER.ready = 0 ∧
       Tells 0x0708 [w ((Nat.max (s.rd Reg.PAIR_STATUS.epoch) s.pair.partnerEpoch + 1) % 65536)] s u ∧
       u.pair.request = true ∧
       (s.pair.runsOn = false → u.pair.takeover = (s.sieve.stripes.find? (fun x => x.st = .exposing)).map (fun x => x.d.seq)) ∧
       (∀ k ∈ List.range 64, k < lanesOf s.variant → (u.lane k).lastStatus = none) ∧
       Frame [.regs, .out, .evt, .codec, .sieve, .lanes, .tx, .pair] s u) ∧
    ((s.role = roleStandby) →
     (s.pair.lockout = false) →
     NextWith (exec (.grantAssert true) s) fun u =>
       u.pair = { s.pair with refusedAt := some s.now } ∧
       u.rd Reg.PAIR_STATUS.grant = 1 ∧
       u.rd Reg.PAIR_STATUS.halyard_in = 1 ∧
       RegsBut [Reg.PAIR_STATUS.grant, Reg.PAIR_STATUS.halyard_in] s u ∧
       Frame [.regs, .pair] s u) ∧
    (∀ (a : Nat),
       (s.pair.refusedAt = some a) →
       (a + 1000000 ≤ s.now) →
       NextWith (exec (.roleRefusedTimeout) s) fun u =>
         u.pair = { s.pair with refusedAt := none } ∧
         Raises [(0x0707, [w (s.rd Reg.PAIR_STATUS.halyard_in), w (s.rd Reg.PAIR_STATUS.grant)])] s u ∧
         RegsBut eventRegs s u ∧
         Frame [.regs, .out, .evt, .pair] s u) ∧
    ((s.role = roleActive) →
     (s.holdsLanes = true) →
     NextWith (exec (.grantRemove) s) fun u =>
       u.role = roleStandby ∧
       u.rd Reg.PAIR_STATUS.halyard_out = 0 ∧
       u.rd Reg.PAIR_STATUS.grant = 0 ∧
       (∀ k ∈ List.range 64, k < lanesOf s.variant → u.laneSt k = lnDisabled) ∧
       u.pair.request = false ∧
       u.pair.lockout = false ∧
       u.pair.runsOn = s.current.isSome ∧
       Tells 0x0706 [w s.seqNow, wd s.lastTick] s u ∧
       Frame [.regs, .out, .evt, .sieve, .win, .render, .pec, .shot, .check, .cal, .lanes, .tx, .pair, .power] s u) ∧
    ((s.holdsLanes = false) →
     NextWith (exec (.grantRemove) s) fun u =>
       u.rd Reg.PAIR_STATUS.grant = 0 ∧
       u.pair = { s.pair with lockout := false, refusedAt := none } ∧
       RegsBut [Reg.PAIR_STATUS.grant] s u ∧
       Frame [.regs, .pair] s u) ∧
    ((s.role = roleActive) →
     (s.holdsLanes = true) →
     NextWith (exec (.halyardInRise) s) fun u =>
       u.role = roleStandby ∧
       u.rd Reg.PAIR_STATUS.halyard_out = 0 ∧
       (∀ k ∈ List.range 64, k < lanesOf s.variant → u.laneSt k = lnDisabled) ∧
       u.pair.lockout = true ∧
       u.pair.request = false ∧
       Tells 0x0707 [w 1, w (s.rd Reg.PAIR_STATUS.grant)] s u ∧
       Frame [.regs, .out, .evt, .sieve, .win, .render, .pec, .shot, .check, .cal, .lanes, .tx, .pair, .power] s u) ∧
    (∀ (seq a : Nat),
       (s.pair.handover = some (seq, a)) →
       (s.role = roleActive) →
       (s.handoverCommitted = true ∨ a + 100000 ≤ s.now) →
       NextWith (exec (.activeRelease) s) fun u =>
         u.role = roleStandby ∧
         u.rd Reg.PAIR_STATUS.halyard_out = 0 ∧
         (∀ k ∈ List.range 64, k < lanesOf s.variant → u.laneSt k = lnDisabled) ∧
         u.pair.handover = none ∧
         Tells 0x070A [w seq] s u ∧
         Frame [.regs, .out, .evt, .sieve, .win, .render, .pec, .shot, .check, .cal, .lanes, .tx, .pair, .power] s u) ∧
    (∀ (x : Stripe),
       (s.pair.takeover = some x.d.seq) →
       (s.stripe x.d.seq = some x) →
       (s.rd Reg.PAIR_TAKEOVER.ready = 0) →
       (s.lanesReported = true) →
       (s.pair.resumable = true) →
       NextWith (exec (.takeoverSettle) s) fun u =>
         (u.stripe x.d.seq).map (fun y => (y.st, y.fixed, y.computed, y.launched)) = some (.admitted, s.resumeTick x, s.resumeTick x, s.resumeTick x) ∧
         u.job.nextTick = x.nFirst + s.resumeTick x ∧
         u.rd Reg.PAIR_TAKEOVER.s_resume = s.resumeTick x % 2 ^ Reg.PAIR_TAKEOVER.s_resume.width ∧
         u.rd Reg.PAIR_TAKEOVER.ready = 1 ∧
         Tells 0x0709 [w x.d.seq, w (s.resumeTick x)] s u ∧
         StripesBut x.d.seq s u ∧
         Frame [.freeCnt, .regs, .out, .evt, .job, .sieve, .win, .render, .pec, .shot, .check, .cal, .pair] s u) ∧
    (∀ (x : Stripe),
       (s.pair.takeover = some x.d.seq) →
       (s.stripe x.d.seq = some x) →
       (s.rd Reg.PAIR_TAKEOVER.ready = 0) →
       (s.lanesReported = true) →
       (s.pair.resumable = false) →
       (s.jobSt = jobExposing) →
       NextWith (exec (.takeoverSettle) s) fun u =>
         u.stripe x.d.seq = some { x with st := .done, truncated := true } ∧
         u.rd Reg.PAIR_TAKEOVER.abandoned = 1 ∧
         u.pair = { s.pair with takeover := none } ∧
         u.jobSt = jobTurnaround ∧
         Tells 0x070F [w x.d.seq, w (toField 32 (wrongLines x.d ((s.resumeTick x : Int) - 1)).1), w (toField 32 (wrongLines x.d ((s.resumeTick x : Int) - 1)).2)] s u ∧
         StripesBut x.d.seq s u ∧
         Frame [.regs, .out, .evt, .hkc, .sieve, .trig, .pair] s u) ∧
    ((s.healthy = true) →
     (s.power.hbEdge + (if s.pair.revertAsked then 1000 * s.rd Reg.PAIR_HB.half_us / 2 else 1000 * s.rd Reg.PAIR_HB.half_us) ≤ s.now) →
     NextWith (exec (.heartbeatEdge) s) fun u =>
       u.power = { s.power with hbHigh := !s.power.hbHigh, hbEdge := s.now } ∧
       Frame [.power] s u) ∧
    ((s.healthy = false) →
     NextWith (exec (.heartbeatEdge) s) fun u =>
       u.power = { s.power with hbHigh := false } ∧
       u.pair = { s.pair with revertAsked := false } ∧
       RegsBut [Reg.PAIR_STATUS.revert_pending] s u ∧
       (s.pair.revertAsked = true → u.rd Reg.PAIR_STATUS.revert_pending = 0) ∧
       Frame [.regs, .power, .pair] s u) ∧
    ((s.hkc.alive + 1000000 * s.rd Reg.PAIR_HB.hkc_ms ≤ s.now) →
     NextWith (exec (.hkcRefreshTimeout) s) fun u =>
       u.power = { s.power with hbStale := true, hbHigh := false } ∧
       u.pair = { s.pair with revertAsked := false } ∧
       RegsBut [Reg.PAIR_STATUS.revert_pending] s u ∧
       (s.pair.revertAsked = true → u.rd Reg.PAIR_STATUS.revert_pending = 0) ∧
       Frame [.regs, .power, .pair] s u)

/-- R352, R353, R354, R355, R368: in a pair a HELLO goes out every 10 µs. A frame that fails its check is counted. A HELLO of
the same variant brings the link up, event 0x0701; one of another variant does not: event 0x0703, and the module is solo (R3).
50 µs without a good frame, or loss of block lock, bring it down, event 0x0702, and the active is unprotected. An ACK of the
standby frees the frames committed; 2 µs without progress resend every frame held, and 100 µs of that stop mirroring. A
REVERT_REQ is remembered and shown. The reasons of 0x0702 are the model's numbers (log 20). -/
def Obligations.PairLinkComesAndGoes : Prop :=
  ∀ (s : State),
    ((s.role ≠ roleSolo) →
     (s.pair.lastHello + 10000 ≤ s.now) →
     NextWith (exec (.helloSend) s) fun u =>
       Sends (.pair (frameBytes ⟨false, s.rd Reg.PAIR_STATUS.epoch, 0, 0, s.helloNow⟩)) s u ∧
       u.pair = { s.pair with lastHello := s.now } ∧
       Frame [.out, .pair] s u) ∧
    (∀ (m : Bytes),
       (s.role ≠ roleSolo) →
       (parsePair m = none) →
       NextWith (exec (.helloReceive m) s) fun u =>
         Counted Reg.PAIR_ERR.bad_frames 1 s u ∧
         RegsBut [Reg.PAIR_ERR.bad_frames] s u ∧
         Frame [.regs] s u) ∧
    (∀ (f : PairFrame) (m : Bytes) (v fw role job lastGen : Nat) (pref healthy synced : Bool),
       (s.role ≠ roleSolo) →
       (parsePair m = some f) →
       (f.body = .hello v fw pref healthy synced role job lastGen) →
       (v ≠ s.variant) →
       NextWith (exec (.helloReceive m) s) fun u =>
         u.rd Reg.PAIR_PARTNER.fw_rev = fw % 2 ^ Reg.PAIR_PARTNER.fw_rev.width ∧
         Tells 0x0703 [w v] s u ∧
         u.role = roleSolo ∧
         u.rd Reg.PAIR_STATUS.link_up = 0 ∧
         (s.rd Reg.PAIR_STATUS.link_up = 0 → s.rd Reg.PAIR_STATUS.grant = 0 → Raises [(0x0703, [w v])] s u ∧ RegsBut ([Reg.PAIR_STATUS.role, Reg.PAIR_PARTNER.fw_rev, Reg.PAIR_PARTNER.healthy, Reg.PAIR_PARTNER.variant] ++ eventRegs) s u) ∧
         Frame [.regs, .out, .evt, .lanes, .tx, .pair] s u) ∧
    (∀ (f : PairFrame) (m : Bytes) (v fw role job lastGen : Nat) (pref healthy synced : Bool),
       (s.role ≠ roleSolo) →
       (parsePair m = some f) →
       (f.body = .hello v fw pref healthy synced role job lastGen) →
       (v = s.variant) →
       (s.rd Reg.PAIR_STATUS.link_up = 0) →
       NextWith (exec (.helloReceive m) s) fun u =>
         u.rd Reg.PAIR_STATUS.link_up = 1 ∧
         u.rd Reg.PAIR_PARTNER.healthy = b2n healthy ∧
         u.rd Reg.PAIR_PARTNER.fw_rev = fw % 2 ^ Reg.PAIR_PARTNER.fw_rev.width ∧
         u.rd Reg.PAIR_STATUS.epoch = (if s.rd Reg.PAIR_STATUS.epoch < f.epoch then f.epoch % 65536 else s.rd Reg.PAIR_STATUS.epoch) ∧
         u.pair.partnerSynced = synced ∧
         u.pair.partnerEpoch = f.epoch ∧
         Tells 0x0701 [w v, w fw] s u ∧
         (s.role = roleStandby → s.pair.runsOn = false → Raises [(0x0701, [w v, w fw])] s u ∧ RegsBut ([Reg.PAIR_STATUS.link_up, Reg.PAIR_STATUS.epoch, Reg.PAIR_PARTNER.fw_rev, Reg.PAIR_PARTNER.healthy, Reg.PAIR_PARTNER.variant] ++ eventRegs) s u ∧ Frame [.regs, .out, .evt, .pair] s u) ∧
         Frame [.regs, .out, .evt, .sieve, .pair] s u) ∧
    ((s.rd Reg.PAIR_STATUS.link_up = 1) →
     (s.pair.lastGood + 50000 ≤ s.now) →
     NextWith (exec (.pairLinkTimeout) s) fun u =>
       u.rd Reg.PAIR_STATUS.link_up = 0 ∧
       u.rd Reg.PAIR_STATUS.synced = 0 ∧
       u.rd Reg.PAIR_STATUS.revert_pending = 0 ∧
       u.rd Reg.PAIR_HOLD_CNT.stripes = 0 ∧
       u.pair.partnerSynced = false ∧
       u.pair.revertAsked = false ∧
       (s.role = roleActive → u.rd Reg.PAIR_STATUS.unprotected = 1) ∧
       Tells 0x0702 [w 2] s u ∧
       RegsBut ([Reg.PAIR_STATUS.link_up, Reg.PAIR_STATUS.synced, Reg.PAIR_STATUS.revert_pending, Reg.PAIR_STATUS.unprotected, Reg.PAIR_HOLD_CNT.stripes] ++ eventRegs) s u ∧
       Frame [.regs, .out, .evt, .pair] s u) ∧
    ((s.rd Reg.PAIR_STATUS.link_up = 1) →
     NextWith (exec (.pairLinkBlockLockLoss) s) fun u =>
       u.pair.lock = false ∧
       u.rd Reg.PAIR_STATUS.link_up = 0 ∧
       u.rd Reg.PAIR_STATUS.synced = 0 ∧
       u.rd Reg.PAIR_STATUS.revert_pending = 0 ∧
       u.rd Reg.PAIR_HOLD_CNT.stripes = 0 ∧
       u.pair.partnerSynced = false ∧
       u.pair.revertAsked = false ∧
       (s.role = roleActive → u.rd Reg.PAIR_STATUS.unprotected = 1) ∧
       Tells 0x0702 [w 1] s u ∧
       RegsBut ([Reg.PAIR_STATUS.link_up, Reg.PAIR_STATUS.synced, Reg.PAIR_STATUS.revert_pending, Reg.PAIR_STATUS.unprotected, Reg.PAIR_HOLD_CNT.stripes] ++ eventRegs) s u ∧
       Frame [.regs, .out, .evt, .pair] s u) ∧
    (∀ (f : PairFrame) (m : Bytes) (g : Nat),
       (s.role = roleActive) →
       (parsePair m = some f) →
       (f.body = .ack g) →
       (g < 2 ^ 32) →
       (serialBefore 32 (s.rd Reg.PAIR_GEN_ACK.gen) g = true) →
       (s.pair.probeAt = none) →
       NextWith (exec (.pairAckReceive m) s) fun u =>
         u.rd Reg.PAIR_GEN_ACK.gen = g ∧
         u.pair.store = s.pair.store.filter (fun x => serialBefore 32 g x.1) ∧
         u.pair.progress = s.now ∧
         u.pair.resending = none ∧
         RegsBut [Reg.PAIR_GEN_ACK.gen] s u ∧
         Frame [.regs, .pair] s u) ∧
    (∀ (f : PairFrame) (m : Bytes),
       (s.role = roleActive) →
       (parsePair m = some f) →
       (f.body = .revertReq) →
       NextWith (exec (.revertReqReceive m) s) fun u =>
         u.pair.revertGot = true ∧
         u.rd Reg.PAIR_STATUS.revert_pending = 1 ∧
         RegsBut [Reg.PAIR_STATUS.revert_pending] s u ∧
         Frame [.regs, .pair] s u) ∧
    ((s.role = roleActive) →
     (s.pair.store ≠ []) →
     (s.pair.mirrorDown = false) →
     (s.pair.progress + 2000 ≤ s.now) →
     NextWith (exec (.mirrorResendTimeout) s) fun u =>
       (∀ e ∈ s.pair.store, Sends (.pair (frameBytes { e.2 with resend := true })) s u) ∧
       u.pair = { s.pair with resending := some (s.pair.resending.getD s.now), progress := s.now } ∧
       (s.pair.resending = none → Counted Reg.PAIR_ERR.resends 1 s u) ∧
       RegsBut [Reg.PAIR_ERR.resends] s u ∧
       Frame [.regs, .out, .pair] s u) ∧
    (∀ (a : Nat),
       (s.pair.resending = some a) →
       (s.role = roleActive) →
       (a + 100000 ≤ s.now) →
       (s.pair.mirrorDown = false) →
       NextWith (exec (.mirrorStallTimeout) s) fun u =>
         u.pair = { s.pair with mirrorDown := true, copied := false } ∧
         u.rd Reg.PAIR_STATUS.unprotected = 1 ∧
         Tells 0x0702 [w 3] s u ∧
         RegsBut (Reg.PAIR_STATUS.unprotected :: eventRegs) s u ∧
         Frame [.regs, .out, .evt, .pair] s u)

/-- R354, R357, R358, R367: a standby commits the next generation on arrival and acknowledges it; a later one waits, and one
already committed is discarded. A tick's entry and its final form enter the tick log; pieces of a bank of 1,024 entries
gather, and TRIM_COMMIT with the right CRC installs the bank as live and shadow, at the end of the stripe it names when that
still runs; POINTERS give the job state, CTX an image, HANDOVER the stripe. SYNC_COPY pieces gather outside the generations,
and the last one installs the bank. -/
def Obligations.StandbyCommitsInOrder : Prop :=
  ∀ (s : State),
    (∀ (f : PairFrame) (m : Bytes) (b : Bytes),
       (Commits s m { f with body := .tlogFix b }) →
       (s.stripe (beAt b 5 3) = none) →
       NextWith (exec (.tlogFixReceive m) s) fun u =>
         Committed f s u ∧
         (∃ e ∈ u.shot.tlog, e.n = beAt b 0 5 ∧ e.computed = true ∧ e.seq = beAt b 5 3) ∧
         u.job.nextTick = beAt b 0 5 + 1 ∧
         Frame [.out, .job, .shot, .pair] s u) ∧
    (∀ (f : PairFrame) (m : Bytes) (b : Bytes) (x : Stripe),
       (Commits s m { f with body := .tlogFix b }) →
       ((beAt b 8 4).testBit 27 = false) →
       (s.stripe (beAt b 5 3) = some x) →
       (x.latch.isSome = true) →
       NextWith (exec (.tlogFixReceive m) s) fun u =>
         Committed f s u ∧
         (∃ e ∈ u.shot.tlog, e.n = beAt b 0 5 ∧ e.seq = beAt b 5 3 ∧ e.s = beAt b 8 4 % 2 ^ 25 ∧ e.dk1 = (parseFix b 0 0).dk1) ∧
         (u.stripe (beAt b 5 3)).map (fun y => (y.st, y.fixed)) = some (.exposing, beAt b 8 4 % 2 ^ 25 + 1) ∧
         StripesBut (beAt b 5 3) s u ∧
         u.job.nextTick = beAt b 0 5 + 1 ∧
         u.pair.lastFix = some (beAt b 5 3, beAt b 8 4 % 2 ^ 25) ∧
         Frame [.regs, .out, .evt, .job, .sieve, .shot, .dram, .check, .pair] s u) ∧
    (∀ (f : PairFrame) (m : Bytes) (b : Bytes),
       (Commits s m { f with body := .tlogFinal b }) →
       (s.shot.tlog.find? (fun e => e.n = beAt b 0 5) = none) →
       NextWith (exec (.tlogFinalReceive m) s) fun u =>
         Committed f s u ∧
         (∃ e ∈ u.shot.tlog, e.n = beAt b 0 5 ∧ e.final = true) ∧
         Frame [.out, .shot, .pair] s u) ∧
    (∀ (f : PairFrame) (m : Bytes) (b : Bytes) (old : TickEntry),
       (Commits s m { f with body := .tlogFinal b }) →
       (s.shot.tlog.find? (fun e => e.n = beAt b 0 5) = some old) →
       NextWith (exec (.tlogFinalReceive m) s) fun u =>
         Committed f s u ∧
         (∃ e ∈ u.shot.tlog, e.n = beAt b 0 5 ∧ e.launched = true ∧ e.tickSent = true) ∧
         u.pair.lastFinal = some (beAt b 5 3, beAt b 8 4 % 2 ^ 25) ∧
         Frame [.regs, .out, .evt, .sieve, .win, .render, .pec, .shot, .check, .cal, .pair] s u) ∧
    (∀ (f : PairFrame) (m : Bytes) (first : Nat) (es : List Nat),
       (Commits s m { f with body := .trim first es }) →
       NextWith (exec (.trimReceive m) s) fun u =>
         Committed f s u ∧
         u.pair.trimIn = pieceInto s.pair.trimIn first es ∧
         Frame [.out, .pair] s u) ∧
    (∀ (f : PairFrame) (m : Bytes) (seq : Nat),
       (Commits s m { f with body := .trimCommit seq (crc32c (bankBytes s.variant s.pair.trimIn)) }) →
       ((s.stripe seq).any running = false) →
       NextWith (exec (.trimCommitReceive m) s) fun u =>
         Committed f s u ∧
         u.cal.live = s.pair.trimIn ∧
         u.cal.shadow = s.pair.trimIn ∧
         u.pair.trimHeld = true ∧
         (s.rd Reg.DMC_STATUS.sc_failed = 0 → Frame [.out, .cal, .pair] s u) ∧
         Frame [.regs, .out, .evt, .check, .cal, .dram, .pair, .power] s u) ∧
    (∀ (f : PairFrame) (m : Bytes) (seq : Nat),
       (Commits s m { f with body := .trimCommit seq (crc32c (bankBytes s.variant s.pair.trimIn)) }) →
       ((s.stripe seq).any running = true) →
       NextWith (exec (.trimCommitReceive m) s) fun u =>
         Committed f s u ∧
         u.pair.trimDue = some (seq, s.pair.trimIn) ∧
         Frame [.out, .pair] s u) ∧
    (∀ (f : PairFrame) (m : Bytes) (p : Pointers),
       (Commits s m { f with body := .pointers p }) →
       (p.job < 8) →
       NextWith (exec (.pointersReceive m) s) fun u =>
         Committed f s u ∧
         u.pair.pointers = some p ∧
         u.jobSt = p.job) ∧
    (∀ (f : PairFrame) (m : Bytes) (p : Pointers),
       (Commits s m { f with body := .pointers p }) →
       (p.stripes = []) →
       (p.job ≠ s.jobSt) →
       (p.job < 8) →
       NextWith (exec (.pointersReceive m) s) fun u =>
         Committed f s u ∧
         u.pair.pointers = some p ∧
         u.jobSt = p.job ∧
         (0x0A02, [w s.jobSt, w p.job]) ∈ u.hkc.late ∧
         RegsBut [Reg.GLOBAL_JOB.state] s u ∧
         Frame [.regs, .out, .hkc, .ops, .pair] s u) ∧
    (∀ (f : PairFrame) (m : Bytes) (c : Bytes),
       (Commits s m { f with body := .ctx c }) →
       NextWith (exec (.ctxReceive m) s) fun u =>
         Committed f s u ∧
         tabFind u.pair.ctx (parseDcf c).stream = some c ∧
         TabBut (parseDcf c).stream s.pair.ctx u.pair.ctx ∧
         Frame [.out, .pair] s u) ∧
    (∀ (f : PairFrame) (m : Bytes) (seq tick : Nat),
       (Commits s m { f with body := .handover seq tick }) →
       NextWith (exec (.handoverReceive m) s) fun u =>
         Committed f s u ∧
         u.pair.handover = some (seq, tick) ∧
         Frame [.out, .pair] s u) ∧
    (∀ (f : PairFrame) (m : Bytes) (first : Nat) (es : List Nat),
       (parsePair m = some { f with body := .trim first es }) →
       (s.role = roleStandby) →
       (s.rd Reg.PAIR_STATUS.link_up = 1) →
       (s.rd Reg.PAIR_STATUS.epoch ≤ f.epoch) →
       (serialBefore 32 s.pair.committed f.gen = true) →
       (f.gen ≠ (s.pair.committed + 1) % 2 ^ 32) →
       (∀ q ∈ s.pair.waiting, q.gen ≠ f.gen) →
       NextWith (exec (.trimReceive m) s) fun u =>
         u.pair = { s.pair with lastGood := s.now, lock := true, partnerEpoch := f.epoch, waiting := s.pair.waiting ++ [{ f with body := .trim first es }] } ∧
         Frame [.pair] s u) ∧
    (∀ (f : PairFrame) (m : Bytes) (first : Nat) (es : List Nat),
       (parsePair m = some { f with body := .trim first es }) →
       (s.role = roleStandby) →
       (serialBefore 32 s.pair.committed f.gen = false) →
       NextWith (exec (.trimReceive m) s) fun u =>
         u.pair = { s.pair with lastGood := s.now, lock := true, partnerEpoch := f.epoch } ∧
         Frame [.pair] s u) ∧
    (∀ (f : PairFrame) (m : Bytes) (first : Nat) (es : List Nat),
       (parsePair m = some { f with body := .syncTrim first es }) →
       (s.role = roleStandby) →
       (first + es.length < beamsOf s.variant) →
       NextWith (exec (.syncCopyReceive m) s) fun u =>
         u.pair = { s.pair with lastGood := s.now, lock := true, partnerEpoch := f.epoch, trimIn := pieceInto s.pair.trimIn first es } ∧
         Frame [.pair] s u) ∧
    (∀ (f : PairFrame) (m : Bytes) (first : Nat) (es : List Nat),
       (parsePair m = some { f with body := .syncTrim first es }) →
       (s.role = roleStandby) →
       (beamsOf s.variant ≤ first + es.length) →
       (s.pair.trimHeld = false) →
       NextWith (exec (.syncCopyReceive m) s) fun u =>
         u.cal.live = pieceInto s.pair.trimIn first es ∧
         u.cal.shadow = pieceInto s.pair.trimIn first es ∧
         u.pair.trimHeld = true ∧
         Frame [.regs, .out, .evt, .check, .cal, .dram, .pair, .power] s u)

/-- R372, R373, R376, R379, R386, R440: a feed that is good again sets its bit while PG does not hold it off, with event
0x0103 when it has been lost before; it ends a brown-out, and with the standby supply lost it is a power-on. A feed that is
lost, by its voltage or by PG, is not good, is counted, and is told by event 0x0101 or 0x0102. Losing the standby supply
leaves NVM and nothing else of the power state: every other register reads its reset value. The junction at the warning
threshold sets the warning, event 0x0105, and 5 °C below clears it. -/
def Obligations.FeedsAndTemperatureAreShown : Prop :=
  ∀ (s : State),
    (∀ (feed mv : Nat),
       (feed < 2) →
       (s.pgLow feed = false) →
       (s.rd (feedGoodFld feed) = 0) →
       (s.power.standby = true) →
       (s.power.sources.any (fun e => e.1 = 2) = false) →
       NextWith (exec (.feedGood feed mv) s) fun u =>
         u.rd (feedGoodFld feed) = 1 ∧
         u.rd (feedMvFld feed) = mv % 2 ^ (feedMvFld feed).width ∧
         Raises (if 0 < s.rd (feedLossFld feed) then [(0x0103, [w feed])] else []) s u ∧
         RegsBut ([feedGoodFld feed, feedMvFld feed] ++ eventRegs) s u ∧
         Frame [.regs, .out, .evt] s u) ∧
    (∀ (feed mv : Nat),
       (feed < 2) →
       (s.pgLow feed = false) →
       (s.rd (feedGoodFld feed) = 0) →
       (s.power.standby = true) →
       (s.power.sources.any (fun e => e.1 = 2) = true) →
       (s.rd Reg.RCU_PHASE.phase = 0) →
       (3 ≤ s.power.deepest) →
       NextWith (exec (.feedGood feed mv) s) fun u =>
         u.rd (feedGoodFld feed) = 1 ∧
         u.rd (feedMvFld feed) = mv % 2 ^ (feedMvFld feed).width ∧
         u.power.sources = s.power.sources.filter (fun e => e.1 ≠ 2) ∧
         u.rd Reg.RCU_PHASE.phase = 0 ∧
         (u.held = false → u.power.running = s.power.deepest ∧ u.power.phaseAt = s.now) ∧
         Raises (if 0 < s.rd (feedLossFld feed) then [(0x0103, [w feed])] else []) s u ∧
         RegsBut ([feedGoodFld feed, feedMvFld feed, Reg.RCU_PHASE.phase] ++ eventRegs) s u ∧
         Frame [.regs, .out, .evt, .power] s u) ∧
    (∀ (feed mv : Nat),
       (feed < 2) →
       (s.pgLow feed = false) →
       (s.rd (feedGoodFld feed) = 0) →
       (s.power.standby = false) →
       NextWith (exec (.feedGood feed mv) s) fun u =>
         u.power.standby = true ∧
         u.rd (feedGoodFld feed) = 1 ∧
         u.rd (feedMvFld feed) = mv % 2 ^ (feedMvFld feed).width ∧
         u.rd Reg.RCU_RESET_CAUSE.source = 1 ∧
         u.rd Reg.RCU_RESET_CAUSE.reach = 4 ∧
         u.rd Reg.RCU_PHASE.phase = 0 ∧
         u.power.upFrom = s.now ∧
         u.power.history.map (fun e => (e.source, e.reach)) = [(1, 4)]) ∧
    (∀ (feed mv : Nat),
       (feed < 2) →
       (s.pgLow feed = true ∨ s.rd (feedGoodFld feed) = 1) →
       NextWith (exec (.feedGood feed mv) s) fun u =>
         u.rd (feedMvFld feed) = mv % 2 ^ (feedMvFld feed).width ∧
         RegsBut [feedMvFld feed] s u ∧
         Frame [.regs] s u) ∧
    (∀ (feed mv : Nat),
       (feed < 2) →
       NextWith (exec (.feedLost feed mv) s) fun u =>
         u.rd (feedGoodFld feed) = 0 ∧
         u.rd (feedMvFld feed) = mv % 2 ^ (feedMvFld feed).width ∧
         (s.rd (feedGoodFld feed) ≠ 0 → Counted (feedLossFld feed) 1 s u) ∧
         Raises (if s.rd (feedGoodFld feed) = 0 then [] else [(if feed = 0 then 0x0101 else 0x0102, [w mv])]) s u ∧
         RegsBut (feedMvFld feed :: if s.rd (feedGoodFld feed) = 0 then [] else [feedGoodFld feed, feedLossFld feed] ++ eventRegs) s u ∧
         Frame [.regs, .out, .evt] s u) ∧
    (∀ (feed : Nat),
       (feed < 2) →
       NextWith (exec (.pgLow feed) s) fun u =>
         u.pgLow feed = true ∧
         u.rd (feedGoodFld feed) = 0 ∧
         (s.rd (feedGoodFld feed) ≠ 0 → Counted (feedLossFld feed) 1 s u) ∧
         Raises (if s.rd (feedGoodFld feed) = 0 then [] else [(if feed = 0 then 0x0101 else 0x0102, [w (s.rd (feedMvFld feed))])]) s u ∧
         RegsBut (if s.rd (feedGoodFld feed) = 0 then [] else [feedGoodFld feed, feedLossFld feed] ++ eventRegs) s u ∧
         Frame [.regs, .out, .evt, .power] s u) ∧
    (∀ (feed : Nat),
       NextWith (exec (.pgReleased feed) s) fun u =>
         u.pgLow feed = false ∧
         (u.pgLow (1 - feed) = if feed < 2 then s.pgLow (1 - feed) else s.pgLow 0) ∧
         Frame [.power] s u) ∧
    (∀ (f : Fld),
       ((fieldOfKey (fldKey f)).any (fun d => d.tok = .fused) = false) →
       (fldKey f ≠ fldKey Reg.PAIR_STATUS.halyard_in) →
       (fldKey f ≠ fldKey Reg.PAIR_STATUS.grant) →
       NextWith (exec (.standbySupplyLost) s) fun u =>
         u.rd f = f.rst ∧
         u.power.nvm = s.power.nvm ∧
         u.power.standby = false ∧
         u.power.history = [] ∧
         u.power.scratch = [] ∧
         u.power.sources = [] ∧
         u.pending = s.pending ∧
         u.codec = State.reset.codec ∧
         u.cal = CalState.init ∧
         u.evt = EvtState.init ∧
         u.dram.lines = []) ∧
    (∀ (tj : Int),
       (64 * (s.rd Reg.PWR_THERM.warn : Int) ≤ tj) →
       (s.rd Reg.PWR_THERM.warning = 0) →
       NextWith (exec (.thermalWarning tj) s) fun u =>
         u.rd Reg.PWR_THERM.warning = 1 ∧
         u.rd Reg.PWR_THERM.tj = toField 16 tj ∧
         u.power = { s.power with hbHigh := false } ∧
         Raises [(0x0105, [w (toField 32 tj)])] s u ∧
         RegsBut ([Reg.PWR_THERM.tj, Reg.PWR_THERM.warning] ++ eventRegs) s u ∧
         Frame [.regs, .out, .evt, .power] s u) ∧
    (∀ (tj : Int),
       (tj < 64 * (s.rd Reg.PWR_THERM.warn : Int) ∨ s.rd Reg.PWR_THERM.warning = 1) →
       NextWith (exec (.thermalWarning tj) s) fun u =>
         u.rd Reg.PWR_THERM.tj = toField 16 tj ∧
         RegsBut [Reg.PWR_THERM.tj] s u ∧
         Frame [.regs] s u) ∧
    (∀ (tj : Int),
       NextWith (exec (.thermalWarningClear tj) s) fun u =>
         (u.rd Reg.PWR_THERM.warning = if tj ≤ 64 * ((s.rd Reg.PWR_THERM.warn : Int) - 5) then 0 else s.rd Reg.PWR_THERM.warning) ∧
         u.rd Reg.PWR_THERM.tj = toField 16 tj ∧
         RegsBut [Reg.PWR_THERM.tj, Reg.PWR_THERM.warning] s u ∧
         Frame [.regs] s u)

/-- R375 to R379, R381, R386, R403, R414: RESET_N low for 1 µs or longer, the thermal trip, a brown-out, the watchdog, and the
engine and warm reset commands with their key are recognised resets of a module that is not held: the reset history and
RCU_RESET_CAUSE name source and reach, every long operation is over, every stream is closed, the stripes are gone; the first
three hold the module. RESET_N low for less than 250 ns changes nothing, and between 250 ns and 1 µs it either does or not.
Sources whose conditions do not hold change nothing but the junction shown. A released source leaves the module held while
another holds it; with the last one gone the start-up of the deepest reach begins. -/
def Obligations.ResetsRestartTheModule : Prop :=
  ∀ (s : State),
    (∀ (ns : Nat),
       (1000 ≤ ns) →
       (s.power.standby = true) →
       (s.held = false) →
       NextWith (exec (.resetNAssert ns false) s) fun u =>
         u.rd Reg.RCU_RESET_CAUSE.source = 3 ∧
         u.rd Reg.RCU_RESET_CAUSE.reach = s.reachOf 3 ∧
         u.power.history.head?.map (fun e => (e.source, e.reach)) = some (3, s.reachOf 3) ∧
         (∀ o ∈ u.ops.slots, opFinished o = true) ∧
         u.codec.streams = List.replicate 16 DstStream.closed ∧
         u.sieve = ⟨[], [], [], []⟩ ∧
         u.lanes.all (fun e => e.2.replay.isEmpty) = true ∧
         u.held = true) ∧
    (∀ (ns : Nat),
       (1000 ≤ ns) →
       (s.power.standby = true) →
       (s.held = false) →
       NextWith (exec (.resetNAssert ns true) s) fun u =>
         u.rd Reg.RCU_RESET_CAUSE.source = 3 ∧
         u.rd Reg.RCU_RESET_CAUSE.reach = s.reachOf 3 ∧
         u.power.history.head?.map (fun e => (e.source, e.reach)) = some (3, s.reachOf 3) ∧
         (∀ o ∈ u.ops.slots, opFinished o = true) ∧
         u.codec.streams = List.replicate 16 DstStream.closed ∧
         u.sieve = ⟨[], [], [], []⟩ ∧
         u.lanes.all (fun e => e.2.replay.isEmpty) = true ∧
         u.held = false) ∧
    (∀ (ns : Nat) (b : Bool),
       (250 ≤ ns) →
       (ns < 1000) →
       (s.power.standby = true) →
       (s.held = false) →
       NextWith (exec (.resetNAssert ns b) s) fun u =>
         u = s.bumpFree ∨ u.rd Reg.RCU_RESET_CAUSE.source = 3 ∧ u.power.history.head?.map (fun e => (e.source, e.reach)) = some (3, s.reachOf 3) ∧
         u.freeCnt = s.freeCnt + 1) ∧
    (∀ (ns : Nat) (b : Bool),
       (ns < 250) →
       NextWith (exec (.resetNAssert ns b) s) fun u =>
         u = s) ∧
    (∀ (src : Nat) (tj : Int),
       (src = 3 ∨ (src = 4 ∧ tj < 95 * 64) ∨ (src = 2 ∧ (s.rd Reg.PWR_FEED.a_good = 1 ∨ s.rd Reg.PWR_FEED.b_good = 1))) →
       (s.power.sources.any (fun e => e.1 = src) = true) →
       (s.power.sources.all (fun e => e.1 = src) = true) →
       (3 ≤ s.power.deepest) →
       (s.rd Reg.RCU_PHASE.phase = 0) →
       NextWith (exec (.resetRelease src tj) s) fun u =>
         u.power.sources = [] ∧
         u.held = false ∧
         u.power.running = s.power.deepest ∧
         u.rd Reg.RCU_PHASE.phase = 0 ∧
         u.power.phaseAt = s.now ∧
         RegsBut [Reg.RCU_PHASE.phase] s u ∧
         Frame [.regs, .power] s u) ∧
    (∀ (src : Nat) (tj : Int),
       (src = 3 ∨ (src = 4 ∧ tj < 95 * 64) ∨ (src = 2 ∧ (s.rd Reg.PWR_FEED.a_good = 1 ∨ s.rd Reg.PWR_FEED.b_good = 1))) →
       ((s.power.sources.filter (fun e => e.1 ≠ src)).any (fun e => levelSource e.1) = true) →
       NextWith (exec (.resetRelease src tj) s) fun u =>
         u = { s with power := { s.power with sources := s.power.sources.filter (fun e => e.1 ≠ src) } }) ∧
    (∀ (src : Nat) (tj : Int),
       ((src = 4 ∧ 95 * 64 ≤ tj) ∨ (src = 2 ∧ s.rd Reg.PWR_FEED.a_good = 0 ∧ s.rd Reg.PWR_FEED.b_good = 0) ∨ s.power.sources.any (fun e => e.1 = src) = false ∨ src ∉ [2, 3, 4]) →
       NextWith (exec (.resetRelease src tj) s) fun u =>
         u = s) ∧
    (∀ (tj : Int),
       (115 * 64 ≤ tj) →
       (s.power.standby = true) →
       (s.held = false) →
       NextWith (exec (.thermalTrip tj) s) fun u =>
         u.rd Reg.RCU_RESET_CAUSE.source = 4 ∧
         u.rd Reg.RCU_RESET_CAUSE.reach = s.reachOf 4 ∧
         u.power.history.head?.map (fun e => (e.source, e.reach)) = some (4, s.reachOf 4) ∧
         (∀ o ∈ u.ops.slots, opFinished o = true) ∧
         u.codec.streams = List.replicate 16 DstStream.closed ∧
         u.sieve = ⟨[], [], [], []⟩ ∧
         u.lanes.all (fun e => e.2.replay.isEmpty) = true ∧
         u.held = true ∧
         u.rd Reg.PWR_THERM.tj = toField 16 tj) ∧
    (∀ (tj : Int),
       (tj < 115 * 64 ∨ s.power.standby = false) →
       NextWith (exec (.thermalTrip tj) s) fun u =>
         u.rd Reg.PWR_THERM.tj = toField 16 tj ∧
         RegsBut [Reg.PWR_THERM.tj] s u ∧
         Frame [.regs] s u) ∧
    ((s.rd Reg.PWR_FEED.a_good = 0) →
     (s.rd Reg.PWR_FEED.b_good = 0) →
     (s.power.standby = true) →
     (s.held = false) →
     NextWith (exec (.brownOut) s) fun u =>
       u.rd Reg.RCU_RESET_CAUSE.source = 2 ∧
       u.rd Reg.RCU_RESET_CAUSE.reach = s.reachOf 2 ∧
       u.power.history.head?.map (fun e => (e.source, e.reach)) = some (2, s.reachOf 2) ∧
       (∀ o ∈ u.ops.slots, opFinished o = true) ∧
       u.codec.streams = List.replicate 16 DstStream.closed ∧
       u.sieve = ⟨[], [], [], []⟩ ∧
       u.lanes.all (fun e => e.2.replay.isEmpty) = true ∧
       u.held = true) ∧
    ((s.rd Reg.PWR_FEED.a_good = 1 ∨ s.rd Reg.PWR_FEED.b_good = 1 ∨ s.power.standby = false) →
     NextWith (exec (.brownOut) s) fun u =>
       u = s) ∧
    ((s.hkcUp = true) →
     (s.hkc.alive + 1000000 * s.rd Reg.GLOBAL_WDOG.timeout_ms ≤ s.now) →
     NextWith (exec (.watchdogExpiry) s) fun u =>
       u.rd Reg.RCU_RESET_CAUSE.source = 5 ∧
       u.rd Reg.RCU_RESET_CAUSE.reach = s.reachOf 5 ∧
       u.power.history.head?.map (fun e => (e.source, e.reach)) = some (5, s.reachOf 5) ∧
       (∀ o ∈ u.ops.slots, opFinished o = true) ∧
       u.codec.streams = List.replicate 16 DstStream.closed ∧
       u.sieve = ⟨[], [], [], []⟩ ∧
       u.lanes.all (fun e => e.2.replay.isEmpty) = true ∧
       u.hkc.alive = s.now) ∧
    ((s.hkcUp = false ∨ s.now < s.hkc.alive + 1000000 * s.rd Reg.GLOBAL_WDOG.timeout_ms) →
     NextWith (exec (.watchdogExpiry) s) fun u =>
       u = s) ∧
    ((s.hkcUp = true) →
     NextWith (exec (.warmReset 0xA5) s) fun u =>
       u.rd Reg.RCU_RESET_CAUSE.source = 6 ∧
       u.rd Reg.RCU_RESET_CAUSE.reach = 2 ∧
       u.power.history.head?.map (fun e => (e.source, e.reach)) = some (6, 2) ∧
       (∀ o ∈ u.ops.slots, opFinished o = true) ∧
       u.codec.streams = List.replicate 16 DstStream.closed ∧
       u.sieve = ⟨[], [], [], []⟩ ∧
       u.lanes.all (fun e => e.2.replay.isEmpty) = true ∧
       u.jobSt = jobIdle) ∧
    ((s.hkcUp = true) →
     (s.rd Reg.RCU_PHASE.phase = 8) →
     NextWith (exec (.engineReset 0xA5) s) fun u =>
       u.rd Reg.RCU_RESET_CAUSE.source = 7 ∧
       u.rd Reg.RCU_RESET_CAUSE.reach = 1 ∧
       u.power.history.head?.map (fun e => (e.source, e.reach)) = some (7, 1) ∧
       (∀ o ∈ u.ops.slots, opFinished o = true) ∧
       u.codec.streams = List.replicate 16 DstStream.closed ∧
       u.sieve = ⟨[], [], [], []⟩ ∧
       u.lanes.all (fun e => e.2.replay.isEmpty) = true ∧
       u.jobSt = jobFault ∧
       u.rd Reg.RCU_PHASE.phase = 4) ∧
    ((s.hkcUp = true) →
     (s.rd Reg.RCU_PHASE.phase = 8) →
     ((List.range (beamsOf s.variant / 64)).all (fun g => !s.mirrorFails g) = true) →
     NextWith (exec (.engineReset 0xA5) s) fun u =>
       u.cal.live = s.cal.mirror ∧
       u.cal.shadow = s.cal.mirror ∧
       u.cal.mirror = s.cal.mirror ∧
       Tells 0x080C [w 1, w 0] s u)

/-- R387: an engine or a warm reset command with another key than 0xA5 is ignored, the state is as before, and it is counted;
with the key it is a recognised reset. -/
def Obligations.ResetCommandsCarryTheKey : Prop :=
  ∀ (s : State),
    (s.hkcUp = true) →
    (∀ (key : Nat),
       (key ≠ 0xA5) →
       NextWith (exec (.engineReset key) s) fun u =>
         u = { s with power := { s.power with badKeys := s.power.badKeys + 1 } }) ∧
    (∀ (key : Nat),
       (key ≠ 0xA5) →
       NextWith (exec (.warmReset key) s) fun u =>
         u = { s with power := { s.power with badKeys := s.power.badKeys + 1 } }) ∧
    (NextWith (exec (.engineReset 0xA5) s) fun u =>
       u.rd Reg.RCU_RESET_CAUSE.source = 7 ∧
       u.power.badKeys = s.power.badKeys) ∧
    (NextWith (exec (.warmReset 0xA5) s) fun u =>
       u.rd Reg.RCU_RESET_CAUSE.source = 6 ∧
       u.power.badKeys = s.power.badKeys)

/-- R374, R380 to R384, R293, R311, R312, R221, R449: lock of the PLL ends P0, the fuses end P1 with the retained areas that
failed cleared and named, the straps end P2 with the sampled values of Table 14.9. P3 begins once SVC_NVM_EN_N is high; a
loaded image ends it, a load that fails marks its slot and asserts the NVM load failure source, and with no slot to try the
start-up halts with NVL_STATUS.hold set. P4 ends when every checker passes, and halts with the identity of the one that
failed, event 0x0547. P5 ends with the result of each subchannel; the end of lane bring-up ends P6, into P7, or into P8 where
lock is held or not asked for. A phase of P0 to P4 that overruns its limit halts the start-up. What arrives in another phase
changes nothing. -/
def Obligations.StartUpGoesPhaseByPhase : Prop :=
  ∀ (s : State),
    ((s.inPhase 0 = true) →
     (3 ≤ s.power.running) →
     NextWith (exec (.pllLock) s) fun u =>
       u.rd Reg.RCU_PHASE.phase = 1 ∧
       u.power.phaseAt = s.now ∧
       RegsBut [Reg.RCU_PHASE.phase] s u ∧
       Frame [.regs, .power] s u) ∧
    ((s.inPhase 0 = false) →
     NextWith (exec (.pllLock) s) fun u =>
       u = s) ∧
    (∀ (bad : Nat),
       (s.inPhase 1 = true) →
       (3 ≤ s.power.running) →
       NextWith (exec (.fuseRead bad) s) fun u =>
         u.rd Reg.RCU_PHASE.phase = 2 ∧
         u.rd Reg.RCU_RESET_CAUSE.retained_lost = bad % 128 ∧
         (u.power.history = if bad.testBit 0 then [] else s.power.history) ∧
         (u.rd Reg.RCU_RESET_CAUSE.count = if bad.testBit 0 then 0 else s.rd Reg.RCU_RESET_CAUSE.count) ∧
         (u.power.lastTick = if bad.testBit 1 then 0 else s.power.lastTick) ∧
         (u.power.laneTicks = if bad.testBit 2 then [] else s.power.laneTicks) ∧
         (u.pair.committed = if bad.testBit 3 then 0 else s.pair.committed) ∧
         (u.power.checkerId = if bad.testBit 4 then 0 else s.power.checkerId) ∧
         (u.rd Reg.NVL_STATUS.marked = if bad.testBit 5 then 0 else s.rd Reg.NVL_STATUS.marked) ∧
         (u.evt.tail = if bad.testBit 6 then [] else s.evt.tail) ∧
         u.power.scratch = s.power.scratch ∧
         Frame [.regs, .power, .pair, .evt] s u) ∧
    (∀ (bootsel clkmode ratio : Nat),
       (s.inPhase 2 = true) →
       (3 ≤ s.power.running) →
       NextWith (exec (.strapSampling bootsel clkmode ratio) s) fun u =>
         u.rd Reg.RCU_PHASE.phase = 3 ∧
         u.rd Reg.RCU_STRAPS.cfgr = ratio % 65536 / 4096 ∧
         (u.rd Reg.RCU_STRAPS.boot = if s.variant = 0 then bootsel % 4 else ratio % 65536 / 4096 / 4) ∧
         (u.rd Reg.RCU_STRAPS.clkmode = if s.variant = 0 then clkmode % 2 else ratio % 65536 / 4096 / 2 % 2) ∧
         (u.rd Reg.RCU_STRAPS.pref = if s.variant = 0 then ratio % 65536 / 4096 / 8 else ratio % 65536 / 4096 % 2) ∧
         (u.rd Reg.RCU_STRAPS.column = if s.variant = 0 then ratio % 65536 / 4096 % 8 else 0) ∧
         u.rd Reg.PAIR_CTRL.pref_active = u.rd Reg.RCU_STRAPS.pref ∧
         u.power.p3Begun = !s.power.svcLow ∧
         RegsBut [Reg.RCU_PHASE.phase, Reg.RCU_STRAPS.cfgr, Reg.RCU_STRAPS.boot, Reg.RCU_STRAPS.clkmode, Reg.RCU_STRAPS.pref, Reg.RCU_STRAPS.column, Reg.PAIR_CTRL.pref_active] s u ∧
         Frame [.regs, .power] s u) ∧
    (∀ (svc : Bytes) (i : Nat),
       (s.inPhase 3 = true) →
       (2 ≤ s.power.running) →
       (s.power.p3Begun = true) →
       (s.choice = .slot i) →
       (s.slotValid i = true) →
       (bodyOk (s.slotImage i) = true) →
       NextWith (exec (.optionLoading svc) s) fun u =>
         u.rd Reg.RCU_PHASE.phase = 4 ∧
         u.rd Reg.NVL_STATUS.slot = i % 2 ∧
         u.rd Reg.NVL_STATUS.hold = 0 ∧
         u.rd Reg.NVL_STATUS.fw_rev = beAt (s.slotImage i) 10 2 ∧
         u.rd (if i = 0 then Reg.NVL_GEN_A.gen else Reg.NVL_GEN_B.gen) = s.slotGen i ∧
         u.power.bootSlot = i ∧
         u.hkc.alive = s.now ∧
         u.power.phaseAt = s.now) ∧
    (∀ (svc : Bytes),
       (s.inPhase 3 = true) →
       (2 ≤ s.power.running) →
       (s.power.p3Begun = true) →
       (s.choice = .service) →
       (headerValid s.variant svc = true) →
       (bodyOk svc = true) →
       NextWith (exec (.optionLoading svc) s) fun u =>
         u.rd Reg.RCU_PHASE.phase = 4 ∧
         u.rd Reg.NVL_STATUS.fw_rev = beAt svc 10 2 ∧
         u.hkc.alive = s.now ∧
         u.power.nvm = s.power.nvm) ∧
    (∀ (svc : Bytes) (i : Nat),
       (s.inPhase 3 = true) →
       (s.power.p3Begun = true) →
       (s.choice = .slot i) →
       (i < 2) →
       ((s.slotValid i && bodyOk (s.slotImage i)) = false) →
       (s.rd Reg.RCU_STRAPS.boot = 2 ∨ s.marked i = false) →
       NextWith (exec (.optionLoading svc) s) fun u =>
         (u.rd Reg.NVL_STATUS.marked).testBit i = true ∧
         u.rd Reg.RCU_RESET_CAUSE.source = 10 ∧
         u.rd Reg.RCU_RESET_CAUSE.reach = 3 ∧
         u.rd Reg.RCU_PHASE.phase = 0) ∧
    (∀ (svc : Bytes),
       (s.inPhase 3 = true) →
       (s.power.p3Begun = true) →
       (s.choice = .service) →
       ((headerValid s.variant svc && bodyOk svc) = false) →
       NextWith (exec (.optionLoading svc) s) fun u =>
         u.rd Reg.RCU_RESET_CAUSE.source = 10 ∧
         u.rd Reg.NVL_STATUS.marked = s.rd Reg.NVL_STATUS.marked) ∧
    (∀ (svc : Bytes) (i : Nat),
       (s.inPhase 3 = true) →
       (s.power.p3Begun = true) →
       (s.choice = .none ∨ (s.rd Reg.RCU_STRAPS.boot = i ∧ i < 2 ∧ s.slotValid i = false ∧ s.marked i = true)) →
       NextWith (exec (.optionLoading svc) s) fun u =>
         u.rd Reg.NVL_STATUS.hold = 1 ∧
         u.rd Reg.RCU_PHASE.halted = 1 ∧
         u.rd Reg.RCU_PHASE.phase = 3 ∧
         RegsBut [Reg.NVL_STATUS.hold, Reg.RCU_PHASE.halted] s u ∧
         Frame [.regs] s u) ∧
    (∀ (svc : Bytes),
       (s.inPhase 3 = false ∨ s.power.p3Begun = false) →
       NextWith (exec (.optionLoading svc) s) fun u =>
         u = s) ∧
    (∀ (prog : List (Nat × Bytes)),
       (s.inPhase 3 = true) →
       (s.power.p3Begun = false) →
       NextWith (exec (.svcNvmEnN false prog) s) fun u =>
         u.power = { s.power with svcLow := false, p3Begun := true, phaseAt := s.now } ∧
         Frame [.power] s u) ∧
    (∀ (low : Bool) (prog : List (Nat × Bytes)),
       ((low = false ∧ (s.inPhase 3 = false ∨ s.power.p3Begun = true)) ∨ (low = true ∧ s.rd Reg.NVL_STATUS.hold = 0 ∧ s.power.sources.any (fun e => e.1 = 3) = false)) →
       NextWith (exec (.svcNvmEnN low prog) s) fun u =>
         u.power = { s.power with svcLow := low } ∧
         Frame [.power] s u) ∧
    (∀ (a : Nat) (b : Bytes),
       (s.rd Reg.NVL_STATUS.hold = 1 ∨ s.power.sources.any (fun e => e.1 = 3) = true) →
       NextWith (exec (.svcNvmEnN true [(a, b)]) s) fun u =>
         u.nvmBytes a b.length = b ∧
         TabKeeps ((List.range b.length).map (fun k => a + k)) s.power.nvm u.power.nvm ∧
         u.power.svcLow = true ∧
         Frame [.power] s u) ∧
    (∀ (prog : List (Nat × Bytes)),
       (s.rd Reg.NVL_STATUS.hold = 1 ∨ s.power.sources.any (fun e => e.1 = 3) = true) →
       NextWith (exec (.svcNvmEnN true prog) s) fun u =>
         u.power.nvm = (prog.foldl (fun (x : State) (p : Nat × Bytes) => x.nvmWrite p.1 p.2) s).power.nvm ∧
         u.power.svcLow = true ∧
         Frame [.power] s u) ∧
    (∀ (id : Nat),
       (s.inPhase 4 = true) →
       NextWith (exec (.checkerSelftest (some id)) s) fun u =>
         u.rd Reg.RCU_PHASE.halted = 1 ∧
         u.rd Reg.RCU_PHASE.phase = 4 ∧
         u.rd Reg.CHECK_SELFTEST.pass = 0 ∧
         u.rd Reg.CHECK_SELFTEST.failed_id = id % 2 ^ Reg.CHECK_SELFTEST.failed_id.width ∧
         u.power = { s.power with checkerId := id } ∧
         Raises [(0x0547, [w id])] s u ∧
         RegsBut ([Reg.RCU_PHASE.halted, Reg.CHECK_SELFTEST.pass, Reg.CHECK_SELFTEST.failed_id] ++ eventRegs) s u ∧
         Frame [.regs, .out, .evt, .power] s u) ∧
    ((s.inPhase 4 = true) →
     (2 ≤ s.power.running) →
     NextWith (exec (.checkerSelftest none) s) fun u =>
       u.rd Reg.RCU_PHASE.phase = 5 ∧
       u.rd Reg.CHECK_SELFTEST.pass = 1 ∧
       RegsBut [Reg.RCU_PHASE.phase, Reg.CHECK_SELFTEST.pass, Reg.CHECK_SELFTEST.failed_id] s u ∧
       Frame [.regs, .power] s u) ∧
    ((s.inPhase 4 = true) →
     (s.power.running = 1) →
     (s.role ≠ roleSolo) →
     NextWith (exec (.checkerSelftest none) s) fun u =>
       u.rd Reg.RCU_PHASE.phase = 6 ∧
       u.rd Reg.CHECK_SELFTEST.pass = 1 ∧
       RegsBut [Reg.RCU_PHASE.phase, Reg.CHECK_SELFTEST.pass, Reg.CHECK_SELFTEST.failed_id] s u ∧
       Frame [.regs, .power, .lanes] s u) ∧
    (∀ (failed : Option Nat),
       (s.inPhase 4 = false) →
       NextWith (exec (.checkerSelftest failed) s) fun u =>
         u = s) ∧
    (∀ (runs : List (List (Nat × Nat × Nat))) (noHppr : List Nat) (temps : List Int),
       (s.inPhase 5 = true) →
       (2 ≤ s.power.running) →
       NextWith (exec (.dramTraining runs noHppr temps) s) fun u =>
         u.rd Reg.RCU_PHASE.phase = 6 ∧
         u.rd Reg.DMC_STATUS.ready = b2n (u.rd Reg.DMC_STATUS.sc_failed = 0) ∧
         u.rd Reg.DMC_STATUS.degraded = b2n s.dram.chosen.isSome ∧
         (∀ c ∈ List.range 4, u.rd (Reg.DMC_TRAIN.result c) = if s.dram.chosen = some c then 3 else if (narrowest ((delaysOf c).map (fun i => bestRun (runs.getD i [])))).1 < 16 then 2 else 0) ∧
         (∀ c ∈ List.range 4, s.dram.chosen ≠ some c → u.rd (Reg.DMC_TRAIN.width_min c) = (narrowest ((delaysOf c).map (fun i => bestRun (runs.getD i [])))).1 % 2 ^ (Reg.DMC_TRAIN.width_min c).width) ∧
         (∀ c ∈ List.range 4, s.dram.chosen ≠ some c → (narrowest ((delaysOf c).map (fun i => bestRun (runs.getD i [])))).1 < 16 → (u.rd Reg.DMC_STATUS.sc_failed).testBit c = true) ∧
         u.dram.layout = s.dram.chosen) ∧
    (∀ (runs : List (List (Nat × Nat × Nat))) (noHppr : List Nat) (temps : List Int),
       (s.inPhase 5 = false) →
       NextWith (exec (.dramTraining runs noHppr temps) s) fun u =>
         u = s) ∧
    ((s.inPhase 6 = true) →
     (s.lanesUp = true) →
     (s.rd Reg.TIME_STATUS.locked = 0) →
     (s.rd Reg.TIME_LOCK_STRICT.strict = 1) →
     NextWith (exec (.laneBringupEnd) s) fun u =>
       u.rd Reg.RCU_PHASE.phase = 7 ∧
       RegsBut [Reg.RCU_PHASE.phase] s u ∧
       Frame [.regs, .power] s u) ∧
    ((s.inPhase 6 = true) →
     (s.lanesUp = true) →
     (s.rd Reg.TIME_STATUS.locked = 1 ∨ s.rd Reg.TIME_LOCK_STRICT.strict = 0) →
     NextWith (exec (.laneBringupEnd) s) fun u =>
       u.rd Reg.RCU_PHASE.phase = 8 ∧
       u.power.sources = [] ∧
       u.power.deepest = 0 ∧
       u.power.noReady = 0 ∧
       Raises [(0x010A, [w (s.rd Reg.RCU_RESET_CAUSE.source), w s.power.running])] s u ∧
       RegsBut ([Reg.RCU_PHASE.phase] ++ eventRegs) s u ∧
       Frame [.regs, .out, .evt, .power] s u) ∧
    ((s.inPhase 6 = false ∨ s.lanesUp = false) →
     NextWith (exec (.laneBringupEnd) s) fun u =>
       u = s) ∧
    (∀ (p : Nat),
       (s.rd Reg.RCU_PHASE.phase = p) →
       (s.inPhase p = true) →
       (p < 5) →
       (p = 3 → s.power.p3Begun = true) →
       (s.power.phaseAt + phaseLimit p < s.now) →
       NextWith (exec (.phaseOverrun) s) fun u =>
         u.rd Reg.RCU_PHASE.halted = 1 ∧
         u.rd Reg.RCU_PHASE.phase = p ∧
         RegsBut [Reg.RCU_PHASE.halted] s u ∧
         Frame [.regs] s u) ∧
    (∀ (p : Nat),
       (s.rd Reg.RCU_PHASE.phase = p) →
       (s.inPhase p = false ∨ 4 < p ∨ (p = 3 ∧ s.power.p3Begun = false) ∨ s.now ≤ s.power.phaseAt + phaseLimit p) →
       NextWith (exec (.phaseOverrun) s) fun u =>
         u = s)

/-- R390: before P6 every L0 request is refused with result 3: nothing but its registers and the event of a refusal changes.
-/
def Obligations.BlockResetsBeforeP6AreRefused : Prop :=
  ∀ (s : State) (blk lane : Nat),
    (s.hkcUp = true) →
    (s.rd Reg.RCU_PHASE.phase < 6) →
    NextWith (exec (.blockReset blk lane) s) fun u =>
      u.rd Reg.RCU_BLOCK_RST.result = 3 ∧
      Raises [(0x0108, [w blk, w 3])] s u ∧
      RegsBut ([Reg.RCU_BLOCK_RST.block, Reg.RCU_BLOCK_RST.lane, Reg.RCU_BLOCK_RST.result] ++ eventRegs) s u ∧
      Frame [.regs, .out, .evt] s u

/-- R388, R389: from P6 a block reset of a block outside Table 14.12 is refused with result 2 and one of a block that is not
idle with result 1, event 0x0108. The reset of an idle block other than CHECK, and of an idle lane, returns every field of its
registers that is not kept to its reset value and clears its memories, and leaves every register outside it, but for the state
of the engines that a reset of SIEVE stops and what the end of a lane changes. The reset of CHECK returns its registers
likewise but for the count of entries of the fault history, which is kept (R309). A lane reset takes a fitted lane that the
module holds to DETECT. -/
def Obligations.BlockResetsClearTheirBlock : Prop :=
  ∀ (s : State),
    (s.hkcUp = true) →
    (6 ≤ s.rd Reg.RCU_PHASE.phase) →
    (∀ (blk lane : Nat),
       (resettable blk = false ∨ s.blockIdle blk lane = false) →
       (blk < 256) →
       (lane < 64) →
       NextWith (exec (.blockReset blk lane) s) fun u =>
         (u.rd Reg.RCU_BLOCK_RST.result = if resettable blk then 1 else 2) ∧
         Raises [(0x0108, [w blk, w (if resettable blk then 1 else 2)])] s u ∧
         RegsBut ([Reg.RCU_BLOCK_RST.block, Reg.RCU_BLOCK_RST.lane, Reg.RCU_BLOCK_RST.result] ++ eventRegs) s u ∧
         Frame [.regs, .out, .evt] s u) ∧
    (∀ (blk lane : Nat) (f : Fld),
       (resettable blk = true) →
       (s.blockIdle blk lane = true) →
       (blk ≠ 0x18) →
       (fldKey f ≠ fldKey Reg.CHECK_HIST_FILL.entries) →
       (inBlock blk lane (fldKey f) = true) →
       (keptInBlock (fldKey f) = false) →
       NextWith (exec (.blockReset blk lane) s) fun u =>
         u.rd f = f.rst ∧
         u.rd Reg.RCU_BLOCK_RST.result = 0) ∧
    (∀ (blk lane : Nat) (f : Fld),
       (blk ∈ [0x0A, 0x0E, 0x10, 0x12, 0x14, 0x06, 0x26]) →
       (s.blockIdle blk lane = true) →
       (inBlock blk lane (fldKey f) = false ∨ keptInBlock (fldKey f) = true) →
       (fldKey f ∉ [Reg.RCU_BLOCK_RST.block, Reg.RCU_BLOCK_RST.lane, Reg.RCU_BLOCK_RST.result].map fldKey) →
       NextWith (exec (.blockReset blk lane) s) fun u =>
         u.rd f = s.rd f) ∧
    (∀ (lane : Nat) (f : Fld),
       (s.blockIdle 0x0C lane = true) →
       (inBlock 0x0C lane (fldKey f) = false ∨ keptInBlock (fldKey f) = true) →
       (fldKey f ∉ ([Reg.RENDER_STATUS.active, Reg.RENDER_STATUS.prerolled, Reg.PEC_STATUS.busy] ++ [Reg.RCU_BLOCK_RST.block, Reg.RCU_BLOCK_RST.lane, Reg.RCU_BLOCK_RST.result]).map fldKey) →
       NextWith (exec (.blockReset 0x0C lane) s) fun u =>
         u.rd f = s.rd f ∧
         u.sieve = ⟨[], [], [], []⟩ ∧
         u.render = RenderState.init ∧
         u.pec.stripe = none ∧
         u.rd Reg.PEC_STATUS.busy = 0 ∧
         Frame [.regs, .latches, .sieve, .render, .pec] s u) ∧
    (∀ (lane : Nat),
       (s.blockIdle 0x0A lane = true) →
       NextWith (exec (.blockReset 0x0A lane) s) fun u =>
         u.codec.streams.all (fun x => decide (x.ctx = Ctx.fresh)) = true ∧
         u.codec.streams.map (fun x => (x.opened, x.typ, x.ackA)) = s.codec.streams.map (fun x => (x.opened, x.typ, x.ackA)) ∧
         u.codec.streams.map (fun x => x.held) = s.codec.streams.map (fun x => x.held) ∧
         Frame [.regs, .latches, .codec] s u) ∧
    (∀ (blk lane : Nat),
       (blk ∈ [0x0E, 0x10, 0x12, 0x14, 0x06, 0x26]) →
       (s.blockIdle blk lane = true) →
       NextWith (exec (.blockReset blk lane) s) fun u =>
         (blk = 0x0E → u.render = RenderState.init) ∧
         (blk = 0x10 → u.pec = ⟨PecParams.init, none, 0, []⟩) ∧
         (blk = 0x12 → u.win.segs = [] ∧ u.win.sparesUsed = s.win.sparesUsed) ∧
         (blk = 0x14 → u.shot.tlog = []) ∧
         (blk = 0x06 → u.stage.reps = []) ∧
         u.rd Reg.RCU_BLOCK_RST.result = 0 ∧
         Frame ([.regs, .latches] ++ (if blk = 0x0E then [.render] else if blk = 0x10 then [.pec] else if blk = 0x12 then [.win] else if blk = 0x14 then [.shot] else if blk = 0x06 then [.stage, .net] else [])) s u) ∧
    (∀ (lane : Nat),
       (s.blockIdle 0x1C lane = true) →
       NextWith (exec (.blockReset 0x1C lane) s) fun u =>
         u.check.hist = s.check.hist ∧
         u.rd Reg.CHECK_HIST_FILL.entries = s.check.hist.length % 2 ^ Reg.CHECK_HIST_FILL.entries.width ∧
         u.check.tests = [] ∧
         u.rd Reg.RCU_BLOCK_RST.result = 0) ∧
    (∀ (lane : Nat) (f : Fld),
       (s.laneSt lane ≠ lnActive) →
       NextWith (exec (.blockReset 0x18 lane) s) fun u =>
         (u.laneSt lane = if s.fitted lane && s.holdsLanes then lnDetect else 0) ∧
         u.rd Reg.RCU_BLOCK_RST.result = 0 ∧
         LanesBut lane s u ∧
         (inBlock 0x18 lane (fldKey f) = true → keptInBlock (fldKey f) = false → fldKey f ≠ fldKey (Reg.LANE_STATE.state lane) → u.rd f = f.rst) ∧
         (inBlock 0x18 lane (fldKey f) = false → fldKey f ∉ [Reg.RCU_BLOCK_RST.block, Reg.RCU_BLOCK_RST.lane, Reg.RCU_BLOCK_RST.result].map fldKey → u.rd f = s.rd f) ∧
         Frame [.regs, .latches, .lanes, .tx] s u) ∧
    (∀ (lane : Nat),
       (s.laneSt lane = lnActive) →
       (s.rd (Reg.LANE_CTRL.lane_test lane) = 1) →
       (s.fitted lane = true) →
       (s.holdsLanes = true) →
       NextWith (exec (.blockReset 0x18 lane) s) fun u =>
         u.laneSt lane = lnDetect ∧
         u.rd Reg.RCU_BLOCK_RST.result = 0 ∧
         (u.lane lane).replay = [])

/-- R392, R393, R394, R417, R421: a READ of n assigned registers is answered with their values, least significant byte first,
the stale flag set when a register held by the HKC differs; latches and capture queues move as the reads move them. A READ or
a WRITE that names an unassigned address is refused whole with status 2, one that is malformed with status 1, and nothing but
the counts of frames and the kept response changes. A WRITE applies its pairs in order and is answered, unless it takes the
HKC down; a WRITE of a register whose write only stores its fields writes every field a host may write and read, at its nearer
bound where it is limited, and leaves its RO fields. A READ_BLOCK answers registers likewise, and lines of DRAM, read whole
and in order, each with its refetch; a line that fails refuses it with status 6, as does a memory that is not ready. A request
whose seq matches a kept response gets that response again and nothing is executed; one that precedes every kept seq is
discarded and counted; a message that fails its checks is discarded and counted. -/
def Obligations.DmpReadsAndWritesRegisters : Prop :=
  ∀ (s : State),
    (∀ (src : Src) (b : Bytes) (q : DmpReq) (a n : Nat),
       (Asks s src b q) →
       (q.op = 1) →
       (q.payload = toBE 4 a ++ toBE 4 n) →
       (1 ≤ n) →
       (n ≤ 256) →
       (a < 2 ^ 32) →
       (rangeStatus a n = 0) →
       NextWith (exec (.dmpRead src b) s) fun t =>
         Answered src q (1 + 2 * b2n ((s.asked src).staleIn a n)) (0) (0) ((((s.asked src).readRun src a n).2.flatMap (fun v => toLE 4 v))) s t ∧
         t.regs = (((s.asked src).readRun src a n).1.inc (Reg.PORT_TX_FRAMES.frames src.iface)).regs ∧
         t.latches = ((s.asked src).readRun src a n).1.latches ∧
         t.trig = ((s.asked src).readRun src a n).1.trig ∧
         OnlyRefreshed s t ∧
         Frame [.regs, .out, .dmp, .hkc, .power, .latches, .trig] s t) ∧
    (∀ (src : Src) (b : Bytes) (q : DmpReq) (a n i : Nat),
       (Asks s src b q) →
       (q.op = 1) →
       (q.payload = toBE 4 a ++ toBE 4 n) →
       (1 ≤ n) →
       (n ≤ 256) →
       (a < 2 ^ 32) →
       (a % 4 = 0) →
       (i < n) →
       (assigned (a + 4 * i) = false) →
       NextWith (exec (.dmpRead src b) s) fun t =>
         Answered src q (1) (0) (2) ([]) s t ∧
         RegsBut (askRegs src) s t ∧
         OnlyRefreshed s t ∧
         Frame [.regs, .out, .dmp, .hkc, .power] s t) ∧
    (∀ (src : Src) (b : Bytes) (q : DmpReq) (a v : Nat) (d : RegDesc),
       (Asks s src b q) →
       (q.op = 2) →
       (q.payload = toBE 4 a ++ toBE 4 v) →
       (a < 2 ^ 32) →
       (v < 2 ^ 32) →
       (a % 4 = 0) →
       (descAt a = some d) →
       (PlainWrite a) →
       NextWith (exec (.dmpWrite src b) s) fun t =>
         Answered src q (1) (0) (0) ([]) s t ∧
         (∀ f ∈ d.fields, (f.acc = .rw ∨ f.acc = .rwc ∨ f.acc = .rws) → t.rd (fldOf a f) = limited (fldOf a f) (bitsOf v f.lo (f.hi - f.lo + 1)) % 2 ^ (fldOf a f).width) ∧
         (∀ f ∈ d.fields, f.acc = .ro → t.rd (fldOf a f) = s.rd (fldOf a f)) ∧
         RegsBut (askRegs src ++ d.fields.map (fldOf a)) s t ∧
         OnlyRefreshed s t ∧
         Frame [.regs, .out, .dmp, .hkc, .power] s t) ∧
    (∀ (src : Src) (b : Bytes) (q : DmpReq) (p r : Bytes) (a v : Nat),
       (Asks s src b q) →
       (q.op = 2) →
       (q.payload = p ++ (toBE 4 a ++ toBE 4 v) ++ r) →
       (p.length % 8 = 0) →
       (r.length % 8 = 0) →
       (a < 2 ^ 32) →
       (a % 4 = 0) →
       (assigned a = false) →
       (∀ e ∈ pairsOf q.payload (q.payload.length / 8), e.1 % 4 = 0) →
       NextWith (exec (.dmpWrite src b) s) fun t =>
         Answered src q (1) (0) (2) ([]) s t ∧
         RegsBut (askRegs src) s t ∧
         OnlyRefreshed s t ∧
         Frame [.regs, .out, .dmp, .hkc, .power] s t) ∧
    (∀ (src : Src) (b : Bytes) (q : DmpReq) (k : Nat × Bytes),
       (Heard s src b.length) →
       (s.hkcUp = true) →
       (parseDmp b = some q) →
       ((s.keptOf src).find? (fun k => k.1 = q.seq) = some k) →
       NextWith (exec (.dmpWrite src b) s) fun t =>
         Sends (.udp 47101 src k.2) s t ∧
         t.hkc.alive = s.now ∧
         t.power = { s.power with hbStale := false } ∧
         RegsBut (askRegs src) s t ∧
         Frame [.regs, .out, .hkc, .power] s t) ∧
    (∀ (src : Src) (b : Bytes) (q : DmpReq),
       (Heard s src b.length) →
       (s.hkcUp = true) →
       (parseDmp b = some q) →
       (s.keptOf src ≠ []) →
       (∀ k ∈ s.keptOf src, serialBefore 32 q.seq k.1 = true ∧ k.1 ≠ q.seq) →
       NextWith (exec (.dmpWrite src b) s) fun t =>
         Counted Reg.GLOBAL_DMP_STAT.retried 1 s t ∧
         RegsBut [Reg.PORT_RX_FRAMES.frames src.iface, Reg.GLOBAL_DMP_STAT.retried] s t ∧
         Frame [.regs, .hkc, .power] s t) ∧
    (∀ (src : Src) (b : Bytes),
       (Heard s src b.length) →
       (s.hkcUp = true) →
       (parseDmp b = none) →
       NextWith (exec (.dmpWrite src b) s) fun t =>
         Counted Reg.GLOBAL_DMP_STAT.bad 1 s t ∧
         RegsBut [Reg.PORT_RX_FRAMES.frames src.iface, Reg.GLOBAL_DMP_STAT.bad] s t ∧
         Frame [.regs] s t) ∧
    (∀ (src : Src) (b : Bytes) (q : DmpReq) (a n : Nat),
       (Asks s src b q) →
       (q.op = 1) →
       (q.payload = toBE 4 a ++ toBE 4 n) →
       (1 ≤ n) →
       (n ≤ 256) →
       (a < 2 ^ 32) →
       (rangeStatus a n ≠ 0) →
       NextWith (exec (.dmpRead src b) s) fun t =>
         Answered src q (1) (0) (rangeStatus a n) ([]) s t ∧
         RegsBut (askRegs src) s t ∧
         OnlyRefreshed s t ∧
         Frame [.regs, .out, .dmp, .hkc, .power] s t) ∧
    (∀ (src : Src) (b : Bytes) (q : DmpReq),
       (Asks s src b q) →
       (q.op = 1) →
       (q.payload.length ≠ 8 ∨ beAt q.payload 4 4 = 0 ∨ 256 < beAt q.payload 4 4) →
       NextWith (exec (.dmpRead src b) s) fun t =>
         Answered src q (1) (0) (1) ([]) s t ∧
         RegsBut (askRegs src) s t ∧
         OnlyRefreshed s t ∧
         Frame [.regs, .out, .dmp, .hkc, .power] s t) ∧
    (∀ (src : Src) (b : Bytes) (q : DmpReq) (x : State),
       (Asks s src b q) →
       (q.op = 2) →
       (q.payload.length % 8 = 0) →
       (1 ≤ q.payload.length) →
       ((checkPairs (pairsOf q.payload (q.payload.length / 8))).1 = 0) →
       (x = (s.asked src).applyPairs (pairsOf q.payload (q.payload.length / 8))) →
       NextWith (exec (.dmpWrite src b) s) fun t =>
         (t = if x.hkcUp then (x.keep src q.seq (dmpMsg q.op q.seq 0 1 0 [])).sendUdp 47101 src (dmpMsg q.op q.seq 0 1 0 []) else x)) ∧
    (∀ (src : Src) (b : Bytes) (q : DmpReq),
       (Asks s src b q) →
       (q.op = 2) →
       (q.payload.length % 8 ≠ 0 ∨ q.payload = []) →
       NextWith (exec (.dmpWrite src b) s) fun t =>
         Answered src q (1) (0) (1) ([]) s t ∧
         RegsBut (askRegs src) s t ∧
         OnlyRefreshed s t ∧
         Frame [.regs, .out, .dmp, .hkc, .power] s t) ∧
    (∀ (src : Src) (b : Bytes) (q : DmpReq) (a n : Nat) (refetched bad : List Nat),
       (Asks s src b q) →
       (q.op = 3) →
       (q.payload = toBE 1 0 ++ zeros 3 ++ toBE 8 a ++ toBE 4 (4 * n)) →
       (1 ≤ n) →
       (n ≤ 2048) →
       (a < 2 ^ 32) →
       (rangeStatus a n = 0) →
       NextWith (exec (.readBlock src b refetched bad) s) fun t =>
         Answered src q (1) (0) (0) ((((s.asked src).readRun src a n).2.flatMap (fun v => toLE 4 v))) s t ∧
         t.regs = (((s.asked src).readRun src a n).1.inc (Reg.PORT_TX_FRAMES.frames src.iface)).regs ∧
         OnlyRefreshed s t ∧
         Frame [.regs, .out, .dmp, .hkc, .power, .latches, .trig] s t) ∧
    (∀ (src : Src) (b : Bytes) (q : DmpReq) (a n c : Nat) (refetched bad : List Nat),
       (Asks s src b q) →
       (q.op = 3) →
       (q.payload = toBE 1 1 ++ zeros 3 ++ toBE 8 a ++ toBE 4 n) →
       (a < 2 ^ 64) →
       (a % 4 = 0) →
       (n % 4 = 0) →
       (4 ≤ n) →
       (n ≤ 8192) →
       (a + n ≤ 64 * s.lineCount) →
       (s.rd Reg.DMC_STATUS.ready = 1) →
       ((a + n - 1) / 64 - a / 64 + 1 = c) →
       (((s.asked src).blockLines refetched bad ((List.range c).map (fun k => a / 64 + k))).2 = true) →
       NextWith (exec (.readBlock src b refetched bad) s) fun t =>
         Answered src q (1) (0) (0) ((sub ((List.range c).flatMap (fun k => (s.asked src).lineBytes (a / 64 + k) k)) (a % 64) n)) s t ∧
         t.freeCnt = s.freeCnt + c) ∧
    (∀ (src : Src) (b : Bytes) (q : DmpReq) (k : Nat) (refetched bad : List Nat),
       (Asks s src b q) →
       (q.op = 3) →
       (q.payload = toBE 1 1 ++ zeros 3 ++ toBE 8 (64 * k) ++ toBE 4 64) →
       (k < s.lineCount) →
       (s.rd Reg.DMC_STATUS.ready = 1) →
       (s.readFault k (s.expected k).1 (s.expected k).2 = none) →
       (k ∉ refetched) →
       (k ∉ bad) →
       NextWith (exec (.readBlock src b refetched bad) s) fun t =>
         Answered src q (1) (0) (0) (((s.asked src).lineBytes k 0)) s t ∧
         t.freeCnt = s.freeCnt + 1 ∧
         RegsBut (askRegs src) s t ∧
         OnlyRefreshed s t ∧
         Frame [.regs, .out, .dmp, .hkc, .power, .freeCnt] s t) ∧
    (∀ (src : Src) (b : Bytes) (q : DmpReq) (k : Nat) (refetched bad : List Nat),
       (Asks s src b q) →
       (q.op = 3) →
       (q.payload = toBE 1 1 ++ zeros 3 ++ toBE 8 (64 * k) ++ toBE 4 64) →
       (k < s.lineCount) →
       (s.rd Reg.DMC_STATUS.ready = 1) →
       (s.readFault k (s.expected k).1 (s.expected k).2 = none) →
       (k ∈ refetched) →
       (k ∉ bad) →
       NextWith (exec (.readBlock src b refetched bad) s) fun t =>
         Answered src q (1) (0) (0) (((s.asked src).lineBytes k 0)) s t ∧
         Counted Reg.DMC_RD_ERR.refetch_ok 1 s t) ∧
    (∀ (src : Src) (b : Bytes) (q : DmpReq) (k : Nat) (refetched bad : List Nat),
       (Asks s src b q) →
       (q.op = 3) →
       (q.payload = toBE 1 1 ++ zeros 3 ++ toBE 8 (64 * k) ++ toBE 4 64) →
       (k < s.lineCount) →
       (s.rd Reg.DMC_STATUS.ready = 1) →
       (s.readFault k (s.expected k).1 (s.expected k).2 ≠ none ∨ k ∈ bad) →
       NextWith (exec (.readBlock src b refetched bad) s) fun t =>
         Answered src q (1) (0) (6) ([]) s t ∧
         Counted Reg.DMC_RD_ERR.refetch_fail 1 s t) ∧
    (∀ (src : Src) (b : Bytes) (q : DmpReq) (a n : Nat) (refetched bad : List Nat),
       (Asks s src b q) →
       (q.op = 3) →
       (q.payload = toBE 1 1 ++ zeros 3 ++ toBE 8 a ++ toBE 4 n) →
       (a < 2 ^ 64) →
       (a % 4 = 0) →
       (n % 4 = 0) →
       (4 ≤ n) →
       (n ≤ 8192) →
       (64 * s.lineCount < a + n ∨ s.rd Reg.DMC_STATUS.ready = 0) →
       NextWith (exec (.readBlock src b refetched bad) s) fun t =>
         Answered src q (1) (0) (if 64 * s.lineCount < a + n then 2 else 6) ([]) s t ∧
         RegsBut (askRegs src) s t ∧
         OnlyRefreshed s t ∧
         Frame [.regs, .out, .dmp, .hkc, .power] s t) ∧
    (∀ (src : Src) (b : Bytes) (q : DmpReq) (refetched bad : List Nat),
       (Asks s src b q) →
       (q.op = 3) →
       (q.payload.length ≠ 16 ∨ beAt q.payload 1 3 ≠ 0 ∨ beAt q.payload 12 4 % 4 ≠ 0 ∨ beAt q.payload 12 4 = 0 ∨ 8192 < beAt q.payload 12 4 ∨ beAt q.payload 4 8 % 4 ≠ 0) →
       NextWith (exec (.readBlock src b refetched bad) s) fun t =>
         Answered src q (1) (0) (1) ([]) s t ∧
         RegsBut (askRegs src) s t ∧
         OnlyRefreshed s t ∧
         Frame [.regs, .out, .dmp, .hkc, .power] s t)

/-- R396, R410, Tables 15.4 and 15.5: LOAD_JOB in IDLE, the memory ready, settles what the job before still owes (closeJob),
sets the job ID and makes the job LOADING, event 0x0A02 after the changes not yet told; in another state it is refused with
status 3 and nothing changes. END_JOB of a job LOADING to SUSPENDED notes the last stripe, and an ARMED job with every stripe
up to it over becomes DONE with its operation. UNLOAD_JOB while LOADING or after DONE or FAULT closes every stream, empties
the stripe queue and makes the job IDLE. In another state each is refused with status 3, and a command with a malformed
argument with status 1. SUBSCRIBE adds the source as a subscriber, at most two, and UNSUBSCRIBE removes it. That LOAD_JOB also
clears the counts of the job before is the model's choice (log 48), as is that open ticks of that job expire as unconfirmed
(log 87). -/
def Obligations.JobCommandsMoveTheJob : Prop :=
  ∀ (s : State),
    (∀ (src : Src) (b : Bytes) (q : DmpReq) (job : Nat),
       (Asks s src b q) →
       (q.op = 4) →
       (q.payload = toBE 2 1 ++ toBE 2 0 ++ toBE 4 job) →
       (job < 2 ^ 32) →
       (s.jobSt = jobIdle) →
       (s.rd Reg.DMC_STATUS.ready = 1) →
       (∀ e ∈ ((s.asked src).closeJob).hkc.late, e.1 ≠ 0x0A09) →
       NextWith (exec (.loadJob src b) s) fun t =>
         Sends (.udp 47101 src (dmpMsg q.op q.seq 0 1 0 [])) s t ∧
         t.jobSt = jobLoading ∧
         t.rd Reg.GLOBAL_JOB_ID.job = job ∧
         t.rd Reg.GLOBAL_JOB.end_given = 0 ∧
         t.rd Reg.GLOBAL_JOB.cancelled = 0 ∧
         t.rd Reg.SIEVE_REFUSE_COUNT.count = 0 ∧
         t.job = JobState.init ∧
         t.queue = [] ∧
         t.render = RenderState.init ∧
         t.pec.stripe = none ∧
         t.check.reportPart = [] ∧
         t.check.tlogPart = [] ∧
         Raises (((s.asked src).closeJob).hkc.late ++ [(0x0A02, [w jobIdle, w jobLoading])]) ((s.asked src).closeJob) t ∧
         RegsBut (askRegs src ++ eventRegs ++ [Reg.GLOBAL_JOB_ID.job, Reg.GLOBAL_JOB.state, Reg.GLOBAL_JOB.cancelled, Reg.GLOBAL_JOB.end_given, Reg.GLOBAL_JOB.last_seq, Reg.SIEVE_REFUSE_COUNT.count, Reg.CAL_SKIP.skips, Reg.CAL_SKIP.stray]) ((s.asked src).closeJob) t ∧
         Frame [.regs, .out, .dmp, .hkc, .evt, .job, .sieve, .shot, .check, .trig, .lanes] ((s.asked src).closeJob) t) ∧
    (∀ (src : Src) (b : Bytes) (q : DmpReq) (job : Nat),
       (Asks s src b q) →
       (q.op = 4) →
       (q.payload = toBE 2 1 ++ toBE 2 0 ++ toBE 4 job) →
       (job < 2 ^ 32) →
       (s.jobSt = jobIdle) →
       (s.rd Reg.DMC_STATUS.ready = 1) →
       (∀ e ∈ s.hkc.late, e.1 ≠ 0x0A09) →
       ((s.asked src).closeJob = s.asked src) →
       NextWith (exec (.loadJob src b) s) fun t =>
         Answered src q (1) (0) (0) ([]) s t ∧
         t.jobSt = jobLoading ∧
         t.rd Reg.GLOBAL_JOB_ID.job = job ∧
         t.job = JobState.init ∧
         t.queue = [] ∧
         Raises (s.hkc.late ++ [(0x0A02, [w jobIdle, w jobLoading])]) s t ∧
         t.codec = s.codec ∧
         RegsBut (askRegs src ++ eventRegs ++ [Reg.GLOBAL_JOB_ID.job, Reg.GLOBAL_JOB.state, Reg.GLOBAL_JOB.cancelled, Reg.GLOBAL_JOB.end_given, Reg.GLOBAL_JOB.last_seq, Reg.SIEVE_REFUSE_COUNT.count, Reg.CAL_SKIP.skips, Reg.CAL_SKIP.stray]) s t ∧
         Frame [.regs, .out, .dmp, .hkc, .power, .evt, .job, .sieve, .shot, .check, .trig, .lanes] s t) ∧
    (∀ (src : Src) (b : Bytes) (q : DmpReq) (job : Nat),
       (Asks s src b q) →
       (q.op = 4) →
       (q.payload = toBE 2 1 ++ toBE 2 0 ++ toBE 4 job) →
       (s.jobSt ≠ jobIdle ∨ s.rd Reg.DMC_STATUS.ready = 0) →
       NextWith (exec (.loadJob src b) s) fun t =>
         Answered src q (1) (0) (3) ([]) s t ∧
         RegsBut (askRegs src) s t ∧
         OnlyRefreshed s t ∧
         Frame [.regs, .out, .dmp, .hkc, .power] s t) ∧
    (∀ (src : Src) (b : Bytes) (q : DmpReq) (code : Nat) (arg : Bytes),
       (Asks s src b q) →
       (q.op = 4) →
       (q.payload = toBE 2 code ++ toBE 2 0 ++ arg) →
       (arg.length ≤ 16) →
       ((code = 1 ∧ arg.length ≠ 4) ∨ (code = 2 ∧ (arg.length ≠ 4 ∨ byteAt arg 3 ≠ 0)) ∨ ((code = 3 ∨ code = 4 ∨ code = 5) ∧ arg ≠ [])) →
       NextWith (exec (.loadJob src b) s) fun t =>
         Answered src q (1) (0) (1) ([]) s t ∧
         RegsBut (askRegs src) s t ∧
         OnlyRefreshed s t ∧
         Frame [.regs, .out, .dmp, .hkc, .power] s t) ∧
    (∀ (src : Src) (b : Bytes) (q : DmpReq) (last : Nat),
       (Asks s src b q) →
       (q.op = 4) →
       (q.payload = toBE 2 2 ++ toBE 2 0 ++ toBE 3 last ++ toBE 1 0) →
       (last < 2 ^ 24) →
       (s.jobSt = jobLoading ∨ s.jobRuns = true) →
       NextWith (exec (.endJob src b) s) fun t =>
         Answered src q (1) (0) (0) ([]) s t ∧
         t.rd Reg.GLOBAL_JOB.end_given = 1 ∧
         t.rd Reg.GLOBAL_JOB.last_seq = last ∧
         t.power = { s.power with hbStale := false } ∧
         (t.jobSt = s.jobSt ∧ t.ops = s.ops ∨ t.jobSt = jobDone) ∧
         RegsBut (askRegs src ++ ([Reg.GLOBAL_JOB.state, Reg.GLOBAL_JOB.end_given, Reg.GLOBAL_JOB.last_seq] ++ mirrorRegs)) s t ∧
         Frame [.regs, .out, .dmp, .hkc, .power, .ops, .pair, .evt] s t) ∧
    (∀ (src : Src) (b : Bytes) (q : DmpReq) (last : Nat),
       (Asks s src b q) →
       (q.op = 4) →
       (q.payload = toBE 2 2 ++ toBE 2 0 ++ toBE 3 last ++ toBE 1 0) →
       (last < 2 ^ 24) →
       (s.jobSt = jobLoading) →
       NextWith (exec (.endJob src b) s) fun t =>
         Answered src q (1) (0) (0) ([]) s t ∧
         t.rd Reg.GLOBAL_JOB.end_given = 1 ∧
         t.rd Reg.GLOBAL_JOB.last_seq = last ∧
         t.jobSt = jobLoading ∧
         t.power = { s.power with hbStale := false } ∧
         RegsBut (askRegs src ++ ([Reg.GLOBAL_JOB.end_given, Reg.GLOBAL_JOB.last_seq] ++ mirrorRegs)) s t ∧
         Frame [.regs, .out, .dmp, .hkc, .power, .pair, .evt] s t) ∧
    (∀ (src : Src) (b : Bytes) (q : DmpReq) (last : Nat) (o : LongOp),
       (Asks s src b q) →
       (q.op = 4) →
       (q.payload = toBE 2 2 ++ toBE 2 0 ++ toBE 3 last ++ toBE 1 0) →
       (last < 2 ^ 24) →
       (s.jobSt = jobArmed) →
       (last < s.job.nextSeq) →
       (∀ x ∈ s.queue, last < x.d.seq) →
       (s.opOfKind kindJob = some o) →
       (s.ops.slots.find? (fun x => x.handle = o.handle) = some o) →
       NextWith (exec (.endJob src b) s) fun t =>
         Answered src q (1) (0) (0) ([]) s t ∧
         t.rd Reg.GLOBAL_JOB.end_given = 1 ∧
         t.rd Reg.GLOBAL_JOB.last_seq = last ∧
         t.jobSt = jobDone ∧
         (∀ p ∈ t.ops.slots, p.handle = o.handle → opFinished p = true) ∧
         t.ops.done.head? = some { o with st := .done, result := 0, permille := 1000 } ∧
         t.hkc.late = s.hkc.late ++ [(0x0A02, [w jobArmed, w jobDone]), (0x0A03, [w o.handle, w o.kind, w 4, w 0])] ∧
         RegsBut (askRegs src ++ ([Reg.GLOBAL_JOB.state, Reg.GLOBAL_JOB.end_given, Reg.GLOBAL_JOB.last_seq] ++ mirrorRegs)) s t ∧
         Frame [.regs, .out, .dmp, .hkc, .power, .ops, .pair, .evt] s t) ∧
    (∀ (src : Src) (b : Bytes) (q : DmpReq) (last : Nat),
       (Asks s src b q) →
       (q.op = 4) →
       (q.payload = toBE 2 2 ++ toBE 2 0 ++ toBE 3 last ++ toBE 1 0) →
       (s.jobSt = jobIdle ∨ s.jobSt = jobDone ∨ s.jobSt = jobFault) →
       NextWith (exec (.endJob src b) s) fun t =>
         Answered src q (1) (0) (3) ([]) s t ∧
         RegsBut (askRegs src) s t ∧
         OnlyRefreshed s t ∧
         Frame [.regs, .out, .dmp, .hkc, .power] s t) ∧
    (∀ (src : Src) (b : Bytes) (q : DmpReq),
       (Asks s src b q) →
       (q.op = 4) →
       (q.payload = toBE 2 3 ++ toBE 2 0) →
       (s.jobSt = jobLoading ∨ s.jobSt = jobDone ∨ s.jobSt = jobFault) →
       (∀ e ∈ s.hkc.late, e.1 ≠ 0x0A09) →
       NextWith (exec (.unloadJob src b) s) fun t =>
         Answered src q (1) (0) (0) ([]) s t ∧
         t.jobSt = jobIdle ∧
         (∀ x ∈ t.codec.streams, x.opened = false ∧ x.cur = [] ∧ x.rx = []) ∧
         t.queue = [] ∧
         t.sieve.seeds = [] ∧
         t.render = RenderState.init ∧
         t.pec.stripe = none ∧
         Raises (s.hkc.late ++ [(0x0A02, [w s.jobSt, w jobIdle])]) s t ∧
         RegsBut (askRegs src ++ eventRegs ++ [Reg.GLOBAL_JOB.state, Reg.TIME_TRIG0_CTRL.pending, Reg.RENDER_STATUS.active, Reg.RENDER_STATUS.prerolled, Reg.PEC_STATUS.busy]) s t ∧
         Frame [.regs, .out, .dmp, .hkc, .power, .evt, .codec, .sieve, .render, .pec] s t) ∧
    (∀ (src : Src) (b : Bytes) (q : DmpReq),
       (Asks s src b q) →
       (q.op = 4) →
       (q.payload = toBE 2 3 ++ toBE 2 0) →
       (s.jobSt = jobIdle ∨ s.jobRuns = true) →
       NextWith (exec (.unloadJob src b) s) fun t =>
         Answered src q (1) (0) (3) ([]) s t ∧
         RegsBut (askRegs src) s t ∧
         OnlyRefreshed s t ∧
         Frame [.regs, .out, .dmp, .hkc, .power] s t) ∧
    (∀ (src : Src) (b : Bytes) (q : DmpReq),
       (Asks s src b q) →
       (q.op = 4) →
       (q.payload = toBE 2 4 ++ toBE 2 0) →
       (∃ u ∈ s.evt.subs, sameSub u.src src = true) →
       NextWith (exec (.subscribe src b) s) fun t =>
         Answered src q (1) (0) (0) ([]) s t ∧
         RegsBut (askRegs src) s t ∧
         OnlyRefreshed s t ∧
         Frame [.regs, .out, .dmp, .hkc, .power] s t) ∧
    (∀ (src : Src) (b : Bytes) (q : DmpReq),
       (Asks s src b q) →
       (q.op = 4) →
       (q.payload = toBE 2 4 ++ toBE 2 0) →
       (s.evt.subs.length < 2) →
       (∀ u ∈ s.evt.subs, sameSub u.src src = false) →
       NextWith (exec (.subscribe src b) s) fun t =>
         Answered src q (1) (0) (0) ([]) s t ∧
         t.evt = { s.evt with subs := s.evt.subs ++ [⟨src, s.rd Reg.EVT_INDEX.next, s.now, 0⟩] } ∧
         RegsBut (askRegs src) s t ∧
         OnlyRefreshed s t ∧
         Frame [.regs, .out, .dmp, .hkc, .power, .evt] s t) ∧
    (∀ (src : Src) (b : Bytes) (q : DmpReq),
       (Asks s src b q) →
       (q.op = 4) →
       (q.payload = toBE 2 4 ++ toBE 2 0) →
       (2 ≤ s.evt.subs.length) →
       (∀ u ∈ s.evt.subs, sameSub u.src src = false) →
       NextWith (exec (.subscribe src b) s) fun t =>
         Answered src q (1) (0) (3) ([]) s t ∧
         RegsBut (askRegs src) s t ∧
         OnlyRefreshed s t ∧
         Frame [.regs, .out, .dmp, .hkc, .power] s t) ∧
    (∀ (src : Src) (b : Bytes) (q : DmpReq),
       (Asks s src b q) →
       (q.op = 4) →
       (q.payload = toBE 2 5 ++ toBE 2 0) →
       NextWith (exec (.unsubscribe src b) s) fun t =>
         Answered src q (1) (0) (0) ([]) s t ∧
         t.evt = { s.evt with subs := s.evt.subs.filter (fun u => !sameSub u.src src) } ∧
         (∀ u ∈ t.evt.subs, sameSub u.src src = false) ∧
         RegsBut (askRegs src) s t ∧
         OnlyRefreshed s t ∧
         Frame [.regs, .out, .dmp, .hkc, .power, .evt] s t)

/-- R401, Table 15.6: an accepted OP_START of any kind is answered with status 0 and its handle, event 0x0A03, and its
operation takes a free slot; its work begins: job exposure arms the job and is a commit point (R336, R396); a sweep counts its
windows; a snapshot keeps its image and erases the older slot (R340); a full scrub; a retrain of the named subchannels (R294);
a BER test at its lowest lane (R235); a self-test (R426); a firmware update whose image passes its checks erases the slot not
loaded (R405), and one whose image does not fails with event 0x0618. Operands of Table 15.6 that refuse a kind are answered
with status 3, malformed ones with status 1, an operation too many with status 4, an unknown kind with status 7: no operation
changes. -/
def Obligations.OperationsStart : Prop :=
  ∀ (s : State),
    (∀ (src : Src) (b : Bytes) (q : DmpReq) (kind : Nat) (arg : Bytes) (c : Instr),
       (Asks s src b q) →
       (q.op = 5) →
       (q.payload = toBE 1 kind ++ zeros 3 ++ arg) →
       (c ∈ [.opJobExposure src b, .opCalibrationSweep src b, .opNvmSnapshot src b, .opFullScrub src b, .opDramRetrain src b, .opLaneBerTest src b, .opSelfTest src b, .opCheckpoint src b, .opSaveOut src b, .opRestore src b, .opFirmwareUpdate src b]) →
       (1 ≤ kind) →
       (kind ≤ 9) →
       (arg.length = opOperands kind) →
       (s.startStatus kind arg = 0) →
       (s.mayStart kind = true) →
       NextWith (exec (c) s) fun t =>
         Answered src q 1 s.newHandle 0 [] s t ∧
         Tells 0x0A03 [w s.newHandle, w kind, w 1, w 0] s t ∧
         t.ops.next = s.newHandle % 65535 + 1 ∧
         (t.ops.slots.any (fun o => o.handle = s.newHandle && o.kind = kind && o.slot = s.freeSlot) = true)) ∧
    (∀ (src : Src) (b : Bytes) (q : DmpReq) (kind : Nat) (arg : Bytes) (c : Instr),
       (Asks s src b q) →
       (q.op = 5) →
       (q.payload = toBE 1 kind ++ zeros 3 ++ arg) →
       (kind < 256) →
       (arg.length ≤ 8000) →
       (c ∈ [.opJobExposure src b, .opCalibrationSweep src b, .opNvmSnapshot src b, .opFullScrub src b, .opDramRetrain src b, .opLaneBerTest src b, .opSelfTest src b, .opCheckpoint src b, .opSaveOut src b, .opRestore src b, .opFirmwareUpdate src b]) →
       (kind = 0 ∨ 9 < kind ∨ arg.length ≠ opOperands kind ∨ s.startStatus kind arg = 1 ∨ (s.startStatus kind arg = 0 ∧ s.mayStart kind = false)) →
       NextWith (exec (c) s) fun t =>
         Answered src q (1) (0) (if kind = 0 ∨ 9 < kind then 7 else if arg.length ≠ opOperands kind ∨ s.startStatus kind arg = 1 then 1 else 4) ([]) s t ∧
         RegsBut (askRegs src) s t ∧
         OnlyRefreshed s t ∧
         Frame [.regs, .out, .dmp, .hkc, .power] s t) ∧
    (∀ (src : Src) (b : Bytes) (q : DmpReq) (kind : Nat) (arg : Bytes) (c : Instr),
       (Asks s src b q) →
       (q.op = 5) →
       (q.payload = toBE 1 kind ++ zeros 3 ++ arg) →
       (c ∈ [.opJobExposure src b, .opCalibrationSweep src b, .opNvmSnapshot src b, .opFullScrub src b, .opDramRetrain src b, .opLaneBerTest src b, .opSelfTest src b, .opCheckpoint src b, .opSaveOut src b, .opRestore src b, .opFirmwareUpdate src b]) →
       (1 ≤ kind) →
       (kind ≤ 9) →
       (arg.length = opOperands kind) →
       (s.startStatus kind arg = 3) →
       NextWith (exec (c) s) fun t =>
         Answered src q (1) (0) (3) ([]) s t ∧
         t.ops = s.ops ∧
         RegsBut (askRegs src ++ eventRegs) s t ∧
         Frame [.regs, .out, .dmp, .hkc, .power, .evt] s t) ∧
    (∀ (src : Src) (b : Bytes) (q : DmpReq),
       (Asks s src b q) →
       (q.op = 5) →
       (s.mayStart kindJob = true) →
       (∀ e ∈ s.hkc.late, e.1 ≠ 0x0A09) →
       (q.payload = toBE 1 kindJob ++ zeros 3) →
       (s.jobSt = jobLoading) →
       (s.role = roleSolo) →
       (s.sessionOpen = false) →
       (s.rd Reg.GLOBAL_JOB.end_given = 0) →
       (s.rd Reg.DMC_STATUS.sc_failed = 0) →
       NextWith (exec (.opJobExposure src b) s) fun t =>
         Answered src q 1 s.newHandle 0 [] s t ∧
         t.opOfKind kindJob = some ⟨s.newHandle, kindJob, .running, 0, 0, s.freeSlot, 0, 0, false, []⟩ ∧
         t.ops.next = s.newHandle % 65535 + 1 ∧
         t.jobSt = jobArmed ∧
         Tells 0x0A03 [w s.newHandle, w kindJob, w 1, w 0] s t ∧
         Tells 0x0A02 [w jobLoading, w jobArmed] s t ∧
         t.cal.live = s.cal.shadow ∧
         t.power = { s.power with hbStale := false } ∧
         RegsBut (askRegs src ++ eventRegs ++ [Reg.GLOBAL_JOB.state, Reg.CAL_STATUS.commit_pending, Reg.CAL_GAIN_MAX.gain, Reg.CAL_GAIN_MAX_BEAM.beam]) s t ∧
         Frame [.regs, .out, .dmp, .hkc, .power, .evt, .ops, .cal] s t) ∧
    (∀ (src : Src) (b : Bytes) (q : DmpReq),
       (Asks s src b q) →
       (q.op = 5) →
       (s.mayStart kindJob = true) →
       (q.payload = toBE 1 kindJob ++ zeros 3) →
       (s.jobSt = jobLoading) →
       NextWith (exec (.opJobExposure src b) s) fun t =>
         Answered src q 1 s.newHandle 0 [] s t ∧
         (t.jobSt = jobArmed ∨ (s.rd Reg.GLOBAL_JOB.end_given = 1 ∧ t.jobSt = jobDone)) ∧
         (t.cal.live = if s.role = roleStandby ∨ s.sessionOpen = true then s.cal.live else s.cal.shadow) ∧
         Tells 0x0A03 [w s.newHandle, w kindJob, w 1, w 0] s t ∧
         Tells 0x0A02 [w jobLoading, w jobArmed] s t ∧
         Frame [.regs, .out, .dmp, .hkc, .power, .evt, .ops, .cal, .pair, .dram, .check] s t) ∧
    (∀ (src : Src) (b : Bytes) (q : DmpReq),
       (Asks s src b q) →
       (q.op = 5) →
       (q.payload = toBE 1 kindJob ++ zeros 3) →
       (s.jobSt ≠ jobLoading) →
       NextWith (exec (.opJobExposure src b) s) fun t =>
         Answered src q (1) (0) (3) ([]) s t ∧
         RegsBut (askRegs src) s t ∧
         OnlyRefreshed s t ∧
         Frame [.regs, .out, .dmp, .hkc, .power] s t) ∧
    (∀ (src : Src) (b : Bytes) (q : DmpReq),
       (Asks s src b q) →
       (q.op = 5) →
       (s.mayStart kindSweep = true) →
       (∀ e ∈ s.hkc.late, e.1 ≠ 0x0A09) →
       (q.payload = toBE 1 kindSweep ++ zeros 3) →
       (s.jobRuns = false) →
       (s.bwNow ≠ 0) →
       NextWith (exec (.opCalibrationSweep src b) s) fun t =>
         Answered src q 1 s.newHandle 0 [] s t ∧
         Raises (s.hkc.late ++ [(0x0A03, [w s.newHandle, w kindSweep, w 1, w 0])]) s t ∧
         t.opOfKind kindSweep = some ⟨s.newHandle, kindSweep, .running, 0, 0, s.freeSlot, 0, 0, false, []⟩ ∧
         t.ops.next = s.newHandle % 65535 + 1 ∧
         t.cal = { s.cal with sweepLeft := 4096 } ∧
         t.power = { s.power with hbStale := false } ∧
         RegsBut (askRegs src ++ eventRegs) s t ∧
         Frame [.regs, .out, .dmp, .hkc, .power, .evt, .ops, .cal] s t) ∧
    (∀ (src : Src) (b : Bytes) (q : DmpReq),
       (Asks s src b q) →
       (q.op = 5) →
       (q.payload = toBE 1 kindSweep ++ zeros 3) →
       (s.bwNow = 0) →
       NextWith (exec (.opCalibrationSweep src b) s) fun t =>
         Answered src q (1) (0) (3) ([]) s t ∧
         Raises [(0x0801, [w (s.rd Reg.CAL_WINDOW.window_us), w (s.rd Reg.CAL_WINDOW.tau_ns)])] s t ∧
         t.ops = s.ops ∧
         RegsBut (askRegs src ++ eventRegs) s t ∧
         Frame [.regs, .out, .dmp, .hkc, .power, .evt] s t) ∧
    (∀ (src : Src) (b : Bytes) (q : DmpReq),
       (Asks s src b q) →
       (q.op = 5) →
       (s.mayStart kindSnapshot = true) →
       (∀ e ∈ s.hkc.late, e.1 ≠ 0x0A09) →
       (q.payload = toBE 1 kindSnapshot ++ zeros 3) →
       (s.opOfKind kindFirmware = none) →
       NextWith (exec (.opNvmSnapshot src b) s) fun t =>
         Answered src q 1 s.newHandle 0 [] s t ∧
         Raises (s.hkc.late ++ [(0x0A03, [w s.newHandle, w kindSnapshot, w 1, w 0])]) s t ∧
         t.opOfKind kindSnapshot = some ⟨s.newHandle, kindSnapshot, .running, 0, 0, s.freeSlot, s.snapTarget, 0, false, (s.asked src).snapImage⟩ ∧
         t.ops.next = s.newHandle % 65535 + 1 ∧
         t.power = { (s.nvmErase (snapAddr s.snapTarget) snapSlotBytes).power with hbStale := false } ∧
         RegsBut (askRegs src ++ eventRegs) s t ∧
         Frame [.regs, .out, .dmp, .hkc, .power, .evt, .ops] s t) ∧
    (∀ (src : Src) (b : Bytes) (q : DmpReq),
       (Asks s src b q) →
       (q.op = 5) →
       (s.mayStart kindScrub = true) →
       (∀ e ∈ s.hkc.late, e.1 ≠ 0x0A09) →
       (q.payload = toBE 1 kindScrub ++ zeros 3) →
       NextWith (exec (.opFullScrub src b) s) fun t =>
         Answered src q 1 s.newHandle 0 [] s t ∧
         Raises (s.hkc.late ++ [(0x0A03, [w s.newHandle, w kindScrub, w 1, w 0])]) s t ∧
         t.opOfKind kindScrub = some ⟨s.newHandle, kindScrub, .running, 0, 0, s.freeSlot, 0, 0, false, []⟩ ∧
         t.ops.next = s.newHandle % 65535 + 1 ∧
         t.dram = { s.dram with scrubOp := true } ∧
         t.power = { s.power with hbStale := false } ∧
         RegsBut (askRegs src ++ eventRegs) s t ∧
         Frame [.regs, .out, .dmp, .hkc, .power, .evt, .ops, .dram] s t) ∧
    (∀ (src : Src) (b : Bytes) (q : DmpReq),
       (Asks s src b q) →
       (q.op = 5) →
       (q.payload = toBE 1 kindScrub ++ zeros 3) →
       (s.mayStart kindScrub = false) →
       NextWith (exec (.opFullScrub src b) s) fun t =>
         Answered src q (1) (0) (4) ([]) s t ∧
         RegsBut (askRegs src) s t ∧
         OnlyRefreshed s t ∧
         Frame [.regs, .out, .dmp, .hkc, .power] s t) ∧
    (∀ (src : Src) (b : Bytes) (q : DmpReq) (mask : Nat),
       (Asks s src b q) →
       (q.op = 5) →
       (s.mayStart kindRetrain = true) →
       (∀ e ∈ s.hkc.late, e.1 ≠ 0x0A09) →
       (q.payload = toBE 1 kindRetrain ++ zeros 3 ++ toBE 1 mask) →
       (0 < mask) →
       (mask < 16) →
       (s.rd Reg.DMC_STATUS.sc_failed = 0) →
       (s.dram.layout = none) →
       (s.jobQuiet = true) →
       NextWith (exec (.opDramRetrain src b) s) fun t =>
         Answered src q 1 s.newHandle 0 [] s t ∧
         Raises (s.hkc.late ++ [(0x0A03, [w s.newHandle, w kindRetrain, w 1, w 0])]) s t ∧
         t.opOfKind kindRetrain = some ⟨s.newHandle, kindRetrain, .running, 0, 0, s.freeSlot, mask, 0, false, []⟩ ∧
         t.ops.next = s.newHandle % 65535 + 1 ∧
         t.dram = { s.dram with due := setBits mask 4 } ∧
         t.power = { s.power with hbStale := false } ∧
         RegsBut (askRegs src ++ eventRegs) s t ∧
         Frame [.regs, .out, .dmp, .hkc, .power, .evt, .ops, .dram] s t) ∧
    (∀ (src : Src) (b : Bytes) (q : DmpReq) (mask : Nat),
       (Asks s src b q) →
       (q.op = 5) →
       (q.payload = toBE 1 kindRetrain ++ zeros 3 ++ toBE 1 mask) →
       (mask < 16) →
       (mask &&& s.rd Reg.DMC_STATUS.sc_failed ≠ 0) →
       (s.dram.layout = none) →
       NextWith (exec (.opDramRetrain src b) s) fun t =>
         Answered src q (1) (0) (3) ([]) s t ∧
         RegsBut (askRegs src) s t ∧
         OnlyRefreshed s t ∧
         Frame [.regs, .out, .dmp, .hkc, .power] s t) ∧
    (∀ (src : Src) (b : Bytes) (q : DmpReq) (k : Nat),
       (Asks s src b q) →
       (q.op = 5) →
       (s.mayStart kindBer = true) →
       (∀ e ∈ s.hkc.late, e.1 ≠ 0x0A09) →
       (q.payload = toBE 1 kindBer ++ zeros 3 ++ toBE 8 (2 ^ k)) →
       (k < 64) →
       (s.berRefused (2 ^ k) = []) →
       (4 ≤ s.rd (Reg.LANE_TEST.test k)) →
       (s.laneSt k = lnFailed) →
       NextWith (exec (.opLaneBerTest src b) s) fun t =>
         Answered src q 1 s.newHandle 0 [] s t ∧
         Raises (s.hkc.late ++ [(0x0A03, [w s.newHandle, w kindBer, w 1, w 0])]) s t ∧
         (t.opOfKind kindBer).map (fun o => (o.handle, o.st, o.arg, o.pos)) = some (s.newHandle, .running, 2 ^ k, k + 1) ∧
         t.rd (Reg.LANE_TEST.running k) = 1 ∧
         t.rd (Reg.LANE_TEST_ERR.errors k) = 0 ∧
         t.rd (Reg.LANE_TEST_BITS_LO.bits_lo k) = 0 ∧
         (t.lane k).test.map (fun x => (x.code, x.endsAt, x.leftUs, x.clipped)) = some (s.rd (Reg.LANE_TEST.test k), s.now + (if s.rd (Reg.LANE_TEST.test k) ≤ 4 then 1000 else 0) + 1000 * s.rd (Reg.LANE_TEST_DUR.dur_us k), 0, false) ∧
         LanesBut k s t ∧
         t.power = { s.power with hbStale := false }) ∧
    (∀ (src : Src) (b : Bytes) (q : DmpReq) (mask : Nat),
       (Asks s src b q) →
       (q.op = 5) →
       (q.payload = toBE 1 kindBer ++ zeros 3 ++ toBE 8 mask) →
       (mask < 2 ^ 64) →
       (s.berRefused mask ≠ []) →
       NextWith (exec (.opLaneBerTest src b) s) fun t =>
         Answered src q (1) (0) (3) ([]) s t ∧
         Raises ((s.berRefused mask).map (fun k => (0x0408, [w k, w (s.rd (Reg.LANE_TEST.test k))]))) s t ∧
         RegsBut (askRegs src ++ eventRegs) s t ∧
         Frame [.regs, .out, .dmp, .hkc, .power, .evt] s t) ∧
    (∀ (src : Src) (b : Bytes) (q : DmpReq) (mask : Nat),
       (Asks s src b q) →
       (q.op = 5) →
       (s.mayStart kindSelfTest = true) →
       (∀ e ∈ s.hkc.late, e.1 ≠ 0x0A09) →
       (q.payload = toBE 1 kindSelfTest ++ zeros 3 ++ toBE 4 mask) →
       (mask < 4096) →
       (s.jobSt = jobIdle ∨ s.jobSt = jobDone ∨ s.jobSt = jobFault) →
       NextWith (exec (.opSelfTest src b) s) fun t =>
         Answered src q 1 s.newHandle 0 [] s t ∧
         Raises (s.hkc.late ++ [(0x0A03, [w s.newHandle, w kindSelfTest, w 1, w 0])]) s t ∧
         t.opOfKind kindSelfTest = some ⟨s.newHandle, kindSelfTest, .running, 0, 0, s.freeSlot, mask, 0, false, []⟩ ∧
         t.ops.next = s.newHandle % 65535 + 1 ∧
         t.rd Reg.TEST_ST_RESULT.done = 0 ∧
         t.power = { s.power with hbStale := false } ∧
         RegsBut (askRegs src ++ eventRegs ++ [Reg.TEST_ST_RESULT.done]) s t ∧
         Frame [.regs, .out, .dmp, .hkc, .power, .evt, .ops] s t) ∧
    (∀ (src : Src) (b : Bytes) (q : DmpReq) (i : Nat),
       (Asks s src b q) →
       (q.op = 5) →
       (s.mayStart kindFirmware = true) →
       (∀ e ∈ s.hkc.late, e.1 ≠ 0x0A09) →
       (q.payload = toBE 1 kindFirmware ++ zeros 3 ++ toBE 1 i) →
       (i < 16) →
       (s.opOfKind kindSnapshot = none) →
       (s.codec.fwFull.contains i = true) →
       (fwFault s.variant (tabGet [] s.codec.fwStage i) = 0) →
       NextWith (exec (.opFirmwareUpdate src b) s) fun t =>
         Answered src q 1 s.newHandle 0 [] s t ∧
         Raises (s.hkc.late ++ [(0x0A03, [w s.newHandle, w kindFirmware, w 1, w 0])]) s t ∧
         t.opOfKind kindFirmware = some ⟨s.newHandle, kindFirmware, .running, 0, 0, s.freeSlot, i, 0, false, withGen (tabGet [] s.codec.fwStage i) s.fwNextGen⟩ ∧
         t.ops.next = s.newHandle % 65535 + 1 ∧
         t.power = { (s.nvmErase (imageAddr s.fwTarget) imageSlotBytes).power with hbStale := false } ∧
         RegsBut (askRegs src ++ eventRegs) s t ∧
         Frame [.regs, .out, .dmp, .hkc, .power, .evt, .ops] s t) ∧
    (∀ (src : Src) (b : Bytes) (q : DmpReq) (i : Nat),
       (Asks s src b q) →
       (q.op = 5) →
       (s.mayStart kindFirmware = true) →
       (∀ e ∈ s.hkc.late, e.1 ≠ 0x0A09) →
       (q.payload = toBE 1 kindFirmware ++ zeros 3 ++ toBE 1 i) →
       (i < 16) →
       (s.opOfKind kindSnapshot = none) →
       (s.codec.fwFull.contains i = true) →
       (fwFault s.variant (tabGet [] s.codec.fwStage i) ≠ 0) →
       (s.ops.slots = []) →
       NextWith (exec (.opFirmwareUpdate src b) s) fun t =>
         Answered src q 1 s.newHandle 0 [] s t ∧
         Tells 0x0618 [w i, w (fwFault s.variant (tabGet [] s.codec.fwStage i))] s t ∧
         t.ops.done.head?.map (fun o => (o.handle, o.kind, o.st, o.result)) = some (s.newHandle, kindFirmware, .failed, 0x18) ∧
         t.power.nvm = s.power.nvm ∧
         RegsBut (askRegs src ++ eventRegs) s t ∧
         Frame [.regs, .out, .dmp, .hkc, .power, .evt, .ops] s t) ∧
    (∀ (src : Src) (b : Bytes) (q : DmpReq) (i : Nat),
       (Asks s src b q) →
       (q.op = 5) →
       (q.payload = toBE 1 kindFirmware ++ zeros 3 ++ toBE 1 i) →
       (i < 16) →
       (s.codec.fwFull.contains i = false) →
       NextWith (exec (.opFirmwareUpdate src b) s) fun t =>
         Answered src q (1) (0) (3) ([]) s t ∧
         RegsBut (askRegs src) s t ∧
         OnlyRefreshed s t ∧
         Frame [.regs, .out, .dmp, .hkc, .power] s t)

/-- R91 to R96, R340, R397, R398, R400, R402, R405, R426, Table 15.6: a codec context operation takes its streams lowest
first: a checkpoint takes the context between chunks, a save-out freezes the stream and takes it at once, a restore waits for
its image; one whose restore would fail is refused. A suspend or a cancel takes effect at its point: until then the operation
is suspending. A resumed operation runs. A suspend of a suspended operation and a resume of a running one are answered and
change nothing; of a finished one with status 3; an unknown handle with status 5; on a standby the job operation refuses all
of them with status 3, as a resume is refused of a cancelled operation, of a sweep beside a job, and of a job while a
subchannel has failed or the warning holds. OP_STATUS tells kind, state, result and progress. A job cancelled with abandon
ends DONE, its stripe truncated. A job cancelled before or between its stripes is DONE at once, its waiting stripes refused. A
snapshot, a firmware update and a self-test end as their last step finds, or stop there when asked to. That the reading back
is step 5 of 0x080A and reason 4 of 0x0618 is the model's numbering (log 20). -/
def Obligations.OperationsStopAndEnd : Prop :=
  ∀ (s : State),
    (∀ (src : Src) (b : Bytes) (q : DmpReq) (i mask : Nat),
       (Asks s src b q) →
       (q.op = 5) →
       (s.mayStart kindCtx = true) →
       (∀ e ∈ s.hkc.late, e.1 ≠ 0x0A09) →
       (q.payload = toBE 1 kindCtx ++ zeros 3 ++ toBE 1 1 ++ toBE 2 mask) →
       (mask < 65536) →
       (i < 16) →
       (mask.testBit i = true) →
       (∀ j ∈ List.range i, mask.testBit j = false) →
       ((s.stream i).inChunk = false) →
       NextWith (exec (.opCheckpoint src b) s) fun t =>
         Answered src q 1 s.newHandle 0 [] s t ∧
         Raises (s.hkc.late ++ [(0x0A03, [w s.newHandle, w kindCtx, w 1, w 0])]) s t ∧
         (t.opOfKind kindCtx).map (fun o => (o.handle, o.st, o.arg, o.pos, o.image)) = some (s.newHandle, .running, 1 + 4 * mask, i, contextImage i (s.stream i).ctx) ∧
         t.codec = s.codec ∧
         RegsBut (askRegs src ++ eventRegs) s t ∧
         Frame [.regs, .out, .dmp, .hkc, .power, .evt, .ops] s t) ∧
    (∀ (src : Src) (b : Bytes) (q : DmpReq) (i mask : Nat),
       (Asks s src b q) →
       (q.op = 5) →
       (s.mayStart kindCtx = true) →
       (∀ e ∈ s.hkc.late, e.1 ≠ 0x0A09) →
       (q.payload = toBE 1 kindCtx ++ zeros 3 ++ toBE 1 2 ++ toBE 2 mask) →
       (mask < 65536) →
       (i < 16) →
       (mask.testBit i = true) →
       (∀ j ∈ List.range i, mask.testBit j = false) →
       (s.codec.streams.length = 16) →
       NextWith (exec (.opSaveOut src b) s) fun t =>
         Answered src q 1 s.newHandle 0 [] s t ∧
         Raises (s.hkc.late ++ [(0x0A03, [w s.newHandle, w kindCtx, w 1, w 0])]) s t ∧
         (t.opOfKind kindCtx).map (fun o => (o.handle, o.st, o.arg, o.pos, o.image)) = some (s.newHandle, .running, 2 + 4 * mask, i, contextImage i (s.stream i).ctx) ∧
         (t.stream i).frozen = true ∧
         (t.stream i).ctx = (s.stream i).ctx ∧
         (∀ j ∈ List.range 16, j ≠ i → t.stream j = s.stream j) ∧
         RegsBut (askRegs src ++ eventRegs) s t ∧
         Frame [.regs, .out, .dmp, .hkc, .power, .evt, .ops, .codec] s t) ∧
    (∀ (src : Src) (b : Bytes) (q : DmpReq) (i mask : Nat),
       (Asks s src b q) →
       (q.op = 5) →
       (q.payload = toBE 1 kindCtx ++ zeros 3 ++ toBE 1 3 ++ toBE 2 mask) →
       (mask < 65536) →
       (i < 16) →
       (mask.testBit i = true) →
       (s.restorable i = none) →
       NextWith (exec (.opRestore src b) s) fun t =>
         Answered src q (1) (0) (3) ([]) s t ∧
         RegsBut (askRegs src) s t ∧
         OnlyRefreshed s t ∧
         Frame [.regs, .out, .dmp, .hkc, .power] s t) ∧
    (∀ (src : Src) (b : Bytes) (q : DmpReq) (i mask : Nat),
       (Asks s src b q) →
       (q.op = 5) →
       (s.mayStart kindCtx = true) →
       (∀ e ∈ s.hkc.late, e.1 ≠ 0x0A09) →
       (q.payload = toBE 1 kindCtx ++ zeros 3 ++ toBE 1 3 ++ toBE 2 mask) →
       (mask < 65536) →
       (i < 16) →
       (mask.testBit i = true) →
       (∀ j ∈ List.range i, mask.testBit j = false) →
       (s.ctxRefused 3 mask = false) →
       NextWith (exec (.opRestore src b) s) fun t =>
         Answered src q 1 s.newHandle 0 [] s t ∧
         Raises (s.hkc.late ++ [(0x0A03, [w s.newHandle, w kindCtx, w 1, w 0])]) s t ∧
         (t.opOfKind kindCtx).map (fun o => (o.handle, o.st, o.arg, o.pos)) = some (s.newHandle, .running, 3 + 4 * mask, i) ∧
         t.codec = s.codec ∧
         RegsBut (askRegs src ++ eventRegs) s t ∧
         Frame [.regs, .out, .dmp, .hkc, .power, .evt, .ops] s t) ∧
    (∀ (src : Src) (b : Bytes) (q : DmpReq) (o : LongOp),
       (Asks s src b q) →
       (q.op = 6) →
       (q.payload = []) →
       (s.ops.slots.find? (fun x => x.handle = q.handle) = some o) →
       (opFinished o = false) →
       (o.kind = kindScrub) →
       (o.st = .running) →
       (∀ e ∈ s.hkc.late, e.1 ≠ 0x0A09) →
       NextWith (exec (.opSuspend src b) s) fun t =>
         Answered src q 1 q.handle 0 [] s t ∧
         t.findOp q.handle = some { o with st := .suspending } ∧
         Raises (s.hkc.late ++ [(0x0A03, [w o.handle, w o.kind, w 2, w o.result])]) s t ∧
         t.dram = s.dram ∧
         t.power = { s.power with hbStale := false } ∧
         RegsBut (askRegs src ++ eventRegs) s t ∧
         Frame [.regs, .out, .dmp, .hkc, .power, .evt, .ops] s t) ∧
    (∀ (src : Src) (b : Bytes) (q : DmpReq) (o : LongOp),
       (Asks s src b q) →
       (q.op = 6) →
       (q.payload = []) →
       (s.ops.slots.find? (fun x => x.handle = q.handle) = some o) →
       (opFinished o = false) →
       (o.kind = kindSweep) →
       (o.st = .running) →
       (s.cal.window = none) →
       (∀ e ∈ s.hkc.late, e.1 ≠ 0x0A09) →
       NextWith (exec (.opSuspend src b) s) fun t =>
         Answered src q 1 q.handle 0 [] s t ∧
         t.findOp q.handle = some { o with st := .suspended } ∧
         Raises (s.hkc.late ++ [(0x0A03, [w o.handle, w o.kind, w 2, w o.result])]) s t ∧
         t.hkc.late = [(0x0A03, [w o.handle, w o.kind, w 3, w o.result])] ∧
         t.power = { s.power with hbStale := false } ∧
         RegsBut (askRegs src ++ eventRegs) s t ∧
         Frame [.regs, .out, .dmp, .hkc, .power, .evt, .ops] s t) ∧
    (∀ (src : Src) (b : Bytes) (q : DmpReq) (o : LongOp),
       (Asks s src b q) →
       (q.op = 6) →
       (q.payload = []) →
       (s.ops.slots.find? (fun x => x.handle = q.handle) = some o) →
       (opFinished o = false) →
       (o.kind = kindJob) →
       (o.st = .running) →
       (s.jobSt = jobExposing) →
       (s.role ≠ roleStandby) →
       (∀ e ∈ s.hkc.late, e.1 ≠ 0x0A09) →
       NextWith (exec (.opSuspend src b) s) fun t =>
         Answered src q 1 q.handle 0 [] s t ∧
         t.findOp q.handle = some { o with st := .suspending } ∧
         t.job = { s.job with suspendPending := true } ∧
         t.jobSt = jobExposing ∧
         Raises (s.hkc.late ++ [(0x0A03, [w o.handle, w o.kind, w 2, w o.result])]) s t ∧
         RegsBut (askRegs src ++ eventRegs) s t ∧
         Frame [.regs, .out, .dmp, .hkc, .power, .evt, .ops, .job] s t) ∧
    (∀ (src : Src) (b : Bytes) (q : DmpReq) (o : LongOp),
       (Asks s src b q) →
       (q.op = 6) →
       (q.payload = []) →
       (s.ops.slots.find? (fun x => x.handle = q.handle) = some o) →
       (opFinished o = false) →
       (o.kind = kindJob) →
       (o.st = .running) →
       (s.jobSt = jobArmed) →
       (s.current = none) →
       (s.role ≠ roleStandby) →
       (s.opOfKind kindJob = some o) →
       (∀ e ∈ s.hkc.late, e.1 ≠ 0x0A09) →
       NextWith (exec (.opSuspend src b) s) fun t =>
         Answered src q 1 q.handle 0 [] s t ∧
         t.jobSt = jobSuspended ∧
         t.findOp q.handle = some { o with st := .suspended } ∧
         (∀ x ∈ t.sieve.stripes, x.firstTick = none) ∧
         t.rd Reg.TIME_TRIG0_CTRL.pending = 0 ∧
         Tells 0x0A03 [w o.handle, w o.kind, w 2, w o.result] s t ∧
         RegsBut (askRegs src ++ eventRegs ++ ([Reg.GLOBAL_JOB.state, Reg.TIME_TRIG0_CTRL.pending] ++ mirrorRegs)) s t ∧
         Frame [.regs, .out, .dmp, .hkc, .power, .evt, .ops, .job, .sieve, .pair] s t) ∧
    (∀ (src : Src) (b : Bytes) (q : DmpReq) (o : LongOp),
       (Asks s src b q) →
       (q.op = 6) →
       (q.payload = []) →
       (s.ops.slots.find? (fun x => x.handle = q.handle) = some o) →
       (opFinished o = false) →
       (o.kind ≠ kindJob) →
       (o.st = .suspended) →
       NextWith (exec (.opSuspend src b) s) fun t =>
         Answered src q 1 q.handle 0 [] s t ∧
         t.ops = s.ops ∧
         RegsBut (askRegs src) s t ∧
         OnlyRefreshed s t ∧
         Frame [.regs, .out, .dmp, .hkc, .power] s t) ∧
    (∀ (src : Src) (b : Bytes) (q : DmpReq) (o : LongOp),
       (Asks s src b q) →
       (q.op = 6) →
       (q.payload = []) →
       (s.findOp q.handle = some o) →
       (opFinished o = true) →
       NextWith (exec (.opSuspend src b) s) fun t =>
         Answered src q 1 q.handle 3 [] s t ∧
         RegsBut (askRegs src) s t ∧
         OnlyRefreshed s t ∧
         Frame [.regs, .out, .dmp, .hkc, .power] s t) ∧
    (∀ (src : Src) (b : Bytes) (q : DmpReq),
       (Asks s src b q) →
       (q.op = 6) →
       (q.payload = []) →
       (s.findOp q.handle = none) →
       NextWith (exec (.opSuspend src b) s) fun t =>
         Answered src q (1) (0) (5) ([]) s t ∧
         RegsBut (askRegs src) s t ∧
         OnlyRefreshed s t ∧
         Frame [.regs, .out, .dmp, .hkc, .power] s t) ∧
    (∀ (src : Src) (b : Bytes) (q : DmpReq) (o : LongOp),
       (Asks s src b q) →
       (q.op = 7) →
       (q.payload = []) →
       (s.ops.slots.find? (fun x => x.handle = q.handle) = some o) →
       (opFinished o = false) →
       (o.kind = kindScrub) →
       (o.st = .suspended) →
       (o.cancelling = false) →
       (∀ e ∈ s.hkc.late, e.1 ≠ 0x0A09) →
       NextWith (exec (.opResume src b) s) fun t =>
         Answered src q 1 q.handle 0 [] s t ∧
         t.findOp q.handle = some { o with st := .running } ∧
         t.dram = { s.dram with scrubOp := true } ∧
         Raises (s.hkc.late ++ [(0x0A03, [w o.handle, w o.kind, w 1, w o.result])]) s t ∧
         t.power = { s.power with hbStale := false } ∧
         RegsBut (askRegs src ++ eventRegs) s t ∧
         Frame [.regs, .out, .dmp, .hkc, .power, .evt, .ops, .dram] s t) ∧
    (∀ (src : Src) (b : Bytes) (q : DmpReq) (o : LongOp),
       (Asks s src b q) →
       (q.op = 7) →
       (q.payload = []) →
       (s.ops.slots.find? (fun x => x.handle = q.handle) = some o) →
       (opFinished o = false) →
       (o.kind = kindJob) →
       (o.st = .suspended) →
       (o.cancelling = false) →
       (s.role ≠ roleStandby) →
       (s.rd Reg.DMC_STATUS.sc_failed ≠ 0 ∨ s.rd Reg.PWR_THERM.warning = 1) →
       NextWith (exec (.opResume src b) s) fun t =>
         Answered src q 1 q.handle 3 [] s t ∧
         RegsBut (askRegs src) s t ∧
         OnlyRefreshed s t ∧
         Frame [.regs, .out, .dmp, .hkc, .power] s t) ∧
    (∀ (src : Src) (b : Bytes) (q : DmpReq) (o : LongOp),
       (Asks s src b q) →
       (q.op = 7) →
       (q.payload = []) →
       (s.ops.slots.find? (fun x => x.handle = q.handle) = some o) →
       (opFinished o = false) →
       (o.kind = kindJob) →
       (o.st = .suspended) →
       (o.cancelling = false) →
       (s.role = roleSolo) →
       (s.jobSt = jobSuspended) →
       (s.rd Reg.DMC_STATUS.sc_failed = 0) →
       (s.rd Reg.PWR_THERM.warning = 0) →
       (s.rd Reg.GLOBAL_JOB.end_given = 0) →
       NextWith (exec (.opResume src b) s) fun t =>
         Answered src q 1 q.handle 0 [] s t ∧
         t.jobSt = jobArmed ∧
         t.findOp q.handle = some { o with st := .running } ∧
         Tells 0x0A02 [w jobSuspended, w jobArmed] s t ∧
         Frame [.regs, .out, .dmp, .hkc, .power, .evt, .ops, .cal] s t) ∧
    (∀ (src : Src) (b : Bytes) (q : DmpReq) (o : LongOp),
       (Asks s src b q) →
       (q.op = 7) →
       (q.payload = []) →
       (s.ops.slots.find? (fun x => x.handle = q.handle) = some o) →
       (opFinished o = false) →
       (o.kind ≠ kindJob) →
       (o.st = .running) →
       NextWith (exec (.opResume src b) s) fun t =>
         Answered src q 1 q.handle 0 [] s t ∧
         t.ops = s.ops ∧
         RegsBut (askRegs src) s t ∧
         OnlyRefreshed s t ∧
         Frame [.regs, .out, .dmp, .hkc, .power] s t) ∧
    (∀ (src : Src) (b : Bytes) (q : DmpReq) (o : LongOp),
       (Asks s src b q) →
       (q.op = 8) →
       (q.payload = toBE 4 0) →
       (s.ops.slots.find? (fun x => x.handle = q.handle) = some o) →
       (opFinished o = false) →
       (o.kind = kindScrub) →
       (o.st = .running) →
       (∀ e ∈ s.hkc.late, e.1 ≠ 0x0A09) →
       NextWith (exec (.opCancel src b) s) fun t =>
         Answered src q 1 q.handle 0 [] s t ∧
         t.findOp q.handle = some { o with st := .suspending, cancelling := true } ∧
         Raises (s.hkc.late ++ [(0x0A03, [w o.handle, w o.kind, w 2, w o.result])]) s t ∧
         t.power = { s.power with hbStale := false } ∧
         RegsBut (askRegs src ++ eventRegs) s t ∧
         Frame [.regs, .out, .dmp, .hkc, .power, .evt, .ops] s t) ∧
    (∀ (src : Src) (b : Bytes) (q : DmpReq) (o : LongOp),
       (Asks s src b q) →
       (q.op = 8) →
       (q.payload = toBE 4 0) →
       (s.ops.slots.find? (fun x => x.handle = q.handle) = some o) →
       (opFinished o = false) →
       (o.kind = kindSweep) →
       (o.st = .suspended) →
       (∀ e ∈ s.hkc.late, e.1 ≠ 0x0A09) →
       NextWith (exec (.opCancel src b) s) fun t =>
         Answered src q 1 q.handle 0 [] s t ∧
         t.ops.done = ({ o with st := .cancelled, cancelling := true, image := [] } :: s.ops.done).take 64 ∧
         Raises (s.hkc.late ++ [(0x0A03, [w o.handle, w o.kind, w 2, w o.result])]) s t ∧
         t.power = { s.power with hbStale := false } ∧
         RegsBut (askRegs src ++ eventRegs) s t ∧
         Frame [.regs, .out, .dmp, .hkc, .power, .evt, .ops] s t) ∧
    (∀ (src : Src) (b : Bytes) (q : DmpReq) (o : LongOp),
       (Asks s src b q) →
       (q.op = 8) →
       (q.payload = toBE 4 0) →
       (s.ops.slots.find? (fun x => x.handle = q.handle) = some o) →
       (opFinished o = false) →
       (o.kind = kindJob) →
       (o.st = .running) →
       (s.jobSt = jobExposing) →
       (s.role ≠ roleStandby) →
       (∀ e ∈ s.hkc.late, e.1 ≠ 0x0A09) →
       NextWith (exec (.opCancel src b) s) fun t =>
         Answered src q 1 q.handle 0 [] s t ∧
         t.findOp q.handle = some { o with st := .suspending, cancelling := true } ∧
         t.job = { s.job with cancelPending := true } ∧
         Raises (s.hkc.late ++ [(0x0A03, [w o.handle, w o.kind, w 2, w o.result])]) s t ∧
         RegsBut (askRegs src ++ eventRegs) s t ∧
         Frame [.regs, .out, .dmp, .hkc, .power, .evt, .ops, .job] s t) ∧
    (∀ (src : Src) (b : Bytes) (q : DmpReq) (o : LongOp) (x : Stripe),
       (Asks s src b q) →
       (q.op = 8) →
       (q.payload = toBE 4 1) →
       (s.ops.slots.find? (fun x => x.handle = q.handle) = some o) →
       (opFinished o = false) →
       (o.kind = kindJob) →
       (s.role ≠ roleStandby) →
       (s.current = some x) →
       (s.stripe x.d.seq = some x) →
       (x.launched < x.computed) →
       (∀ e ∈ s.hkc.late, e.1 ≠ 0x0A09) →
       NextWith (exec (.opCancelAbandon src b) s) fun t =>
         Answered src q 1 q.handle 0 [] s t ∧
         t.findOp q.handle = some { o with st := .suspending, cancelling := true } ∧
         t.job = { s.job with cancelPending := true } ∧
         t.stripe x.d.seq = some { x with truncated := true, fixed := x.computed } ∧
         t.shot.tlog = s.shot.tlog.filter (fun e => e.seq ≠ x.d.seq || decide (e.s < x.computed)) ∧
         StripesBut x.d.seq s t ∧
         RegsBut (askRegs src ++ eventRegs) s t ∧
         Frame [.regs, .out, .dmp, .hkc, .power, .evt, .ops, .job, .shot, .sieve] s t) ∧
    (∀ (src : Src) (b : Bytes) (q : DmpReq) (o : LongOp) (x : Stripe),
       (Asks s src b q) →
       (q.op = 8) →
       (q.payload = toBE 4 1) →
       (s.ops.slots.find? (fun x => x.handle = q.handle) = some o) →
       (opFinished o = false) →
       (o.kind = kindJob) →
       (s.opOfKind kindJob = some o) →
       (s.role ≠ roleStandby) →
       (s.current = some x) →
       (s.stripe x.d.seq = some x) →
       (x.computed = x.launched) →
       (s.jobSt = jobExposing) →
       NextWith (exec (.opCancelAbandon src b) s) fun t =>
         Answered src q 1 q.handle 0 [] s t ∧
         t.jobSt = jobDone ∧
         t.rd Reg.GLOBAL_JOB.cancelled = 1 ∧
         (t.stripe x.d.seq).map (fun y => (y.st, y.truncated, y.launched)) = some (.done, true, x.launched) ∧
         t.ops.done.head?.map (fun p => (p.handle, p.st)) = some (o.handle, .cancelled) ∧
         (0x0A06, [w x.d.seq, w (toField 32 (wrongLines x.d ((x.launched : Int) - 1)).1), w (toField 32 (wrongLines x.d ((x.launched : Int) - 1)).2)]) ∈ t.hkc.late) ∧
    (∀ (src : Src) (b : Bytes) (q : DmpReq) (o : LongOp) (c : Instr),
       (Asks s src b q) →
       (((q.op = 6 ∨ q.op = 7) ∧ q.payload = []) ∨ (q.op = 8 ∧ (q.payload = toBE 4 0 ∨ q.payload = toBE 4 1))) →
       (c ∈ [.opSuspend src b, .opResume src b, .opCancel src b, .opCancelAbandon src b]) →
       (s.ops.slots.find? (fun x => x.handle = q.handle) = some o) →
       (opFinished o = false) →
       (o.kind = kindJob) →
       (s.role = roleStandby) →
       NextWith (exec (c) s) fun t =>
         Answered src q 1 q.handle 3 [] s t ∧
         RegsBut (askRegs src) s t ∧
         OnlyRefreshed s t ∧
         Frame [.regs, .out, .dmp, .hkc, .power] s t) ∧
    (∀ (src : Src) (b : Bytes) (q : DmpReq) (o : LongOp) (c : Instr),
       (Asks s src b q) →
       (((q.op = 6 ∨ q.op = 7) ∧ q.payload = []) ∨ (q.op = 8 ∧ (q.payload = toBE 4 0 ∨ q.payload = toBE 4 1))) →
       (c ∈ [.opSuspend src b, .opResume src b, .opCancel src b, .opCancelAbandon src b]) →
       (s.findOp q.handle = some o) →
       (opFinished o = true) →
       NextWith (exec (c) s) fun t =>
         Answered src q 1 q.handle 3 [] s t ∧
         RegsBut (askRegs src) s t ∧
         OnlyRefreshed s t ∧
         Frame [.regs, .out, .dmp, .hkc, .power] s t) ∧
    (∀ (src : Src) (b : Bytes) (q : DmpReq) (c : Instr),
       (Asks s src b q) →
       (((q.op = 6 ∨ q.op = 7) ∧ q.payload = []) ∨ (q.op = 8 ∧ (q.payload = toBE 4 0 ∨ q.payload = toBE 4 1))) →
       (c ∈ [.opSuspend src b, .opResume src b, .opCancel src b, .opCancelAbandon src b]) →
       (s.findOp q.handle = none) →
       NextWith (exec (c) s) fun t =>
         Answered src q (1) (0) (5) ([]) s t ∧
         RegsBut (askRegs src) s t ∧
         OnlyRefreshed s t ∧
         Frame [.regs, .out, .dmp, .hkc, .power] s t) ∧
    (∀ (src : Src) (b : Bytes) (q : DmpReq) (o : LongOp),
       (Asks s src b q) →
       (q.op = 6) →
       (q.payload = []) →
       (s.ops.slots.find? (fun x => x.handle = q.handle) = some o) →
       (opFinished o = false) →
       (o.st = .running ∨ o.st = .waiting) →
       (o.kind = kindJob → s.role ≠ roleStandby ∧ s.opOfKind kindJob = some o) →
       NextWith (exec (.opSuspend src b) s) fun t =>
         Answered src q 1 q.handle 0 [] s t ∧
         (t.findOp q.handle).any (fun p => decide (p.st = .suspending) || decide (p.st = .suspended)) = true ∧
         Tells 0x0A03 [w o.handle, w o.kind, w 2, w o.result] s t) ∧
    (∀ (src : Src) (b : Bytes) (q : DmpReq) (o : LongOp),
       (Asks s src b q) →
       (q.op = 7) →
       (q.payload = []) →
       (s.ops.slots.find? (fun x => x.handle = q.handle) = some o) →
       (opFinished o = false) →
       (o.st = .suspended) →
       (o.cancelling = false) →
       (o.kind ≠ kindJob) →
       (o.kind = kindSweep → s.jobRuns = false) →
       NextWith (exec (.opResume src b) s) fun t =>
         Answered src q 1 q.handle 0 [] s t ∧
         (Tells 0x0A03 [w o.handle, w o.kind, w 1, w o.result] s t ∨ Tells 0x0A03 [w o.handle, w o.kind, w 7, w o.result] s t)) ∧
    (∀ (src : Src) (b : Bytes) (q : DmpReq) (o : LongOp),
       (Asks s src b q) →
       (q.op = 7) →
       (q.payload = []) →
       (s.ops.slots.find? (fun x => x.handle = q.handle) = some o) →
       (opFinished o = false) →
       (o.st = .suspending) →
       (o.cancelling = false) →
       (o.kind = kindJob → s.role ≠ roleStandby ∧ s.rd Reg.DMC_STATUS.sc_failed = 0 ∧ s.rd Reg.PWR_THERM.warning = 0) →
       (o.kind = kindSweep → s.jobRuns = false) →
       (∀ e ∈ s.hkc.late, e.1 ≠ 0x0A09) →
       NextWith (exec (.opResume src b) s) fun t =>
         Answered src q 1 q.handle 0 [] s t ∧
         t.findOp q.handle = some { o with st := .running } ∧
         (o.kind = kindJob → t.job.suspendPending = false) ∧
         Raises (s.hkc.late ++ [(0x0A03, [w o.handle, w o.kind, w 1, w o.result])]) s t ∧
         RegsBut (askRegs src ++ eventRegs) s t ∧
         Frame [.regs, .out, .dmp, .hkc, .power, .evt, .ops, .job] s t) ∧
    (∀ (src : Src) (b : Bytes) (q : DmpReq) (o : LongOp),
       (Asks s src b q) →
       (q.op = 7) →
       (q.payload = []) →
       (s.ops.slots.find? (fun x => x.handle = q.handle) = some o) →
       (opFinished o = false) →
       (o.st = .suspended ∨ o.st = .suspending) →
       (o.cancelling = true ∨ (o.kind = kindSweep ∧ s.jobRuns = true) ∨ (o.kind = kindJob ∧ (s.rd Reg.DMC_STATUS.sc_failed ≠ 0 ∨ s.rd Reg.PWR_THERM.warning = 1))) →
       NextWith (exec (.opResume src b) s) fun t =>
         Answered src q 1 q.handle 3 [] s t ∧
         RegsBut (askRegs src) s t ∧
         OnlyRefreshed s t ∧
         Frame [.regs, .out, .dmp, .hkc, .power] s t) ∧
    (∀ (src : Src) (b : Bytes) (q : DmpReq) (o : LongOp) (c : Instr),
       (Asks s src b q) →
       (q.op = 8) →
       ((q.payload = toBE 4 0 ∧ c = .opCancel src b) ∨ (q.payload = toBE 4 1 ∧ c = .opCancelAbandon src b)) →
       (s.ops.slots.find? (fun x => x.handle = q.handle) = some o) →
       (opFinished o = false) →
       (o.st ≠ .suspending) →
       (o.kind = kindJob → s.role ≠ roleStandby) →
       NextWith (exec (c) s) fun t =>
         Answered src q 1 q.handle 0 [] s t ∧
         Tells 0x0A03 [w o.handle, w o.kind, w 2, w o.result] s t) ∧
    (∀ (src : Src) (b : Bytes) (q : DmpReq) (o : LongOp) (c : Instr),
       (Asks s src b q) →
       (q.op = 8) →
       ((q.payload = toBE 4 0 ∧ c = .opCancel src b) ∨ (q.payload = toBE 4 1 ∧ c = .opCancelAbandon src b)) →
       (s.ops.slots.find? (fun x => x.handle = q.handle) = some o) →
       (opFinished o = false) →
       (o.kind ≠ kindJob) →
       (o.st = .running ∨ o.st = .waiting) →
       (s.atPoint o = false) →
       (∀ e ∈ s.hkc.late, e.1 ≠ 0x0A09) →
       NextWith (exec (c) s) fun t =>
         Answered src q 1 q.handle 0 [] s t ∧
         t.findOp q.handle = some { o with st := .suspending, cancelling := true } ∧
         Raises (s.hkc.late ++ [(0x0A03, [w o.handle, w o.kind, w 2, w o.result])]) s t ∧
         t.power = { s.power with hbStale := false } ∧
         RegsBut (askRegs src ++ eventRegs) s t ∧
         Frame [.regs, .out, .dmp, .hkc, .power, .evt, .ops] s t) ∧
    (∀ (src : Src) (b : Bytes) (q : DmpReq) (o : LongOp) (c : Instr),
       (Asks s src b q) →
       (q.op = 8) →
       ((q.payload = toBE 4 0 ∧ c = .opCancel src b) ∨ (q.payload = toBE 4 1 ∧ c = .opCancelAbandon src b)) →
       (s.ops.slots.find? (fun x => x.handle = q.handle) = some o) →
       (opFinished o = false) →
       (o.kind = kindJob) →
       (s.opOfKind kindJob = some o) →
       (s.role ≠ roleStandby) →
       (s.current = none) →
       (s.jobSt = jobArmed ∨ s.jobSt = jobTurnaround ∨ s.jobSt = jobSuspended) →
       NextWith (exec (c) s) fun t =>
         Answered src q 1 q.handle 0 [] s t ∧
         t.jobSt = jobDone ∧
         t.rd Reg.GLOBAL_JOB.cancelled = 1 ∧
         (t.queue.all (fun y => decide (y.st ≠ .pending ∧ y.st ≠ .admitted)) = true) ∧
         t.ops.done.head?.map (fun p => (p.handle, p.st)) = some (o.handle, .cancelled)) ∧
    (∀ (src : Src) (b : Bytes) (q : DmpReq),
       (Asks s src b q) →
       (q.op = 9) →
       (q.payload = []) →
       (s.findOp q.handle = none) →
       NextWith (exec (.opStatus src b) s) fun t =>
         Answered src q (1) (0) (5) ([]) s t ∧
         RegsBut (askRegs src) s t ∧
         OnlyRefreshed s t ∧
         Frame [.regs, .out, .dmp, .hkc, .power] s t) ∧
    (∀ (src : Src) (b : Bytes) (q : DmpReq) (o : LongOp),
       (Asks s src b q) →
       (q.op = 9) →
       (q.payload = []) →
       (s.findOp q.handle = some o) →
       NextWith (exec (.opStatus src b) s) fun t =>
         Answered src q 1 q.handle 0 (toBE 1 o.kind ++ toBE 1 (opCode o.st) ++ toBE 1 o.result ++ toBE 1 0 ++ toBE 2 o.permille ++ toBE 2 0) s t ∧
         RegsBut (askRegs src) s t ∧
         OnlyRefreshed s t ∧
         Frame [.regs, .out, .dmp, .hkc, .power] s t) ∧
    (∀ (c : Instr) (k n : Nat) (l : List Nat) (ok : Bool) (o : LongOp),
       (((c = .snapshotDone ok ∧ k = kindSnapshot) ∨ (c = .firmwareUpdateDone ok ∧ k = kindFirmware) ∨ (c = .selfTestDone n l ∧ k = kindSelfTest))) →
       (s.opOfKind k = none ∨ (s.opOfKind k = some o ∧ o.cancelling = false ∧ (o.st = .suspended ∨ o.st = .waiting))) →
       NextWith (exec (c) s) fun t =>
         t = s) ∧
    (∀ (c : Instr) (k n : Nat) (l : List Nat) (ok : Bool) (o : LongOp),
       (((c = .snapshotDone ok ∧ k = kindSnapshot) ∨ (c = .firmwareUpdateDone ok ∧ k = kindFirmware) ∨ (c = .selfTestDone n l ∧ k = kindSelfTest))) →
       (s.opOfKind k = some o) →
       (s.ops.slots.find? (fun x => x.handle = o.handle) = some o) →
       (o.st = .suspending) →
       (o.cancelling = false) →
       NextWith (exec (c) s) fun t =>
         t.findOp o.handle = some { o with st := .suspended } ∧
         t.hkc.late = s.hkc.late ++ [(0x0A03, [w o.handle, w o.kind, w 3, w o.result])] ∧
         Frame [.hkc, .ops] s t) ∧
    (∀ (c : Instr) (k n : Nat) (l : List Nat) (ok : Bool) (o : LongOp),
       (((c = .snapshotDone ok ∧ k = kindSnapshot) ∨ (c = .firmwareUpdateDone ok ∧ k = kindFirmware) ∨ (c = .selfTestDone n l ∧ k = kindSelfTest))) →
       (s.opOfKind k = some o) →
       (s.ops.slots.find? (fun x => x.handle = o.handle) = some o) →
       (o.cancelling = true) →
       NextWith (exec (c) s) fun t =>
         t.findOp o.handle = some { o with st := .cancelled, image := [] } ∧
         t.hkc.late = s.hkc.late ++ [(0x0A03, [w o.handle, w o.kind, w 6, w o.result])] ∧
         (k = kindSnapshot → t.nvmByte (snapAddr o.arg) = 0xFF#8) ∧
         (k = kindFirmware → t.nvmByte (imageAddr s.fwTarget) = 0xFF#8) ∧
         RegsBut [Reg.TEST_ST_RESULT.done, Reg.TEST_ST_RESULT.pass, Reg.TEST_ST_RESULT.failed_id, Reg.TEST_ST_COUNT.tested, Reg.TEST_ST_COUNT.failed, Reg.NVL_GEN_A.gen, Reg.NVL_GEN_B.gen] s t ∧
         Frame [.regs, .hkc, .ops, .power] s t) ∧
    (∀ (o : LongOp),
       (s.opOfKind kindSnapshot = some o) →
       (s.ops.slots.find? (fun x => x.handle = o.handle) = some o) →
       (o.st = .running) →
       (o.cancelling = false) →
       NextWith (exec (.snapshotDone true) s) fun t =>
         t.power = (s.nvmWrite (snapAddr o.arg) o.image).power ∧
         t.rd Reg.CAL_SNAP_GEN.gen = beAt o.image 4 4 % 2 ^ Reg.CAL_SNAP_GEN.gen.width ∧
         Raises [(0x0809, [w o.arg, w (beAt o.image 4 4)])] s t ∧
         t.findOp o.handle = some { o with st := .done, permille := 1000, image := [] } ∧
         RegsBut (Reg.CAL_SNAP_GEN.gen :: eventRegs) s t ∧
         Frame [.regs, .out, .evt, .hkc, .ops, .power] s t) ∧
    (∀ (o : LongOp),
       (s.opOfKind kindSnapshot = some o) →
       (s.ops.slots.find? (fun x => x.handle = o.handle) = some o) →
       (o.st = .running) →
       (o.cancelling = false) →
       NextWith (exec (.snapshotDone false) s) fun t =>
         Raises [(0x080A, [w o.arg, w stepReadBack])] s t ∧
         t.findOp o.handle = some { o with st := .failed, result := 0x0A, image := [] } ∧
         RegsBut eventRegs s t ∧
         Frame [.regs, .out, .evt, .hkc, .ops] s t) ∧
    (∀ (o : LongOp),
       (s.opOfKind kindFirmware = some o) →
       (s.ops.slots.find? (fun x => x.handle = o.handle) = some o) →
       (o.st = .running) →
       (o.cancelling = false) →
       NextWith (exec (.firmwareUpdateDone true) s) fun t =>
         t.power = (s.nvmWrite (imageAddr s.fwTarget) o.image).power ∧
         t.rd Reg.NVL_GEN_A.gen = t.slotGen 0 % 2 ^ Reg.NVL_GEN_A.gen.width ∧
         t.rd Reg.NVL_GEN_B.gen = t.slotGen 1 % 2 ^ Reg.NVL_GEN_B.gen.width ∧
         t.findOp o.handle = some { o with st := .done, permille := 1000, image := [] } ∧
         RegsBut [Reg.NVL_GEN_A.gen, Reg.NVL_GEN_B.gen] s t ∧
         Frame [.regs, .hkc, .ops, .power] s t) ∧
    (∀ (o : LongOp),
       (s.opOfKind kindFirmware = some o) →
       (s.ops.slots.find? (fun x => x.handle = o.handle) = some o) →
       (o.st = .running) →
       (o.cancelling = false) →
       NextWith (exec (.firmwareUpdateDone false) s) fun t =>
         Raises [(0x0618, [w o.arg, w fwReadBack])] s t ∧
         t.findOp o.handle = some { o with st := .failed, result := 0x18, image := [] } ∧
         RegsBut ([Reg.NVL_GEN_A.gen, Reg.NVL_GEN_B.gen] ++ eventRegs) s t ∧
         Frame [.regs, .out, .evt, .hkc, .ops] s t) ∧
    (∀ (tested : Nat) (failed : List Nat) (o : LongOp),
       (s.opOfKind kindSelfTest = some o) →
       (s.ops.slots.find? (fun x => x.handle = o.handle) = some o) →
       (o.st = .running) →
       (o.cancelling = false) →
       NextWith (exec (.selfTestDone tested failed) s) fun t =>
         t.rd Reg.TEST_ST_RESULT.done = 1 ∧
         t.rd Reg.TEST_ST_RESULT.pass = b2n failed.isEmpty ∧
         t.rd Reg.TEST_ST_RESULT.failed_id = failed.headD 0 % 2 ^ Reg.TEST_ST_RESULT.failed_id.width ∧
         t.rd Reg.TEST_ST_COUNT.tested = tested % 2 ^ Reg.TEST_ST_COUNT.tested.width ∧
         t.rd Reg.TEST_ST_COUNT.failed = failed.length % 2 ^ Reg.TEST_ST_COUNT.failed.width ∧
         t.findOp o.handle = some { o with st := .done, permille := 1000 } ∧
         RegsBut [Reg.TEST_ST_RESULT.done, Reg.TEST_ST_RESULT.pass, Reg.TEST_ST_RESULT.failed_id, Reg.TEST_ST_COUNT.tested, Reg.TEST_ST_COUNT.failed] s t ∧
         Frame [.regs, .hkc, .ops] s t)

/-- R410, R411, R413, R448: an EVENT_ACK acknowledges every entry up to its index for the subscriber it comes from; a write of
1 to EVT_ACK_ALL acknowledges every entry for every subscriber. Every resend_ms the pending entries of a subscriber go out
again, oldest first, at most 16 in a message. A subscriber that has acknowledged nothing for 1 s is dropped, with event
0x0A09. At its reconciliation the HKC takes over the data path's values, raises 0x0A07 for each that differs and tells the
changes it had not told. An SMBus read at the module's address is answered with the register and its CRC-8, and with all ones
for any register but those of R448. When the 1 s begins is the model's choice (log 47). -/
def Obligations.EventsAreAcknowledgedAndResent : Prop :=
  ∀ (s : State),
    (∀ (src : Src) (b : Bytes) (q : DmpReq) (i : Nat),
       (Asks s src b q) →
       (q.op = 0x0B) →
       (q.payload = toBE 4 i) →
       (i < 2 ^ 32) →
       NextWith (exec (.eventAck src b) s) fun t =>
         Answered src q (1) (0) (0) ([]) s t ∧
         t.evt = { s.evt with subs := s.evt.subs.map (fun u => if sameSub u.src src then { u with acked := Nat.max u.acked (Nat.min (i + 1) (s.rd Reg.EVT_INDEX.next)), lastAck := s.now } else u) } ∧
         (∀ e ∈ t.evt.ring, e.index ≤ i → e.index < s.rd Reg.EVT_INDEX.next → ∀ u ∈ t.evt.subs, sameSub u.src src = true → ¬ u.acked ≤ e.index) ∧
         RegsBut (askRegs src) s t ∧
         OnlyRefreshed s t ∧
         Frame [.regs, .out, .dmp, .hkc, .power, .evt] s t) ∧
    (∀ (src : Src) (b : Bytes) (q : DmpReq),
       (Asks s src b q) →
       (q.op = 0x0B) →
       (q.payload.length ≠ 4) →
       NextWith (exec (.eventAck src b) s) fun t =>
         Answered src q (1) (0) (1) ([]) s t ∧
         RegsBut (askRegs src) s t ∧
         OnlyRefreshed s t ∧
         Frame [.regs, .out, .dmp, .hkc, .power] s t) ∧
    (NextWith (exec (.evtAckAll true) s) fun t =>
       t.evt = { s.evt with ackedAll := s.rd Reg.EVT_INDEX.next, subs := s.evt.subs.map (fun u => { u with acked := s.rd Reg.EVT_INDEX.next, lastAck := s.now }) } ∧
       (∀ e ∈ t.evt.ring, e.index < s.rd Reg.EVT_INDEX.next → evtPending t.evt e = false) ∧
       Frame [.evt] s t) ∧
    (NextWith (exec (.evtAckAll false) s) fun t =>
       t = s) ∧
    (∀ (u : Subscriber) (es : List EvtEntry),
       (s.evt.lastSend + 1000000 * s.rd Reg.EVT_CTRL.resend_ms ≤ s.now) →
       (s.evt.subs = [u]) →
       ((s.evt.ring.filter (fun e => evtPending s.evt e && decide (u.acked ≤ e.index))).reverse = es) →
       NextWith (exec (.eventResend) s) fun t =>
         (∀ k ∈ List.range ((es.length + 15) / 16), Sends (.udp 47101 u.src (eventMsg { u with count := u.count + k } ((es.drop (16 * k)).take 16))) s t) ∧
         t.evt = { s.evt with lastSend := s.now, subs := [{ u with count := u.count + (es.length + 15) / 16 }] } ∧
         t.out.length = s.out.length + (es.length + 15) / 16 ∧
         RegsBut [Reg.PORT_TX_FRAMES.frames u.src.iface] s t ∧
         Frame [.regs, .out, .evt] s t) ∧
    (∀ (u : Subscriber) (es : List EvtEntry),
       (s.evt.lastSend + 1000000 * s.rd Reg.EVT_CTRL.resend_ms ≤ s.now) →
       (u ∈ s.evt.subs) →
       ((s.evt.ring.filter (fun e => evtPending s.evt e && decide (u.acked ≤ e.index))).reverse = es) →
       (0 < es.length) →
       (es.length ≤ 16) →
       NextWith (exec (.eventResend) s) fun t =>
         Sends (.udp 47101 u.src (eventMsg u es)) s t ∧
         t.evt.lastSend = s.now ∧
         t.evt.ring = s.evt.ring ∧
         t.evt.subs.map (fun x => (x.src, x.acked, x.lastAck)) = s.evt.subs.map (fun x => (x.src, x.acked, x.lastAck)) ∧
         RegsBut (s.evt.subs.map (fun x => Reg.PORT_TX_FRAMES.frames x.src.iface)) s t ∧
         Frame [.regs, .out, .evt] s t) ∧
    ((s.now < s.evt.lastSend + 1000000 * s.rd Reg.EVT_CTRL.resend_ms) →
     NextWith (exec (.eventResend) s) fun t =>
       t = s) ∧
    (∀ (u : Subscriber) (k : Nat),
       (s.evt.subs.findIdx? (fun x => s.silent x) = some k) →
       (s.evt.subs[k]? = some u) →
       NextWith (exec (.subscriberDrop) s) fun t =>
         t.evt.subs.map (fun x => x.src) = (s.evt.subs.filter (fun x => !sameSub x.src u.src)).map (fun x => x.src) ∧
         Tells 0x0A09 [w k, w u.acked] s t ∧
         RegsBut eventRegs s t ∧
         Frame [.regs, .out, .evt] s t) ∧
    ((∀ u ∈ s.evt.subs, s.now < u.lastAck + 1000000000 ∨ s.rd Reg.EVT_INDEX.next ≤ u.acked) →
     NextWith (exec (.subscriberDrop) s) fun t =>
       t = s) ∧
    ((s.hkcUp = true) →
     (∀ e ∈ s.hkc.late, e.1 ≠ 0x0A09) →
     NextWith (exec (.hkcReconcile) s) fun t =>
       Raises ((s.hkcOwn.filter (fun e => tabGet 0 s.hkc.held e.1 ≠ e.2)).map (fun e => (0x0A07, [w e.1, w (tabGet 0 s.hkc.held e.1), w e.2])) ++ s.hkc.late) s t ∧
       (∀ e ∈ s.hkcOwn, tabGet 0 t.hkc.held e.1 = e.2) ∧
       t.hkc.late = [] ∧
       t.hkc.alive = s.now ∧
       t.power = { s.power with hbStale := false } ∧
       RegsBut eventRegs s t ∧
       Frame [.regs, .out, .evt, .hkc, .power] s t) ∧
    ((s.hkcUp = false) →
     NextWith (exec (.hkcReconcile) s) fun t =>
       t = s) ∧
    (∀ (target reg v : Nat),
       (s.hkcUp = true) →
       (target = 0x50 + s.columnId) →
       (v = if reg ∈ smbusRegs then s.readReg reg else 0xFFFFFFFF) →
       NextWith (exec (.smbusTransaction target 1 reg) s) fun t =>
         Sends (.smbus (toLE 4 v ++ toBE 1 (crc8 (toBE 1 (2 * target) ++ toBE 1 1 ++ toBE 4 reg ++ toBE 1 (2 * target + 1) ++ toLE 4 v)))) s t ∧
         Frame [.out] s t) ∧
    (∀ (target cmd reg : Nat),
       (s.hkcUp = false ∨ target ≠ 0x50 + s.columnId ∨ cmd ≠ 1) →
       NextWith (exec (.smbusTransaction target cmd reg) s) fun t =>
         t = s)

/-- R422, R428, R429: an ARP request, a neighbour solicitation and an echo request for an address of the port are answered
with the port's own MAC address or the echoed content, and counted; for another address, or in a frame too long for the port,
they are discarded and counted. A query for it or for every group is answered with the group of the port, when there is one. A
write of a multicast group puts it in force and a port that is up reports the change. An injection allowed inverts one bit of
the check of a window segment that holds a line of the stripe in progress, of a line of DRAM, or fails a live trim group, and
counts; it is refused otherwise. Any other frame is discarded and counted, a frame with a bad check sequence is counted, and a
port that is down does nothing. The bytes of the answers beyond what R429 names are those of the RFCs (log 32). -/
def Obligations.PortsAnswerAndDiscard : Prop :=
  ∀ (s : State),
    (∀ (p mac ip target : Nat),
       (s.portUp p = true) →
       (s.ownsV4 p target = true) →
       NextWith (exec (.arpRequest p mac ip target) s) fun t =>
         Counted (Reg.PORT_RX_FRAMES.frames p) 1 s t ∧
         Counted (Reg.PORT_TX_FRAMES.frames p) 1 s t ∧
         Sends (.frame p kindArp mac (toBE 2 1 ++ toBE 2 0x0800 ++ toBE 1 6 ++ toBE 1 4 ++ toBE 2 2 ++ toBE 6 (s.macOf p) ++ toBE 4 target ++ toBE 6 mac ++ toBE 4 ip)) s t ∧
         RegsBut [Reg.PORT_RX_FRAMES.frames p, Reg.PORT_TX_FRAMES.frames p] s t ∧
         Frame [.regs, .out] s t) ∧
    (∀ (p mac ip target : Nat),
       (s.portUp p = true) →
       (s.ownsV4 p target = false) →
       NextWith (exec (.arpRequest p mac ip target) s) fun t =>
         Counted (Reg.PORT_RX_FRAMES.frames p) 1 s t ∧
         Counted (Reg.PORT_RX_DROP.drops p) 1 s t ∧
         RegsBut [Reg.PORT_RX_FRAMES.frames p, Reg.PORT_RX_DROP.drops p] s t ∧
         Frame [.regs] s t) ∧
    (∀ (p mac src target : Nat),
       (s.portUp p = true) →
       (s.ownsV6 p target = true) →
       NextWith (exec (.neighbourSolicitation p mac src target) s) fun t =>
         Counted (Reg.PORT_RX_FRAMES.frames p) 1 s t ∧
         Counted (Reg.PORT_TX_FRAMES.frames p) 1 s t ∧
         Sends (.frame p kindIcmp6 mac (withSum (pseudo6 target src 32) (toBE 1 136 ++ toBE 3 0 ++ toBE 4 0x60000000 ++ toBE 16 target ++ toBE 1 2 ++ toBE 1 1 ++ toBE 6 (s.macOf p)))) s t ∧
         RegsBut [Reg.PORT_RX_FRAMES.frames p, Reg.PORT_TX_FRAMES.frames p] s t ∧
         Frame [.regs, .out] s t) ∧
    (∀ (p mac src target : Nat),
       (s.portUp p = true) →
       (s.ownsV6 p target = false) →
       NextWith (exec (.neighbourSolicitation p mac src target) s) fun t =>
         Counted (Reg.PORT_RX_FRAMES.frames p) 1 s t ∧
         Counted (Reg.PORT_RX_DROP.drops p) 1 s t ∧
         RegsBut [Reg.PORT_RX_FRAMES.frames p, Reg.PORT_RX_DROP.drops p] s t ∧
         Frame [.regs] s t) ∧
    (∀ (src : Src) (dst : Nat) (b m : Bytes),
       (s.portUp src.iface = true) →
       ((if src.v6 then s.ownsV6 src.iface dst else s.ownsV4 src.iface dst) = true) →
       (s.frameFits src.iface (b.length + (if src.v6 then 58 else 38)) = true) →
       (m = toBE 1 (if src.v6 then 129 else 0) ++ toBE 1 0 ++ b.drop 2) →
       NextWith (exec (.echoRequest src dst b) s) fun t =>
         Sends (.frame src.iface (if src.v6 then kindIcmp6 else kindIcmp) src.mac (withSum (if src.v6 then pseudo6 dst src.addr m.length else []) m)) s t ∧
         RegsBut (askRegs src) s t ∧
         Frame [.regs, .out] s t ∧
         Counted (Reg.PORT_RX_FRAMES.frames src.iface) 1 s t ∧
         Counted (Reg.PORT_TX_FRAMES.frames src.iface) 1 s t) ∧
    (∀ (src : Src) (dst : Nat) (b : Bytes),
       (s.portUp src.iface = true) →
       ((if src.v6 then s.ownsV6 src.iface dst else s.ownsV4 src.iface dst) = false ∨ s.frameFits src.iface (b.length + (if src.v6 then 58 else 38)) = false) →
       NextWith (exec (.echoRequest src dst b) s) fun t =>
         Counted (Reg.PORT_RX_FRAMES.frames src.iface) 1 s t ∧
         Counted (Reg.PORT_RX_DROP.drops src.iface) 1 s t ∧
         RegsBut [Reg.PORT_RX_FRAMES.frames src.iface, Reg.PORT_RX_DROP.drops src.iface] s t ∧
         Frame [.regs] s t) ∧
    (∀ (p g own : Nat) (v6 : Bool),
       (s.portUp p = true) →
       (own = (if v6 then s.net.group6 else s.net.group4).getD p 0) →
       (own ≠ 0) →
       (g = 0 ∨ g = own) →
       NextWith (exec (.multicastQuery p v6 g) s) fun t =>
         Counted (Reg.PORT_RX_FRAMES.frames p) 1 s t ∧
         Counted (Reg.PORT_TX_FRAMES.frames p) 1 s t ∧
         (v6 = false → Sends (.frame p kindIgmp 0x01005E000016 (withSum [] (toBE 1 0x22 ++ toBE 5 0 ++ toBE 2 1 ++ toBE 1 recMember ++ toBE 3 0 ++ toBE 4 own))) s t) ∧
         (v6 = true → Sends (.frame p kindIcmp6 0x333300000016 (withSum (pseudo6 (s.linkLocal p) (0xFF02 * 2 ^ 112 + 0x16) 28) (toBE 1 143 ++ toBE 5 0 ++ toBE 2 1 ++ toBE 1 recMember ++ toBE 3 0 ++ toBE 16 own))) s t) ∧
         RegsBut [Reg.PORT_RX_FRAMES.frames p, Reg.PORT_TX_FRAMES.frames p] s t ∧
         Frame [.regs, .out] s t) ∧
    (∀ (p g own : Nat) (v6 : Bool),
       (s.portUp p = true) →
       (own = (if v6 then s.net.group6 else s.net.group4).getD p 0) →
       (own = 0 ∨ (g ≠ 0 ∧ g ≠ own)) →
       NextWith (exec (.multicastQuery p v6 g) s) fun t =>
         Counted (Reg.PORT_RX_FRAMES.frames p) 1 s t ∧
         RegsBut [Reg.PORT_RX_FRAMES.frames p] s t ∧
         Frame [.regs] s t) ∧
    (∀ (p g : Nat),
       (g < 2 ^ 32) →
       (p < s.net.group4.length) →
       NextWith (exec (.mcastGroupWrite p false g) s) fun t =>
         t.rd (Reg.PORT_MCAST4.group p) = g ∧
         t.net.group4.getD p 0 = g ∧
         t.net.group6 = s.net.group6 ∧
         (groupChange (s.net.group4.getD p 0) g ≠ [] → s.portUp p = true → Counted (Reg.PORT_TX_FRAMES.frames p) 1 s t ∧ Sends (.frame p kindIgmp 0x01005E000016 (withSum [] (toBE 1 0x22 ++ toBE 5 0 ++ toBE 2 (groupChange (s.net.group4.getD p 0) g).length ++ (groupChange (s.net.group4.getD p 0) g).flatMap (fun r => toBE 1 r.1 ++ toBE 3 0 ++ toBE 4 r.2)))) s t) ∧
         (groupChange (s.net.group4.getD p 0) g = [] ∨ s.portUp p = false → t.out = s.out) ∧
         RegsBut [Reg.PORT_TX_FRAMES.frames p, Reg.PORT_MCAST4.group p] s t ∧
         Frame [.regs, .out, .net] s t) ∧
    (∀ (p g : Nat) (cs : List (Nat × Nat)),
       (g < 2 ^ 128) →
       (p < s.net.group6.length) →
       (cs = groupChange (s.net.group6.getD p 0) g) →
       NextWith (exec (.mcastGroupWrite p true g) s) fun t =>
         (∀ n ∈ List.range 4, t.rd (Reg.PORT_MCAST6.group p n) = bitsOf g (96 - 32 * n) 32) ∧
         t.net.group6.getD p 0 = g ∧
         t.net.group4 = s.net.group4 ∧
         (cs ≠ [] → s.portUp p = true → Counted (Reg.PORT_TX_FRAMES.frames p) 1 s t ∧ Sends (.frame p kindIcmp6 0x333300000016 (withSum (pseudo6 (s.linkLocal p) (0xFF02 * 2 ^ 112 + 0x16) (8 + 20 * cs.length)) (toBE 1 143 ++ toBE 5 0 ++ toBE 2 cs.length ++ cs.flatMap (fun r => toBE 1 r.1 ++ toBE 3 0 ++ toBE 16 r.2)))) s t) ∧
         (cs = [] ∨ s.portUp p = false → t.out = s.out) ∧
         RegsBut [Reg.PORT_TX_FRAMES.frames p, Reg.PORT_MCAST6.group p 0, Reg.PORT_MCAST6.group p 1, Reg.PORT_MCAST6.group p 2, Reg.PORT_MCAST6.group p 3] s t ∧
         Frame [.regs, .out, .net] s t) ∧
    (∀ (c : Instr) (p x y z : Nat) (v6 : Bool),
       (c ∈ [.arpRequest p x y z, .neighbourSolicitation p x y z, .multicastQuery p v6 x, .otherFrame p, .badFcsFrame p]) →
       (s.portUp p = false) →
       NextWith (exec (c) s) fun t =>
         t = s) ∧
    (∀ (src : Src) (dst : Nat) (b : Bytes),
       (s.portUp src.iface = false) →
       NextWith (exec (.echoRequest src dst b) s) fun t =>
         t = s) ∧
    (∀ (p : Nat),
       (s.portUp p = true) →
       NextWith (exec (.otherFrame p) s) fun t =>
         Counted (Reg.PORT_RX_FRAMES.frames p) 1 s t ∧
         Counted (Reg.PORT_RX_DROP.drops p) 1 s t ∧
         RegsBut [Reg.PORT_RX_FRAMES.frames p, Reg.PORT_RX_DROP.drops p] s t ∧
         Frame [.regs] s t) ∧
    (∀ (p : Nat),
       (s.portUp p = true) →
       NextWith (exec (.badFcsFrame p) s) fun t =>
         Counted (Reg.PORT_RX_FCS.fcs p) 1 s t ∧
         RegsBut [Reg.PORT_RX_FCS.fcs p] s t ∧
         Frame [.regs] s t) ∧
    (∀ (target loc : Nat),
       (target < 16) →
       (loc < 2 ^ 32) →
       ((s.wrs [(Reg.TEST_INJECT_LOC.loc, loc), (Reg.TEST_INJECT.target, target)]).inject? target loc = none) →
       NextWith (exec (.testInject target loc true) s) fun t =>
         t.rd Reg.TEST_INJECT.refused = 1 ∧
         t.rd Reg.TEST_INJECT.target = target ∧
         t.rd Reg.TEST_INJECT_LOC.loc = loc ∧
         RegsBut [Reg.TEST_INJECT_LOC.loc, Reg.TEST_INJECT.target, Reg.TEST_INJECT.refused] s t ∧
         Frame [.regs] s t) ∧
    (∀ (loc : Nat),
       (loc < 2 ^ 30) →
       (s.mayInject = true) →
       (loc < s.lineCount) →
       (s.dram.injected.contains loc = false) →
       NextWith (exec (.testInject 3 loc true) s) fun t =>
         Counted Reg.TEST_INJECT_CNT.count 1 s t ∧
         t.rd Reg.TEST_INJECT.refused = 0 ∧
         t.dramLine loc = { s.dramLine loc with crc := (s.dramLine loc).crc ^^^ 1 } ∧
         t.dram.injected = loc :: s.dram.injected ∧
         TabBut loc s.dram.lines t.dram.lines ∧
         RegsBut [Reg.TEST_INJECT_LOC.loc, Reg.TEST_INJECT.target, Reg.TEST_INJECT.refused, Reg.TEST_INJECT_CNT.count] s t ∧
         Frame [.regs, .dram] s t) ∧
    (∀ (g : Nat),
       (s.mayInject = true) →
       (g < beamsOf s.variant / 64) →
       (s.cal.badGroups.contains g = false) →
       NextWith (exec (.testInject 4 g true) s) fun t =>
         Counted Reg.TEST_INJECT_CNT.count 1 s t ∧
         t.rd Reg.TEST_INJECT.refused = 0 ∧
         t.cal = { s.cal with badGroups := g :: s.cal.badGroups, injected := g :: s.cal.injected } ∧
         RegsBut [Reg.TEST_INJECT_LOC.loc, Reg.TEST_INJECT.target, Reg.TEST_INJECT.refused, Reg.TEST_INJECT_CNT.count] s t ∧
         Frame [.regs, .cal] s t) ∧
    (∀ (target loc key : Nat) (g : WinSeg),
       (target = 1 ∨ target = 2) →
       (loc < 2 ^ 29) →
       (s.mayInject = true) →
       (bitsOf loc 24 5 < segsOf s.variant) →
       ((s.holdsLine (loc % 2 ^ 24) (target - 1) (bitsOf loc 24 5)).isSome = true) →
       (key = winKey (slotOf (loc % 2 ^ 24)) (target - 1) (bitsOf loc 24 5)) →
       (s.win.injected.contains key = false) →
       (tabFind s.win.segs key = some g) →
       NextWith (exec (.testInject target loc true) s) fun t =>
         Counted Reg.TEST_INJECT_CNT.count 1 s t ∧
         t.rd Reg.TEST_INJECT.refused = 0 ∧
         tabFind t.win.segs key = some { g with crc := g.crc ^^^ 1 } ∧
         TabBut key s.win.segs t.win.segs ∧
         t.win.injected = key :: s.win.injected ∧
         RegsBut [Reg.TEST_INJECT_LOC.loc, Reg.TEST_INJECT.target, Reg.TEST_INJECT.refused, Reg.TEST_INJECT_CNT.count] s t ∧
         Frame [.regs, .win] s t) ∧
    (∀ (target loc : Nat),
       (target < 16) →
       (loc < 2 ^ 32) →
       NextWith (exec (.testInject target loc false) s) fun t =>
         t.rd Reg.TEST_INJECT.target = target ∧
         t.rd Reg.TEST_INJECT_LOC.loc = loc ∧
         RegsBut [Reg.TEST_INJECT_LOC.loc, Reg.TEST_INJECT.target] s t ∧
         Frame [.regs] s t)

/-- The block's step: with a command at the front of the queue it is exec of that command with the rest of the queue. With an
empty queue it is one core cycle (the model's choice, log 2). -/
def Obligations.StepRunsTheFrontCommand : Prop :=
  ∀ (c : Instr) (rest : List Instr) (s : State),
    (s.pending = c :: rest → step s = exec c { s with pending := rest }) ∧ (s.pending = [] → step s = .next s.cycle)

/-- R409, R410: raising an event enters one entry, of the next index, with local time, the last tick launched and its stripe,
at the head of the ring of 4,096 and of the retained tail of 256; the index rises by one, every subscriber is sent the entry,
and nothing else changes. When the entry would overwrite a pending one, the overflow flag is set and the loss is counted, and
the entry is entered all the same. -/
def Obligations.EventsAreEnteredOnceAndSent : Prop :=
  ∀ (s : State) (code : Nat) (data : List EvWord) (e : EvtEntry),
    e = { index := s.rd Reg.EVT_INDEX.next, sec := s.ns / giga, ns := s.ns % giga, code := code, tick := s.lastTick,
          seq := s.rd Reg.SHOT_STRIPE.seq, data := data } →
    (s.overwritten = none →
      (s.raise code data).evt.ring = (e :: s.evt.ring).take 4096 ∧
      (s.raise code data).evt.tail = (e :: s.evt.tail).take 256 ∧
      (s.raise code data).rd Reg.EVT_INDEX.next = (s.rd Reg.EVT_INDEX.next + 1) % 2 ^ 32 ∧
      (∀ u ∈ s.evt.subs, Sends (.udp 47101 u.src (eventMsg u [e])) s (s.raise code data)) ∧
      RegsBut eventRegs s (s.raise code data) ∧ Frame [.regs, .out, .evt] s (s.raise code data)) ∧
    (∀ old, s.overwritten = some old →
      (s.raise code data).rd Reg.EVT_PENDING.overflow = 1 ∧
      (s.rd Reg.EVT_DROPPED.dropped < 2 ^ Reg.EVT_DROPPED.dropped.width - 2 →
        s.rd Reg.EVT_DROPPED.dropped < (s.raise code data).rd Reg.EVT_DROPPED.dropped) ∧
      e ∈ (s.raise code data).evt.ring ∧
      RegsBut eventRegs s (s.raise code data) ∧ Frame [.regs, .out, .evt] s (s.raise code data))

/-- The state after reset meets the invariant: nothing is listed in memory, no operation, response or history entry is kept,
and the streams, capture units and groups are those of the module. That the stores list no entry that reads as an unlisted one
is the model's form of them (log 6, log 7). -/
def Obligations.ResetStateIsCanonical : Prop :=
  Inv State.reset

/-- From every state that meets the invariant, every step, whichever of the 197 commands stands in front, answers a state that
meets it: the stores stay canonical; the ring holds at most 4,096 entries and its tail 256 (R409), at most two sources
subscribe (R410), at most 64 finished operations stay readable (R401), the reset history holds at most 32 entries (R378),
responses are kept for at most 8 sources (R394), and there are always 16 streams (R54), four record streams, four capture
units and the groups of three ports. -/
def Obligations.EveryStepKeepsTheInvariant : Prop :=
  ∀ s t : State, Inv s → step s = .next t → Inv t

/-- Every command completes, in every state and with every operand: whichever of the 197 commands runs, it answers a next
state, and the queue of the commands that wait is in it what it was, in the same order. -/
def Obligations.CommandsLeaveTheQueue : Prop :=
  ∀ (c : Instr) (s : State), NextWith (exec c s) fun t => t.pending = s.pending
end

