-- ==== Sys2Proof/Laws/Bytes.lean ====
section
/-! SUPPORT. Laws of byte strings: numbers written and read back, and the range of the CRC-32C (R40, R73). -/

namespace Sys2Proof.Machine

theorem crc32cBit_lt (c : Nat) (h : c < 2 ^ 32) : crc32cBit c < 2 ^ 32 := by
  have hs : c >>> 1 < 2 ^ 32 := by rw [Nat.shiftRight_eq_div_pow]; omega
  unfold crc32cBit
  split
  · exact Nat.xor_lt_two_pow hs (by decide)
  · exact hs

theorem crc32cByte_lt (c : Nat) (b : Byte) (h : c < 2 ^ 32) : crc32cByte c b < 2 ^ 32 := by
  have h0 : c ^^^ b.toNat < 2 ^ 32 := Nat.xor_lt_two_pow h (by have := b.isLt; omega)
  unfold crc32cByte
  repeat' (first | exact h0 | apply crc32cBit_lt)

theorem crc32cRun_cons (c : Nat) (x : Byte) (xs : Bytes) : crc32cRun c (x :: xs) = crc32cRun (crc32cByte c x) xs := by
  show (match crc32cByte c x with | 0 => crc32cRun 0 xs | n + 1 => crc32cRun (n + 1) xs) = _
  split <;> simp_all

/-- The running CRC-32C is the fold of its byte step. -/
theorem crc32cRun_eq (b : Bytes) : ∀ c, crc32cRun c b = b.foldl crc32cByte c := by
  induction b with
  | nil => intro c; rfl
  | cons x xs ih => intro c; rw [crc32cRun_cons, List.foldl_cons, ih]

theorem crc32cRun_lt (b : Bytes) : ∀ c, c < 2 ^ 32 → crc32cRun c b < 2 ^ 32 := by
  induction b with
  | nil => intro c h; exact h
  | cons x xs ih => intro c h; rw [crc32cRun_cons]; exact ih _ (crc32cByte_lt c x h)

theorem crc32c_lt (b : Bytes) : crc32c b < 2 ^ 32 :=
  Nat.xor_lt_two_pow (crc32cRun_lt b _ (by decide)) (by decide)

theorem toBE_length (n x : Nat) : (toBE n x).length = n := by
  induction n with
  | zero => rfl
  | succ n ih => simp [toBE, ih]

theorem beNat_acc (b : Bytes) : ∀ a, b.foldl (fun a x => a * 256 + x.toNat) a = a * 256 ^ b.length + beNat b := by
  unfold beNat
  induction b with
  | nil => intro a; simp
  | cons x xs ih =>
    intro a
    simp only [List.foldl_cons, List.length_cons]
    rw [ih (a * 256 + x.toNat), ih (0 * 256 + x.toNat), Nat.pow_succ]
    grind

/-- The n low bytes of a number, written most significant first and read back. -/
theorem beNat_toBE (n x : Nat) : beNat (toBE n x) = x % 256 ^ n := by
  induction n with
  | zero => simp [toBE, beNat, Nat.mod_one]
  | succ n ih =>
    have h : beNat (toBE (n + 1) x) = (x >>> (8 * n)) % 256 * 256 ^ n + beNat (toBE n x) := by
      have := beNat_acc (toBE n x) ((BitVec.ofNat 8 (x >>> (8 * n))).toNat)
      simp only [toBE_length] at this
      simpa [toBE, beNat] using this
    rw [h, ih, Nat.shiftRight_eq_div_pow, show (2 : Nat) ^ (8 * n) = 256 ^ n by rw [Nat.pow_mul]]
    rw [Nat.pow_succ, Nat.mod_mul]
    rw [Nat.mul_comm, Nat.add_comm]

end Sys2Proof.Machine
end

