-- ==== Sys2Proof/Laws/State.lean ====
section
/-! SUPPORT. What the simple updates of the state leave alone: one lemma for each update and each part of the state that it
does not touch, true by unfolding. -/

namespace Sys2Proof.Machine

variable (s : State)

@[simp] theorem State.wr_pending (f : Fld) (v : Nat) : (s.wr f v).pending = s.pending := (rfl)
@[simp] theorem State.wr_out (f : Fld) (v : Nat) : (s.wr f v).out = s.out := (rfl)
@[simp] theorem State.wr_now (f : Fld) (v : Nat) : (s.wr f v).now = s.now := (rfl)
@[simp] theorem State.wr_clk (f : Fld) (v : Nat) : (s.wr f v).clk = s.clk := (rfl)
@[simp] theorem State.wr_freeCnt (f : Fld) (v : Nat) : (s.wr f v).freeCnt = s.freeCnt := (rfl)
@[simp] theorem State.wr_latches (f : Fld) (v : Nat) : (s.wr f v).latches = s.latches := (rfl)
@[simp] theorem State.wr_evt (f : Fld) (v : Nat) : (s.wr f v).evt = s.evt := (rfl)
@[simp] theorem State.wr_hkc (f : Fld) (v : Nat) : (s.wr f v).hkc = s.hkc := (rfl)
@[simp] theorem State.wr_dmp (f : Fld) (v : Nat) : (s.wr f v).dmp = s.dmp := (rfl)
@[simp] theorem State.wr_ops (f : Fld) (v : Nat) : (s.wr f v).ops = s.ops := (rfl)
@[simp] theorem State.wr_net (f : Fld) (v : Nat) : (s.wr f v).net = s.net := (rfl)
@[simp] theorem State.wr_job (f : Fld) (v : Nat) : (s.wr f v).job = s.job := (rfl)
@[simp] theorem State.wr_codec (f : Fld) (v : Nat) : (s.wr f v).codec = s.codec := (rfl)
@[simp] theorem State.wr_sieve (f : Fld) (v : Nat) : (s.wr f v).sieve = s.sieve := (rfl)
@[simp] theorem State.wr_win (f : Fld) (v : Nat) : (s.wr f v).win = s.win := (rfl)
@[simp] theorem State.wr_render (f : Fld) (v : Nat) : (s.wr f v).render = s.render := (rfl)
@[simp] theorem State.wr_pec (f : Fld) (v : Nat) : (s.wr f v).pec = s.pec := (rfl)
@[simp] theorem State.wr_shot (f : Fld) (v : Nat) : (s.wr f v).shot = s.shot := (rfl)
@[simp] theorem State.wr_stage (f : Fld) (v : Nat) : (s.wr f v).stage = s.stage := (rfl)
@[simp] theorem State.wr_trig (f : Fld) (v : Nat) : (s.wr f v).trig = s.trig := (rfl)
@[simp] theorem State.wr_ptp (f : Fld) (v : Nat) : (s.wr f v).ptp = s.ptp := (rfl)
@[simp] theorem State.wr_check (f : Fld) (v : Nat) : (s.wr f v).check = s.check := (rfl)
@[simp] theorem State.wr_cal (f : Fld) (v : Nat) : (s.wr f v).cal = s.cal := (rfl)
@[simp] theorem State.wr_lanes (f : Fld) (v : Nat) : (s.wr f v).lanes = s.lanes := (rfl)
@[simp] theorem State.wr_tx (f : Fld) (v : Nat) : (s.wr f v).tx = s.tx := (rfl)
@[simp] theorem State.wr_dram (f : Fld) (v : Nat) : (s.wr f v).dram = s.dram := (rfl)
@[simp] theorem State.wr_pair (f : Fld) (v : Nat) : (s.wr f v).pair = s.pair := (rfl)
@[simp] theorem State.wr_power (f : Fld) (v : Nat) : (s.wr f v).power = s.power := (rfl)

@[simp] theorem State.incBy_pending (f : Fld) (n : Nat) : (s.incBy f n).pending = s.pending := (rfl)
@[simp] theorem State.incBy_out (f : Fld) (n : Nat) : (s.incBy f n).out = s.out := (rfl)
@[simp] theorem State.incBy_now (f : Fld) (n : Nat) : (s.incBy f n).now = s.now := (rfl)
@[simp] theorem State.incBy_clk (f : Fld) (n : Nat) : (s.incBy f n).clk = s.clk := (rfl)
@[simp] theorem State.incBy_freeCnt (f : Fld) (n : Nat) : (s.incBy f n).freeCnt = s.freeCnt := (rfl)
@[simp] theorem State.incBy_latches (f : Fld) (n : Nat) : (s.incBy f n).latches = s.latches := (rfl)
@[simp] theorem State.incBy_evt (f : Fld) (n : Nat) : (s.incBy f n).evt = s.evt := (rfl)
@[simp] theorem State.incBy_hkc (f : Fld) (n : Nat) : (s.incBy f n).hkc = s.hkc := (rfl)
@[simp] theorem State.incBy_dmp (f : Fld) (n : Nat) : (s.incBy f n).dmp = s.dmp := (rfl)
@[simp] theorem State.incBy_ops (f : Fld) (n : Nat) : (s.incBy f n).ops = s.ops := (rfl)
@[simp] theorem State.incBy_net (f : Fld) (n : Nat) : (s.incBy f n).net = s.net := (rfl)
@[simp] theorem State.incBy_job (f : Fld) (n : Nat) : (s.incBy f n).job = s.job := (rfl)
@[simp] theorem State.incBy_codec (f : Fld) (n : Nat) : (s.incBy f n).codec = s.codec := (rfl)
@[simp] theorem State.incBy_sieve (f : Fld) (n : Nat) : (s.incBy f n).sieve = s.sieve := (rfl)
@[simp] theorem State.incBy_win (f : Fld) (n : Nat) : (s.incBy f n).win = s.win := (rfl)
@[simp] theorem State.incBy_render (f : Fld) (n : Nat) : (s.incBy f n).render = s.render := (rfl)
@[simp] theorem State.incBy_pec (f : Fld) (n : Nat) : (s.incBy f n).pec = s.pec := (rfl)
@[simp] theorem State.incBy_shot (f : Fld) (n : Nat) : (s.incBy f n).shot = s.shot := (rfl)
@[simp] theorem State.incBy_stage (f : Fld) (n : Nat) : (s.incBy f n).stage = s.stage := (rfl)
@[simp] theorem State.incBy_trig (f : Fld) (n : Nat) : (s.incBy f n).trig = s.trig := (rfl)
@[simp] theorem State.incBy_ptp (f : Fld) (n : Nat) : (s.incBy f n).ptp = s.ptp := (rfl)
@[simp] theorem State.incBy_check (f : Fld) (n : Nat) : (s.incBy f n).check = s.check := (rfl)
@[simp] theorem State.incBy_cal (f : Fld) (n : Nat) : (s.incBy f n).cal = s.cal := (rfl)
@[simp] theorem State.incBy_lanes (f : Fld) (n : Nat) : (s.incBy f n).lanes = s.lanes := (rfl)
@[simp] theorem State.incBy_tx (f : Fld) (n : Nat) : (s.incBy f n).tx = s.tx := (rfl)
@[simp] theorem State.incBy_dram (f : Fld) (n : Nat) : (s.incBy f n).dram = s.dram := (rfl)
@[simp] theorem State.incBy_pair (f : Fld) (n : Nat) : (s.incBy f n).pair = s.pair := (rfl)
@[simp] theorem State.incBy_power (f : Fld) (n : Nat) : (s.incBy f n).power = s.power := (rfl)

@[simp] theorem State.inc_pending (f : Fld) : (s.inc f).pending = s.pending := (rfl)
@[simp] theorem State.inc_out (f : Fld) : (s.inc f).out = s.out := (rfl)
@[simp] theorem State.inc_now (f : Fld) : (s.inc f).now = s.now := (rfl)
@[simp] theorem State.inc_clk (f : Fld) : (s.inc f).clk = s.clk := (rfl)
@[simp] theorem State.inc_freeCnt (f : Fld) : (s.inc f).freeCnt = s.freeCnt := (rfl)
@[simp] theorem State.inc_latches (f : Fld) : (s.inc f).latches = s.latches := (rfl)
@[simp] theorem State.inc_evt (f : Fld) : (s.inc f).evt = s.evt := (rfl)
@[simp] theorem State.inc_hkc (f : Fld) : (s.inc f).hkc = s.hkc := (rfl)
@[simp] theorem State.inc_dmp (f : Fld) : (s.inc f).dmp = s.dmp := (rfl)
@[simp] theorem State.inc_ops (f : Fld) : (s.inc f).ops = s.ops := (rfl)
@[simp] theorem State.inc_net (f : Fld) : (s.inc f).net = s.net := (rfl)
@[simp] theorem State.inc_job (f : Fld) : (s.inc f).job = s.job := (rfl)
@[simp] theorem State.inc_codec (f : Fld) : (s.inc f).codec = s.codec := (rfl)
@[simp] theorem State.inc_sieve (f : Fld) : (s.inc f).sieve = s.sieve := (rfl)
@[simp] theorem State.inc_win (f : Fld) : (s.inc f).win = s.win := (rfl)
@[simp] theorem State.inc_render (f : Fld) : (s.inc f).render = s.render := (rfl)
@[simp] theorem State.inc_pec (f : Fld) : (s.inc f).pec = s.pec := (rfl)
@[simp] theorem State.inc_shot (f : Fld) : (s.inc f).shot = s.shot := (rfl)
@[simp] theorem State.inc_stage (f : Fld) : (s.inc f).stage = s.stage := (rfl)
@[simp] theorem State.inc_trig (f : Fld) : (s.inc f).trig = s.trig := (rfl)
@[simp] theorem State.inc_ptp (f : Fld) : (s.inc f).ptp = s.ptp := (rfl)
@[simp] theorem State.inc_check (f : Fld) : (s.inc f).check = s.check := (rfl)
@[simp] theorem State.inc_cal (f : Fld) : (s.inc f).cal = s.cal := (rfl)
@[simp] theorem State.inc_lanes (f : Fld) : (s.inc f).lanes = s.lanes := (rfl)
@[simp] theorem State.inc_tx (f : Fld) : (s.inc f).tx = s.tx := (rfl)
@[simp] theorem State.inc_dram (f : Fld) : (s.inc f).dram = s.dram := (rfl)
@[simp] theorem State.inc_pair (f : Fld) : (s.inc f).pair = s.pair := (rfl)
@[simp] theorem State.inc_power (f : Fld) : (s.inc f).power = s.power := (rfl)

@[simp] theorem State.send_pending (o : Out) : (s.send o).pending = s.pending := (rfl)
@[simp] theorem State.send_now (o : Out) : (s.send o).now = s.now := (rfl)
@[simp] theorem State.send_clk (o : Out) : (s.send o).clk = s.clk := (rfl)
@[simp] theorem State.send_freeCnt (o : Out) : (s.send o).freeCnt = s.freeCnt := (rfl)
@[simp] theorem State.send_regs (o : Out) : (s.send o).regs = s.regs := (rfl)
@[simp] theorem State.send_latches (o : Out) : (s.send o).latches = s.latches := (rfl)
@[simp] theorem State.send_evt (o : Out) : (s.send o).evt = s.evt := (rfl)
@[simp] theorem State.send_hkc (o : Out) : (s.send o).hkc = s.hkc := (rfl)
@[simp] theorem State.send_dmp (o : Out) : (s.send o).dmp = s.dmp := (rfl)
@[simp] theorem State.send_ops (o : Out) : (s.send o).ops = s.ops := (rfl)
@[simp] theorem State.send_net (o : Out) : (s.send o).net = s.net := (rfl)
@[simp] theorem State.send_job (o : Out) : (s.send o).job = s.job := (rfl)
@[simp] theorem State.send_codec (o : Out) : (s.send o).codec = s.codec := (rfl)
@[simp] theorem State.send_sieve (o : Out) : (s.send o).sieve = s.sieve := (rfl)
@[simp] theorem State.send_win (o : Out) : (s.send o).win = s.win := (rfl)
@[simp] theorem State.send_render (o : Out) : (s.send o).render = s.render := (rfl)
@[simp] theorem State.send_pec (o : Out) : (s.send o).pec = s.pec := (rfl)
@[simp] theorem State.send_shot (o : Out) : (s.send o).shot = s.shot := (rfl)
@[simp] theorem State.send_stage (o : Out) : (s.send o).stage = s.stage := (rfl)
@[simp] theorem State.send_trig (o : Out) : (s.send o).trig = s.trig := (rfl)
@[simp] theorem State.send_ptp (o : Out) : (s.send o).ptp = s.ptp := (rfl)
@[simp] theorem State.send_check (o : Out) : (s.send o).check = s.check := (rfl)
@[simp] theorem State.send_cal (o : Out) : (s.send o).cal = s.cal := (rfl)
@[simp] theorem State.send_lanes (o : Out) : (s.send o).lanes = s.lanes := (rfl)
@[simp] theorem State.send_tx (o : Out) : (s.send o).tx = s.tx := (rfl)
@[simp] theorem State.send_dram (o : Out) : (s.send o).dram = s.dram := (rfl)
@[simp] theorem State.send_pair (o : Out) : (s.send o).pair = s.pair := (rfl)
@[simp] theorem State.send_power (o : Out) : (s.send o).power = s.power := (rfl)

@[simp] theorem State.sendUdp_pending (p : Nat) (d : Src) (b : Bytes) : (s.sendUdp p d b).pending = s.pending := (rfl)
@[simp] theorem State.sendUdp_now (p : Nat) (d : Src) (b : Bytes) : (s.sendUdp p d b).now = s.now := (rfl)
@[simp] theorem State.sendUdp_clk (p : Nat) (d : Src) (b : Bytes) : (s.sendUdp p d b).clk = s.clk := (rfl)
@[simp] theorem State.sendUdp_freeCnt (p : Nat) (d : Src) (b : Bytes) : (s.sendUdp p d b).freeCnt = s.freeCnt := (rfl)
@[simp] theorem State.sendUdp_latches (p : Nat) (d : Src) (b : Bytes) : (s.sendUdp p d b).latches = s.latches := (rfl)
@[simp] theorem State.sendUdp_evt (p : Nat) (d : Src) (b : Bytes) : (s.sendUdp p d b).evt = s.evt := (rfl)
@[simp] theorem State.sendUdp_hkc (p : Nat) (d : Src) (b : Bytes) : (s.sendUdp p d b).hkc = s.hkc := (rfl)
@[simp] theorem State.sendUdp_dmp (p : Nat) (d : Src) (b : Bytes) : (s.sendUdp p d b).dmp = s.dmp := (rfl)
@[simp] theorem State.sendUdp_ops (p : Nat) (d : Src) (b : Bytes) : (s.sendUdp p d b).ops = s.ops := (rfl)
@[simp] theorem State.sendUdp_net (p : Nat) (d : Src) (b : Bytes) : (s.sendUdp p d b).net = s.net := (rfl)
@[simp] theorem State.sendUdp_job (p : Nat) (d : Src) (b : Bytes) : (s.sendUdp p d b).job = s.job := (rfl)
@[simp] theorem State.sendUdp_codec (p : Nat) (d : Src) (b : Bytes) : (s.sendUdp p d b).codec = s.codec := (rfl)
@[simp] theorem State.sendUdp_sieve (p : Nat) (d : Src) (b : Bytes) : (s.sendUdp p d b).sieve = s.sieve := (rfl)
@[simp] theorem State.sendUdp_win (p : Nat) (d : Src) (b : Bytes) : (s.sendUdp p d b).win = s.win := (rfl)
@[simp] theorem State.sendUdp_render (p : Nat) (d : Src) (b : Bytes) : (s.sendUdp p d b).render = s.render := (rfl)
@[simp] theorem State.sendUdp_pec (p : Nat) (d : Src) (b : Bytes) : (s.sendUdp p d b).pec = s.pec := (rfl)
@[simp] theorem State.sendUdp_shot (p : Nat) (d : Src) (b : Bytes) : (s.sendUdp p d b).shot = s.shot := (rfl)
@[simp] theorem State.sendUdp_stage (p : Nat) (d : Src) (b : Bytes) : (s.sendUdp p d b).stage = s.stage := (rfl)
@[simp] theorem State.sendUdp_trig (p : Nat) (d : Src) (b : Bytes) : (s.sendUdp p d b).trig = s.trig := (rfl)
@[simp] theorem State.sendUdp_ptp (p : Nat) (d : Src) (b : Bytes) : (s.sendUdp p d b).ptp = s.ptp := (rfl)
@[simp] theorem State.sendUdp_check (p : Nat) (d : Src) (b : Bytes) : (s.sendUdp p d b).check = s.check := (rfl)
@[simp] theorem State.sendUdp_cal (p : Nat) (d : Src) (b : Bytes) : (s.sendUdp p d b).cal = s.cal := (rfl)
@[simp] theorem State.sendUdp_lanes (p : Nat) (d : Src) (b : Bytes) : (s.sendUdp p d b).lanes = s.lanes := (rfl)
@[simp] theorem State.sendUdp_tx (p : Nat) (d : Src) (b : Bytes) : (s.sendUdp p d b).tx = s.tx := (rfl)
@[simp] theorem State.sendUdp_dram (p : Nat) (d : Src) (b : Bytes) : (s.sendUdp p d b).dram = s.dram := (rfl)
@[simp] theorem State.sendUdp_pair (p : Nat) (d : Src) (b : Bytes) : (s.sendUdp p d b).pair = s.pair := (rfl)
@[simp] theorem State.sendUdp_power (p : Nat) (d : Src) (b : Bytes) : (s.sendUdp p d b).power = s.power := (rfl)

@[simp] theorem State.bumpFree_pending : (s.bumpFree).pending = s.pending := (rfl)
@[simp] theorem State.bumpFree_out : (s.bumpFree).out = s.out := (rfl)
@[simp] theorem State.bumpFree_now : (s.bumpFree).now = s.now := (rfl)
@[simp] theorem State.bumpFree_clk : (s.bumpFree).clk = s.clk := (rfl)
@[simp] theorem State.bumpFree_regs : (s.bumpFree).regs = s.regs := (rfl)
@[simp] theorem State.bumpFree_latches : (s.bumpFree).latches = s.latches := (rfl)
@[simp] theorem State.bumpFree_evt : (s.bumpFree).evt = s.evt := (rfl)
@[simp] theorem State.bumpFree_hkc : (s.bumpFree).hkc = s.hkc := (rfl)
@[simp] theorem State.bumpFree_dmp : (s.bumpFree).dmp = s.dmp := (rfl)
@[simp] theorem State.bumpFree_ops : (s.bumpFree).ops = s.ops := (rfl)
@[simp] theorem State.bumpFree_net : (s.bumpFree).net = s.net := (rfl)
@[simp] theorem State.bumpFree_job : (s.bumpFree).job = s.job := (rfl)
@[simp] theorem State.bumpFree_codec : (s.bumpFree).codec = s.codec := (rfl)
@[simp] theorem State.bumpFree_sieve : (s.bumpFree).sieve = s.sieve := (rfl)
@[simp] theorem State.bumpFree_win : (s.bumpFree).win = s.win := (rfl)
@[simp] theorem State.bumpFree_render : (s.bumpFree).render = s.render := (rfl)
@[simp] theorem State.bumpFree_pec : (s.bumpFree).pec = s.pec := (rfl)
@[simp] theorem State.bumpFree_shot : (s.bumpFree).shot = s.shot := (rfl)
@[simp] theorem State.bumpFree_stage : (s.bumpFree).stage = s.stage := (rfl)
@[simp] theorem State.bumpFree_trig : (s.bumpFree).trig = s.trig := (rfl)
@[simp] theorem State.bumpFree_ptp : (s.bumpFree).ptp = s.ptp := (rfl)
@[simp] theorem State.bumpFree_check : (s.bumpFree).check = s.check := (rfl)
@[simp] theorem State.bumpFree_cal : (s.bumpFree).cal = s.cal := (rfl)
@[simp] theorem State.bumpFree_lanes : (s.bumpFree).lanes = s.lanes := (rfl)
@[simp] theorem State.bumpFree_tx : (s.bumpFree).tx = s.tx := (rfl)
@[simp] theorem State.bumpFree_dram : (s.bumpFree).dram = s.dram := (rfl)
@[simp] theorem State.bumpFree_pair : (s.bumpFree).pair = s.pair := (rfl)
@[simp] theorem State.bumpFree_power : (s.bumpFree).power = s.power := (rfl)

@[simp] theorem State.cycle_pending : (s.cycle).pending = s.pending := (rfl)
@[simp] theorem State.cycle_out : (s.cycle).out = s.out := (rfl)
@[simp] theorem State.cycle_freeCnt : (s.cycle).freeCnt = s.freeCnt := (rfl)
@[simp] theorem State.cycle_regs : (s.cycle).regs = s.regs := (rfl)
@[simp] theorem State.cycle_latches : (s.cycle).latches = s.latches := (rfl)
@[simp] theorem State.cycle_evt : (s.cycle).evt = s.evt := (rfl)
@[simp] theorem State.cycle_hkc : (s.cycle).hkc = s.hkc := (rfl)
@[simp] theorem State.cycle_dmp : (s.cycle).dmp = s.dmp := (rfl)
@[simp] theorem State.cycle_ops : (s.cycle).ops = s.ops := (rfl)
@[simp] theorem State.cycle_net : (s.cycle).net = s.net := (rfl)
@[simp] theorem State.cycle_job : (s.cycle).job = s.job := (rfl)
@[simp] theorem State.cycle_codec : (s.cycle).codec = s.codec := (rfl)
@[simp] theorem State.cycle_sieve : (s.cycle).sieve = s.sieve := (rfl)
@[simp] theorem State.cycle_win : (s.cycle).win = s.win := (rfl)
@[simp] theorem State.cycle_render : (s.cycle).render = s.render := (rfl)
@[simp] theorem State.cycle_pec : (s.cycle).pec = s.pec := (rfl)
@[simp] theorem State.cycle_shot : (s.cycle).shot = s.shot := (rfl)
@[simp] theorem State.cycle_stage : (s.cycle).stage = s.stage := (rfl)
@[simp] theorem State.cycle_trig : (s.cycle).trig = s.trig := (rfl)
@[simp] theorem State.cycle_ptp : (s.cycle).ptp = s.ptp := (rfl)
@[simp] theorem State.cycle_cal : (s.cycle).cal = s.cal := (rfl)
@[simp] theorem State.cycle_lanes : (s.cycle).lanes = s.lanes := (rfl)
@[simp] theorem State.cycle_tx : (s.cycle).tx = s.tx := (rfl)
@[simp] theorem State.cycle_dram : (s.cycle).dram = s.dram := (rfl)
@[simp] theorem State.cycle_pair : (s.cycle).pair = s.pair := (rfl)
@[simp] theorem State.cycle_power : (s.cycle).power = s.power := (rfl)

@[simp] theorem State.hold_pending (p : Nat → Bool) : (s.hold p).pending = s.pending := (rfl)
@[simp] theorem State.hold_out (p : Nat → Bool) : (s.hold p).out = s.out := (rfl)
@[simp] theorem State.hold_now (p : Nat → Bool) : (s.hold p).now = s.now := (rfl)
@[simp] theorem State.hold_clk (p : Nat → Bool) : (s.hold p).clk = s.clk := (rfl)
@[simp] theorem State.hold_freeCnt (p : Nat → Bool) : (s.hold p).freeCnt = s.freeCnt := (rfl)
@[simp] theorem State.hold_regs (p : Nat → Bool) : (s.hold p).regs = s.regs := (rfl)
@[simp] theorem State.hold_latches (p : Nat → Bool) : (s.hold p).latches = s.latches := (rfl)
@[simp] theorem State.hold_evt (p : Nat → Bool) : (s.hold p).evt = s.evt := (rfl)
@[simp] theorem State.hold_dmp (p : Nat → Bool) : (s.hold p).dmp = s.dmp := (rfl)
@[simp] theorem State.hold_ops (p : Nat → Bool) : (s.hold p).ops = s.ops := (rfl)
@[simp] theorem State.hold_net (p : Nat → Bool) : (s.hold p).net = s.net := (rfl)
@[simp] theorem State.hold_job (p : Nat → Bool) : (s.hold p).job = s.job := (rfl)
@[simp] theorem State.hold_codec (p : Nat → Bool) : (s.hold p).codec = s.codec := (rfl)
@[simp] theorem State.hold_sieve (p : Nat → Bool) : (s.hold p).sieve = s.sieve := (rfl)
@[simp] theorem State.hold_win (p : Nat → Bool) : (s.hold p).win = s.win := (rfl)
@[simp] theorem State.hold_render (p : Nat → Bool) : (s.hold p).render = s.render := (rfl)
@[simp] theorem State.hold_pec (p : Nat → Bool) : (s.hold p).pec = s.pec := (rfl)
@[simp] theorem State.hold_shot (p : Nat → Bool) : (s.hold p).shot = s.shot := (rfl)
@[simp] theorem State.hold_stage (p : Nat → Bool) : (s.hold p).stage = s.stage := (rfl)
@[simp] theorem State.hold_trig (p : Nat → Bool) : (s.hold p).trig = s.trig := (rfl)
@[simp] theorem State.hold_ptp (p : Nat → Bool) : (s.hold p).ptp = s.ptp := (rfl)
@[simp] theorem State.hold_check (p : Nat → Bool) : (s.hold p).check = s.check := (rfl)
@[simp] theorem State.hold_cal (p : Nat → Bool) : (s.hold p).cal = s.cal := (rfl)
@[simp] theorem State.hold_lanes (p : Nat → Bool) : (s.hold p).lanes = s.lanes := (rfl)
@[simp] theorem State.hold_tx (p : Nat → Bool) : (s.hold p).tx = s.tx := (rfl)
@[simp] theorem State.hold_dram (p : Nat → Bool) : (s.hold p).dram = s.dram := (rfl)
@[simp] theorem State.hold_pair (p : Nat → Bool) : (s.hold p).pair = s.pair := (rfl)
@[simp] theorem State.hold_power (p : Nat → Bool) : (s.hold p).power = s.power := (rfl)

@[simp] theorem State.setStream_pending (i : Nat) (x : DstStream) : (s.setStream i x).pending = s.pending := (rfl)
@[simp] theorem State.setStream_out (i : Nat) (x : DstStream) : (s.setStream i x).out = s.out := (rfl)
@[simp] theorem State.setStream_now (i : Nat) (x : DstStream) : (s.setStream i x).now = s.now := (rfl)
@[simp] theorem State.setStream_clk (i : Nat) (x : DstStream) : (s.setStream i x).clk = s.clk := (rfl)
@[simp] theorem State.setStream_freeCnt (i : Nat) (x : DstStream) : (s.setStream i x).freeCnt = s.freeCnt := (rfl)
@[simp] theorem State.setStream_regs (i : Nat) (x : DstStream) : (s.setStream i x).regs = s.regs := (rfl)
@[simp] theorem State.setStream_latches (i : Nat) (x : DstStream) : (s.setStream i x).latches = s.latches := (rfl)
@[simp] theorem State.setStream_evt (i : Nat) (x : DstStream) : (s.setStream i x).evt = s.evt := (rfl)
@[simp] theorem State.setStream_hkc (i : Nat) (x : DstStream) : (s.setStream i x).hkc = s.hkc := (rfl)
@[simp] theorem State.setStream_dmp (i : Nat) (x : DstStream) : (s.setStream i x).dmp = s.dmp := (rfl)
@[simp] theorem State.setStream_ops (i : Nat) (x : DstStream) : (s.setStream i x).ops = s.ops := (rfl)
@[simp] theorem State.setStream_net (i : Nat) (x : DstStream) : (s.setStream i x).net = s.net := (rfl)
@[simp] theorem State.setStream_job (i : Nat) (x : DstStream) : (s.setStream i x).job = s.job := (rfl)
@[simp] theorem State.setStream_sieve (i : Nat) (x : DstStream) : (s.setStream i x).sieve = s.sieve := (rfl)
@[simp] theorem State.setStream_win (i : Nat) (x : DstStream) : (s.setStream i x).win = s.win := (rfl)
@[simp] theorem State.setStream_render (i : Nat) (x : DstStream) : (s.setStream i x).render = s.render := (rfl)
@[simp] theorem State.setStream_pec (i : Nat) (x : DstStream) : (s.setStream i x).pec = s.pec := (rfl)
@[simp] theorem State.setStream_shot (i : Nat) (x : DstStream) : (s.setStream i x).shot = s.shot := (rfl)
@[simp] theorem State.setStream_stage (i : Nat) (x : DstStream) : (s.setStream i x).stage = s.stage := (rfl)
@[simp] theorem State.setStream_trig (i : Nat) (x : DstStream) : (s.setStream i x).trig = s.trig := (rfl)
@[simp] theorem State.setStream_ptp (i : Nat) (x : DstStream) : (s.setStream i x).ptp = s.ptp := (rfl)
@[simp] theorem State.setStream_check (i : Nat) (x : DstStream) : (s.setStream i x).check = s.check := (rfl)
@[simp] theorem State.setStream_cal (i : Nat) (x : DstStream) : (s.setStream i x).cal = s.cal := (rfl)
@[simp] theorem State.setStream_lanes (i : Nat) (x : DstStream) : (s.setStream i x).lanes = s.lanes := (rfl)
@[simp] theorem State.setStream_tx (i : Nat) (x : DstStream) : (s.setStream i x).tx = s.tx := (rfl)
@[simp] theorem State.setStream_dram (i : Nat) (x : DstStream) : (s.setStream i x).dram = s.dram := (rfl)
@[simp] theorem State.setStream_pair (i : Nat) (x : DstStream) : (s.setStream i x).pair = s.pair := (rfl)
@[simp] theorem State.setStream_power (i : Nat) (x : DstStream) : (s.setStream i x).power = s.power := (rfl)

@[simp] theorem State.updStream_pending (i : Nat) (f : DstStream → DstStream) : (s.updStream i f).pending = s.pending := (rfl)
@[simp] theorem State.updStream_out (i : Nat) (f : DstStream → DstStream) : (s.updStream i f).out = s.out := (rfl)
@[simp] theorem State.updStream_now (i : Nat) (f : DstStream → DstStream) : (s.updStream i f).now = s.now := (rfl)
@[simp] theorem State.updStream_clk (i : Nat) (f : DstStream → DstStream) : (s.updStream i f).clk = s.clk := (rfl)
@[simp] theorem State.updStream_freeCnt (i : Nat) (f : DstStream → DstStream) : (s.updStream i f).freeCnt = s.freeCnt := (rfl)
@[simp] theorem State.updStream_regs (i : Nat) (f : DstStream → DstStream) : (s.updStream i f).regs = s.regs := (rfl)
@[simp] theorem State.updStream_latches (i : Nat) (f : DstStream → DstStream) : (s.updStream i f).latches = s.latches := (rfl)
@[simp] theorem State.updStream_evt (i : Nat) (f : DstStream → DstStream) : (s.updStream i f).evt = s.evt := (rfl)
@[simp] theorem State.updStream_hkc (i : Nat) (f : DstStream → DstStream) : (s.updStream i f).hkc = s.hkc := (rfl)
@[simp] theorem State.updStream_dmp (i : Nat) (f : DstStream → DstStream) : (s.updStream i f).dmp = s.dmp := (rfl)
@[simp] theorem State.updStream_ops (i : Nat) (f : DstStream → DstStream) : (s.updStream i f).ops = s.ops := (rfl)
@[simp] theorem State.updStream_net (i : Nat) (f : DstStream → DstStream) : (s.updStream i f).net = s.net := (rfl)
@[simp] theorem State.updStream_job (i : Nat) (f : DstStream → DstStream) : (s.updStream i f).job = s.job := (rfl)
@[simp] theorem State.updStream_sieve (i : Nat) (f : DstStream → DstStream) : (s.updStream i f).sieve = s.sieve := (rfl)
@[simp] theorem State.updStream_win (i : Nat) (f : DstStream → DstStream) : (s.updStream i f).win = s.win := (rfl)
@[simp] theorem State.updStream_render (i : Nat) (f : DstStream → DstStream) : (s.updStream i f).render = s.render := (rfl)
@[simp] theorem State.updStream_pec (i : Nat) (f : DstStream → DstStream) : (s.updStream i f).pec = s.pec := (rfl)
@[simp] theorem State.updStream_shot (i : Nat) (f : DstStream → DstStream) : (s.updStream i f).shot = s.shot := (rfl)
@[simp] theorem State.updStream_stage (i : Nat) (f : DstStream → DstStream) : (s.updStream i f).stage = s.stage := (rfl)
@[simp] theorem State.updStream_trig (i : Nat) (f : DstStream → DstStream) : (s.updStream i f).trig = s.trig := (rfl)
@[simp] theorem State.updStream_ptp (i : Nat) (f : DstStream → DstStream) : (s.updStream i f).ptp = s.ptp := (rfl)
@[simp] theorem State.updStream_check (i : Nat) (f : DstStream → DstStream) : (s.updStream i f).check = s.check := (rfl)
@[simp] theorem State.updStream_cal (i : Nat) (f : DstStream → DstStream) : (s.updStream i f).cal = s.cal := (rfl)
@[simp] theorem State.updStream_lanes (i : Nat) (f : DstStream → DstStream) : (s.updStream i f).lanes = s.lanes := (rfl)
@[simp] theorem State.updStream_tx (i : Nat) (f : DstStream → DstStream) : (s.updStream i f).tx = s.tx := (rfl)
@[simp] theorem State.updStream_dram (i : Nat) (f : DstStream → DstStream) : (s.updStream i f).dram = s.dram := (rfl)
@[simp] theorem State.updStream_pair (i : Nat) (f : DstStream → DstStream) : (s.updStream i f).pair = s.pair := (rfl)
@[simp] theorem State.updStream_power (i : Nat) (f : DstStream → DstStream) : (s.updStream i f).power = s.power := (rfl)

@[simp] theorem State.updStripe_pending (seq : Nat) (f : Stripe → Stripe) : (s.updStripe seq f).pending = s.pending := (rfl)
@[simp] theorem State.updStripe_out (seq : Nat) (f : Stripe → Stripe) : (s.updStripe seq f).out = s.out := (rfl)
@[simp] theorem State.updStripe_now (seq : Nat) (f : Stripe → Stripe) : (s.updStripe seq f).now = s.now := (rfl)
@[simp] theorem State.updStripe_clk (seq : Nat) (f : Stripe → Stripe) : (s.updStripe seq f).clk = s.clk := (rfl)
@[simp] theorem State.updStripe_freeCnt (seq : Nat) (f : Stripe → Stripe) : (s.updStripe seq f).freeCnt = s.freeCnt := (rfl)
@[simp] theorem State.updStripe_regs (seq : Nat) (f : Stripe → Stripe) : (s.updStripe seq f).regs = s.regs := (rfl)
@[simp] theorem State.updStripe_latches (seq : Nat) (f : Stripe → Stripe) : (s.updStripe seq f).latches = s.latches := (rfl)
@[simp] theorem State.updStripe_evt (seq : Nat) (f : Stripe → Stripe) : (s.updStripe seq f).evt = s.evt := (rfl)
@[simp] theorem State.updStripe_hkc (seq : Nat) (f : Stripe → Stripe) : (s.updStripe seq f).hkc = s.hkc := (rfl)
@[simp] theorem State.updStripe_dmp (seq : Nat) (f : Stripe → Stripe) : (s.updStripe seq f).dmp = s.dmp := (rfl)
@[simp] theorem State.updStripe_ops (seq : Nat) (f : Stripe → Stripe) : (s.updStripe seq f).ops = s.ops := (rfl)
@[simp] theorem State.updStripe_net (seq : Nat) (f : Stripe → Stripe) : (s.updStripe seq f).net = s.net := (rfl)
@[simp] theorem State.updStripe_job (seq : Nat) (f : Stripe → Stripe) : (s.updStripe seq f).job = s.job := (rfl)
@[simp] theorem State.updStripe_codec (seq : Nat) (f : Stripe → Stripe) : (s.updStripe seq f).codec = s.codec := (rfl)
@[simp] theorem State.updStripe_win (seq : Nat) (f : Stripe → Stripe) : (s.updStripe seq f).win = s.win := (rfl)
@[simp] theorem State.updStripe_render (seq : Nat) (f : Stripe → Stripe) : (s.updStripe seq f).render = s.render := (rfl)
@[simp] theorem State.updStripe_pec (seq : Nat) (f : Stripe → Stripe) : (s.updStripe seq f).pec = s.pec := (rfl)
@[simp] theorem State.updStripe_shot (seq : Nat) (f : Stripe → Stripe) : (s.updStripe seq f).shot = s.shot := (rfl)
@[simp] theorem State.updStripe_stage (seq : Nat) (f : Stripe → Stripe) : (s.updStripe seq f).stage = s.stage := (rfl)
@[simp] theorem State.updStripe_trig (seq : Nat) (f : Stripe → Stripe) : (s.updStripe seq f).trig = s.trig := (rfl)
@[simp] theorem State.updStripe_ptp (seq : Nat) (f : Stripe → Stripe) : (s.updStripe seq f).ptp = s.ptp := (rfl)
@[simp] theorem State.updStripe_check (seq : Nat) (f : Stripe → Stripe) : (s.updStripe seq f).check = s.check := (rfl)
@[simp] theorem State.updStripe_cal (seq : Nat) (f : Stripe → Stripe) : (s.updStripe seq f).cal = s.cal := (rfl)
@[simp] theorem State.updStripe_lanes (seq : Nat) (f : Stripe → Stripe) : (s.updStripe seq f).lanes = s.lanes := (rfl)
@[simp] theorem State.updStripe_tx (seq : Nat) (f : Stripe → Stripe) : (s.updStripe seq f).tx = s.tx := (rfl)
@[simp] theorem State.updStripe_dram (seq : Nat) (f : Stripe → Stripe) : (s.updStripe seq f).dram = s.dram := (rfl)
@[simp] theorem State.updStripe_pair (seq : Nat) (f : Stripe → Stripe) : (s.updStripe seq f).pair = s.pair := (rfl)
@[simp] theorem State.updStripe_power (seq : Nat) (f : Stripe → Stripe) : (s.updStripe seq f).power = s.power := (rfl)

@[simp] theorem State.noteTold_pending (seq code : Nat) : (s.noteTold seq code).pending = s.pending := (rfl)
@[simp] theorem State.noteTold_out (seq code : Nat) : (s.noteTold seq code).out = s.out := (rfl)
@[simp] theorem State.noteTold_now (seq code : Nat) : (s.noteTold seq code).now = s.now := (rfl)
@[simp] theorem State.noteTold_clk (seq code : Nat) : (s.noteTold seq code).clk = s.clk := (rfl)
@[simp] theorem State.noteTold_freeCnt (seq code : Nat) : (s.noteTold seq code).freeCnt = s.freeCnt := (rfl)
@[simp] theorem State.noteTold_regs (seq code : Nat) : (s.noteTold seq code).regs = s.regs := (rfl)
@[simp] theorem State.noteTold_latches (seq code : Nat) : (s.noteTold seq code).latches = s.latches := (rfl)
@[simp] theorem State.noteTold_evt (seq code : Nat) : (s.noteTold seq code).evt = s.evt := (rfl)
@[simp] theorem State.noteTold_hkc (seq code : Nat) : (s.noteTold seq code).hkc = s.hkc := (rfl)
@[simp] theorem State.noteTold_dmp (seq code : Nat) : (s.noteTold seq code).dmp = s.dmp := (rfl)
@[simp] theorem State.noteTold_ops (seq code : Nat) : (s.noteTold seq code).ops = s.ops := (rfl)
@[simp] theorem State.noteTold_net (seq code : Nat) : (s.noteTold seq code).net = s.net := (rfl)
@[simp] theorem State.noteTold_job (seq code : Nat) : (s.noteTold seq code).job = s.job := (rfl)
@[simp] theorem State.noteTold_codec (seq code : Nat) : (s.noteTold seq code).codec = s.codec := (rfl)
@[simp] theorem State.noteTold_win (seq code : Nat) : (s.noteTold seq code).win = s.win := (rfl)
@[simp] theorem State.noteTold_render (seq code : Nat) : (s.noteTold seq code).render = s.render := (rfl)
@[simp] theorem State.noteTold_pec (seq code : Nat) : (s.noteTold seq code).pec = s.pec := (rfl)
@[simp] theorem State.noteTold_shot (seq code : Nat) : (s.noteTold seq code).shot = s.shot := (rfl)
@[simp] theorem State.noteTold_stage (seq code : Nat) : (s.noteTold seq code).stage = s.stage := (rfl)
@[simp] theorem State.noteTold_trig (seq code : Nat) : (s.noteTold seq code).trig = s.trig := (rfl)
@[simp] theorem State.noteTold_ptp (seq code : Nat) : (s.noteTold seq code).ptp = s.ptp := (rfl)
@[simp] theorem State.noteTold_check (seq code : Nat) : (s.noteTold seq code).check = s.check := (rfl)
@[simp] theorem State.noteTold_cal (seq code : Nat) : (s.noteTold seq code).cal = s.cal := (rfl)
@[simp] theorem State.noteTold_lanes (seq code : Nat) : (s.noteTold seq code).lanes = s.lanes := (rfl)
@[simp] theorem State.noteTold_tx (seq code : Nat) : (s.noteTold seq code).tx = s.tx := (rfl)
@[simp] theorem State.noteTold_dram (seq code : Nat) : (s.noteTold seq code).dram = s.dram := (rfl)
@[simp] theorem State.noteTold_pair (seq code : Nat) : (s.noteTold seq code).pair = s.pair := (rfl)
@[simp] theorem State.noteTold_power (seq code : Nat) : (s.noteTold seq code).power = s.power := (rfl)

@[simp] theorem State.setLane_pending (t : Nat) (l : Lane) : (s.setLane t l).pending = s.pending := (rfl)
@[simp] theorem State.setLane_out (t : Nat) (l : Lane) : (s.setLane t l).out = s.out := (rfl)
@[simp] theorem State.setLane_now (t : Nat) (l : Lane) : (s.setLane t l).now = s.now := (rfl)
@[simp] theorem State.setLane_clk (t : Nat) (l : Lane) : (s.setLane t l).clk = s.clk := (rfl)
@[simp] theorem State.setLane_freeCnt (t : Nat) (l : Lane) : (s.setLane t l).freeCnt = s.freeCnt := (rfl)
@[simp] theorem State.setLane_regs (t : Nat) (l : Lane) : (s.setLane t l).regs = s.regs := (rfl)
@[simp] theorem State.setLane_latches (t : Nat) (l : Lane) : (s.setLane t l).latches = s.latches := (rfl)
@[simp] theorem State.setLane_evt (t : Nat) (l : Lane) : (s.setLane t l).evt = s.evt := (rfl)
@[simp] theorem State.setLane_hkc (t : Nat) (l : Lane) : (s.setLane t l).hkc = s.hkc := (rfl)
@[simp] theorem State.setLane_dmp (t : Nat) (l : Lane) : (s.setLane t l).dmp = s.dmp := (rfl)
@[simp] theorem State.setLane_ops (t : Nat) (l : Lane) : (s.setLane t l).ops = s.ops := (rfl)
@[simp] theorem State.setLane_net (t : Nat) (l : Lane) : (s.setLane t l).net = s.net := (rfl)
@[simp] theorem State.setLane_job (t : Nat) (l : Lane) : (s.setLane t l).job = s.job := (rfl)
@[simp] theorem State.setLane_codec (t : Nat) (l : Lane) : (s.setLane t l).codec = s.codec := (rfl)
@[simp] theorem State.setLane_sieve (t : Nat) (l : Lane) : (s.setLane t l).sieve = s.sieve := (rfl)
@[simp] theorem State.setLane_win (t : Nat) (l : Lane) : (s.setLane t l).win = s.win := (rfl)
@[simp] theorem State.setLane_render (t : Nat) (l : Lane) : (s.setLane t l).render = s.render := (rfl)
@[simp] theorem State.setLane_pec (t : Nat) (l : Lane) : (s.setLane t l).pec = s.pec := (rfl)
@[simp] theorem State.setLane_shot (t : Nat) (l : Lane) : (s.setLane t l).shot = s.shot := (rfl)
@[simp] theorem State.setLane_stage (t : Nat) (l : Lane) : (s.setLane t l).stage = s.stage := (rfl)
@[simp] theorem State.setLane_trig (t : Nat) (l : Lane) : (s.setLane t l).trig = s.trig := (rfl)
@[simp] theorem State.setLane_ptp (t : Nat) (l : Lane) : (s.setLane t l).ptp = s.ptp := (rfl)
@[simp] theorem State.setLane_check (t : Nat) (l : Lane) : (s.setLane t l).check = s.check := (rfl)
@[simp] theorem State.setLane_cal (t : Nat) (l : Lane) : (s.setLane t l).cal = s.cal := (rfl)
@[simp] theorem State.setLane_tx (t : Nat) (l : Lane) : (s.setLane t l).tx = s.tx := (rfl)
@[simp] theorem State.setLane_dram (t : Nat) (l : Lane) : (s.setLane t l).dram = s.dram := (rfl)
@[simp] theorem State.setLane_pair (t : Nat) (l : Lane) : (s.setLane t l).pair = s.pair := (rfl)
@[simp] theorem State.setLane_power (t : Nat) (l : Lane) : (s.setLane t l).power = s.power := (rfl)

@[simp] theorem State.updLane_pending (t : Nat) (f : Lane → Lane) : (s.updLane t f).pending = s.pending := (rfl)
@[simp] theorem State.updLane_out (t : Nat) (f : Lane → Lane) : (s.updLane t f).out = s.out := (rfl)
@[simp] theorem State.updLane_now (t : Nat) (f : Lane → Lane) : (s.updLane t f).now = s.now := (rfl)
@[simp] theorem State.updLane_clk (t : Nat) (f : Lane → Lane) : (s.updLane t f).clk = s.clk := (rfl)
@[simp] theorem State.updLane_freeCnt (t : Nat) (f : Lane → Lane) : (s.updLane t f).freeCnt = s.freeCnt := (rfl)
@[simp] theorem State.updLane_regs (t : Nat) (f : Lane → Lane) : (s.updLane t f).regs = s.regs := (rfl)
@[simp] theorem State.updLane_latches (t : Nat) (f : Lane → Lane) : (s.updLane t f).latches = s.latches := (rfl)
@[simp] theorem State.updLane_evt (t : Nat) (f : Lane → Lane) : (s.updLane t f).evt = s.evt := (rfl)
@[simp] theorem State.updLane_hkc (t : Nat) (f : Lane → Lane) : (s.updLane t f).hkc = s.hkc := (rfl)
@[simp] theorem State.updLane_dmp (t : Nat) (f : Lane → Lane) : (s.updLane t f).dmp = s.dmp := (rfl)
@[simp] theorem State.updLane_ops (t : Nat) (f : Lane → Lane) : (s.updLane t f).ops = s.ops := (rfl)
@[simp] theorem State.updLane_net (t : Nat) (f : Lane → Lane) : (s.updLane t f).net = s.net := (rfl)
@[simp] theorem State.updLane_job (t : Nat) (f : Lane → Lane) : (s.updLane t f).job = s.job := (rfl)
@[simp] theorem State.updLane_codec (t : Nat) (f : Lane → Lane) : (s.updLane t f).codec = s.codec := (rfl)
@[simp] theorem State.updLane_sieve (t : Nat) (f : Lane → Lane) : (s.updLane t f).sieve = s.sieve := (rfl)
@[simp] theorem State.updLane_win (t : Nat) (f : Lane → Lane) : (s.updLane t f).win = s.win := (rfl)
@[simp] theorem State.updLane_render (t : Nat) (f : Lane → Lane) : (s.updLane t f).render = s.render := (rfl)
@[simp] theorem State.updLane_pec (t : Nat) (f : Lane → Lane) : (s.updLane t f).pec = s.pec := (rfl)
@[simp] theorem State.updLane_shot (t : Nat) (f : Lane → Lane) : (s.updLane t f).shot = s.shot := (rfl)
@[simp] theorem State.updLane_stage (t : Nat) (f : Lane → Lane) : (s.updLane t f).stage = s.stage := (rfl)
@[simp] theorem State.updLane_trig (t : Nat) (f : Lane → Lane) : (s.updLane t f).trig = s.trig := (rfl)
@[simp] theorem State.updLane_ptp (t : Nat) (f : Lane → Lane) : (s.updLane t f).ptp = s.ptp := (rfl)
@[simp] theorem State.updLane_check (t : Nat) (f : Lane → Lane) : (s.updLane t f).check = s.check := (rfl)
@[simp] theorem State.updLane_cal (t : Nat) (f : Lane → Lane) : (s.updLane t f).cal = s.cal := (rfl)
@[simp] theorem State.updLane_tx (t : Nat) (f : Lane → Lane) : (s.updLane t f).tx = s.tx := (rfl)
@[simp] theorem State.updLane_dram (t : Nat) (f : Lane → Lane) : (s.updLane t f).dram = s.dram := (rfl)
@[simp] theorem State.updLane_pair (t : Nat) (f : Lane → Lane) : (s.updLane t f).pair = s.pair := (rfl)
@[simp] theorem State.updLane_power (t : Nat) (f : Lane → Lane) : (s.updLane t f).power = s.power := (rfl)

@[simp] theorem State.setLine_pending (a : Nat) (x : DramLine) : (s.setLine a x).pending = s.pending := (rfl)
@[simp] theorem State.setLine_out (a : Nat) (x : DramLine) : (s.setLine a x).out = s.out := (rfl)
@[simp] theorem State.setLine_now (a : Nat) (x : DramLine) : (s.setLine a x).now = s.now := (rfl)
@[simp] theorem State.setLine_clk (a : Nat) (x : DramLine) : (s.setLine a x).clk = s.clk := (rfl)
@[simp] theorem State.setLine_freeCnt (a : Nat) (x : DramLine) : (s.setLine a x).freeCnt = s.freeCnt := (rfl)
@[simp] theorem State.setLine_regs (a : Nat) (x : DramLine) : (s.setLine a x).regs = s.regs := (rfl)
@[simp] theorem State.setLine_latches (a : Nat) (x : DramLine) : (s.setLine a x).latches = s.latches := (rfl)
@[simp] theorem State.setLine_evt (a : Nat) (x : DramLine) : (s.setLine a x).evt = s.evt := (rfl)
@[simp] theorem State.setLine_hkc (a : Nat) (x : DramLine) : (s.setLine a x).hkc = s.hkc := (rfl)
@[simp] theorem State.setLine_dmp (a : Nat) (x : DramLine) : (s.setLine a x).dmp = s.dmp := (rfl)
@[simp] theorem State.setLine_ops (a : Nat) (x : DramLine) : (s.setLine a x).ops = s.ops := (rfl)
@[simp] theorem State.setLine_net (a : Nat) (x : DramLine) : (s.setLine a x).net = s.net := (rfl)
@[simp] theorem State.setLine_job (a : Nat) (x : DramLine) : (s.setLine a x).job = s.job := (rfl)
@[simp] theorem State.setLine_codec (a : Nat) (x : DramLine) : (s.setLine a x).codec = s.codec := (rfl)
@[simp] theorem State.setLine_sieve (a : Nat) (x : DramLine) : (s.setLine a x).sieve = s.sieve := (rfl)
@[simp] theorem State.setLine_win (a : Nat) (x : DramLine) : (s.setLine a x).win = s.win := (rfl)
@[simp] theorem State.setLine_render (a : Nat) (x : DramLine) : (s.setLine a x).render = s.render := (rfl)
@[simp] theorem State.setLine_pec (a : Nat) (x : DramLine) : (s.setLine a x).pec = s.pec := (rfl)
@[simp] theorem State.setLine_shot (a : Nat) (x : DramLine) : (s.setLine a x).shot = s.shot := (rfl)
@[simp] theorem State.setLine_stage (a : Nat) (x : DramLine) : (s.setLine a x).stage = s.stage := (rfl)
@[simp] theorem State.setLine_trig (a : Nat) (x : DramLine) : (s.setLine a x).trig = s.trig := (rfl)
@[simp] theorem State.setLine_ptp (a : Nat) (x : DramLine) : (s.setLine a x).ptp = s.ptp := (rfl)
@[simp] theorem State.setLine_check (a : Nat) (x : DramLine) : (s.setLine a x).check = s.check := (rfl)
@[simp] theorem State.setLine_cal (a : Nat) (x : DramLine) : (s.setLine a x).cal = s.cal := (rfl)
@[simp] theorem State.setLine_lanes (a : Nat) (x : DramLine) : (s.setLine a x).lanes = s.lanes := (rfl)
@[simp] theorem State.setLine_tx (a : Nat) (x : DramLine) : (s.setLine a x).tx = s.tx := (rfl)
@[simp] theorem State.setLine_pair (a : Nat) (x : DramLine) : (s.setLine a x).pair = s.pair := (rfl)
@[simp] theorem State.setLine_power (a : Nat) (x : DramLine) : (s.setLine a x).power = s.power := (rfl)

@[simp] theorem State.setTx_pending (t : Nat) (x : TxLine) : (s.setTx t x).pending = s.pending := (rfl)
@[simp] theorem State.setTx_out (t : Nat) (x : TxLine) : (s.setTx t x).out = s.out := (rfl)
@[simp] theorem State.setTx_now (t : Nat) (x : TxLine) : (s.setTx t x).now = s.now := (rfl)
@[simp] theorem State.setTx_clk (t : Nat) (x : TxLine) : (s.setTx t x).clk = s.clk := (rfl)
@[simp] theorem State.setTx_freeCnt (t : Nat) (x : TxLine) : (s.setTx t x).freeCnt = s.freeCnt := (rfl)
@[simp] theorem State.setTx_regs (t : Nat) (x : TxLine) : (s.setTx t x).regs = s.regs := (rfl)
@[simp] theorem State.setTx_latches (t : Nat) (x : TxLine) : (s.setTx t x).latches = s.latches := (rfl)
@[simp] theorem State.setTx_evt (t : Nat) (x : TxLine) : (s.setTx t x).evt = s.evt := (rfl)
@[simp] theorem State.setTx_hkc (t : Nat) (x : TxLine) : (s.setTx t x).hkc = s.hkc := (rfl)
@[simp] theorem State.setTx_dmp (t : Nat) (x : TxLine) : (s.setTx t x).dmp = s.dmp := (rfl)
@[simp] theorem State.setTx_ops (t : Nat) (x : TxLine) : (s.setTx t x).ops = s.ops := (rfl)
@[simp] theorem State.setTx_net (t : Nat) (x : TxLine) : (s.setTx t x).net = s.net := (rfl)
@[simp] theorem State.setTx_job (t : Nat) (x : TxLine) : (s.setTx t x).job = s.job := (rfl)
@[simp] theorem State.setTx_codec (t : Nat) (x : TxLine) : (s.setTx t x).codec = s.codec := (rfl)
@[simp] theorem State.setTx_sieve (t : Nat) (x : TxLine) : (s.setTx t x).sieve = s.sieve := (rfl)
@[simp] theorem State.setTx_win (t : Nat) (x : TxLine) : (s.setTx t x).win = s.win := (rfl)
@[simp] theorem State.setTx_render (t : Nat) (x : TxLine) : (s.setTx t x).render = s.render := (rfl)
@[simp] theorem State.setTx_pec (t : Nat) (x : TxLine) : (s.setTx t x).pec = s.pec := (rfl)
@[simp] theorem State.setTx_shot (t : Nat) (x : TxLine) : (s.setTx t x).shot = s.shot := (rfl)
@[simp] theorem State.setTx_stage (t : Nat) (x : TxLine) : (s.setTx t x).stage = s.stage := (rfl)
@[simp] theorem State.setTx_trig (t : Nat) (x : TxLine) : (s.setTx t x).trig = s.trig := (rfl)
@[simp] theorem State.setTx_ptp (t : Nat) (x : TxLine) : (s.setTx t x).ptp = s.ptp := (rfl)
@[simp] theorem State.setTx_check (t : Nat) (x : TxLine) : (s.setTx t x).check = s.check := (rfl)
@[simp] theorem State.setTx_cal (t : Nat) (x : TxLine) : (s.setTx t x).cal = s.cal := (rfl)
@[simp] theorem State.setTx_lanes (t : Nat) (x : TxLine) : (s.setTx t x).lanes = s.lanes := (rfl)
@[simp] theorem State.setTx_dram (t : Nat) (x : TxLine) : (s.setTx t x).dram = s.dram := (rfl)
@[simp] theorem State.setTx_pair (t : Nat) (x : TxLine) : (s.setTx t x).pair = s.pair := (rfl)
@[simp] theorem State.setTx_power (t : Nat) (x : TxLine) : (s.setTx t x).power = s.power := (rfl)

@[simp] theorem State.nvmWrite_pending (a : Nat) (b : Bytes) : (s.nvmWrite a b).pending = s.pending := (rfl)
@[simp] theorem State.nvmWrite_out (a : Nat) (b : Bytes) : (s.nvmWrite a b).out = s.out := (rfl)
@[simp] theorem State.nvmWrite_now (a : Nat) (b : Bytes) : (s.nvmWrite a b).now = s.now := (rfl)
@[simp] theorem State.nvmWrite_clk (a : Nat) (b : Bytes) : (s.nvmWrite a b).clk = s.clk := (rfl)
@[simp] theorem State.nvmWrite_freeCnt (a : Nat) (b : Bytes) : (s.nvmWrite a b).freeCnt = s.freeCnt := (rfl)
@[simp] theorem State.nvmWrite_regs (a : Nat) (b : Bytes) : (s.nvmWrite a b).regs = s.regs := (rfl)
@[simp] theorem State.nvmWrite_latches (a : Nat) (b : Bytes) : (s.nvmWrite a b).latches = s.latches := (rfl)
@[simp] theorem State.nvmWrite_evt (a : Nat) (b : Bytes) : (s.nvmWrite a b).evt = s.evt := (rfl)
@[simp] theorem State.nvmWrite_hkc (a : Nat) (b : Bytes) : (s.nvmWrite a b).hkc = s.hkc := (rfl)
@[simp] theorem State.nvmWrite_dmp (a : Nat) (b : Bytes) : (s.nvmWrite a b).dmp = s.dmp := (rfl)
@[simp] theorem State.nvmWrite_ops (a : Nat) (b : Bytes) : (s.nvmWrite a b).ops = s.ops := (rfl)
@[simp] theorem State.nvmWrite_net (a : Nat) (b : Bytes) : (s.nvmWrite a b).net = s.net := (rfl)
@[simp] theorem State.nvmWrite_job (a : Nat) (b : Bytes) : (s.nvmWrite a b).job = s.job := (rfl)
@[simp] theorem State.nvmWrite_codec (a : Nat) (b : Bytes) : (s.nvmWrite a b).codec = s.codec := (rfl)
@[simp] theorem State.nvmWrite_sieve (a : Nat) (b : Bytes) : (s.nvmWrite a b).sieve = s.sieve := (rfl)
@[simp] theorem State.nvmWrite_win (a : Nat) (b : Bytes) : (s.nvmWrite a b).win = s.win := (rfl)
@[simp] theorem State.nvmWrite_render (a : Nat) (b : Bytes) : (s.nvmWrite a b).render = s.render := (rfl)
@[simp] theorem State.nvmWrite_pec (a : Nat) (b : Bytes) : (s.nvmWrite a b).pec = s.pec := (rfl)
@[simp] theorem State.nvmWrite_shot (a : Nat) (b : Bytes) : (s.nvmWrite a b).shot = s.shot := (rfl)
@[simp] theorem State.nvmWrite_stage (a : Nat) (b : Bytes) : (s.nvmWrite a b).stage = s.stage := (rfl)
@[simp] theorem State.nvmWrite_trig (a : Nat) (b : Bytes) : (s.nvmWrite a b).trig = s.trig := (rfl)
@[simp] theorem State.nvmWrite_ptp (a : Nat) (b : Bytes) : (s.nvmWrite a b).ptp = s.ptp := (rfl)
@[simp] theorem State.nvmWrite_check (a : Nat) (b : Bytes) : (s.nvmWrite a b).check = s.check := (rfl)
@[simp] theorem State.nvmWrite_cal (a : Nat) (b : Bytes) : (s.nvmWrite a b).cal = s.cal := (rfl)
@[simp] theorem State.nvmWrite_lanes (a : Nat) (b : Bytes) : (s.nvmWrite a b).lanes = s.lanes := (rfl)
@[simp] theorem State.nvmWrite_tx (a : Nat) (b : Bytes) : (s.nvmWrite a b).tx = s.tx := (rfl)
@[simp] theorem State.nvmWrite_dram (a : Nat) (b : Bytes) : (s.nvmWrite a b).dram = s.dram := (rfl)
@[simp] theorem State.nvmWrite_pair (a : Nat) (b : Bytes) : (s.nvmWrite a b).pair = s.pair := (rfl)

@[simp] theorem State.nvmErase_pending (a n : Nat) : (s.nvmErase a n).pending = s.pending := (rfl)
@[simp] theorem State.nvmErase_out (a n : Nat) : (s.nvmErase a n).out = s.out := (rfl)
@[simp] theorem State.nvmErase_now (a n : Nat) : (s.nvmErase a n).now = s.now := (rfl)
@[simp] theorem State.nvmErase_clk (a n : Nat) : (s.nvmErase a n).clk = s.clk := (rfl)
@[simp] theorem State.nvmErase_freeCnt (a n : Nat) : (s.nvmErase a n).freeCnt = s.freeCnt := (rfl)
@[simp] theorem State.nvmErase_regs (a n : Nat) : (s.nvmErase a n).regs = s.regs := (rfl)
@[simp] theorem State.nvmErase_latches (a n : Nat) : (s.nvmErase a n).latches = s.latches := (rfl)
@[simp] theorem State.nvmErase_evt (a n : Nat) : (s.nvmErase a n).evt = s.evt := (rfl)
@[simp] theorem State.nvmErase_hkc (a n : Nat) : (s.nvmErase a n).hkc = s.hkc := (rfl)
@[simp] theorem State.nvmErase_dmp (a n : Nat) : (s.nvmErase a n).dmp = s.dmp := (rfl)
@[simp] theorem State.nvmErase_ops (a n : Nat) : (s.nvmErase a n).ops = s.ops := (rfl)
@[simp] theorem State.nvmErase_net (a n : Nat) : (s.nvmErase a n).net = s.net := (rfl)
@[simp] theorem State.nvmErase_job (a n : Nat) : (s.nvmErase a n).job = s.job := (rfl)
@[simp] theorem State.nvmErase_codec (a n : Nat) : (s.nvmErase a n).codec = s.codec := (rfl)
@[simp] theorem State.nvmErase_sieve (a n : Nat) : (s.nvmErase a n).sieve = s.sieve := (rfl)
@[simp] theorem State.nvmErase_win (a n : Nat) : (s.nvmErase a n).win = s.win := (rfl)
@[simp] theorem State.nvmErase_render (a n : Nat) : (s.nvmErase a n).render = s.render := (rfl)
@[simp] theorem State.nvmErase_pec (a n : Nat) : (s.nvmErase a n).pec = s.pec := (rfl)
@[simp] theorem State.nvmErase_shot (a n : Nat) : (s.nvmErase a n).shot = s.shot := (rfl)
@[simp] theorem State.nvmErase_stage (a n : Nat) : (s.nvmErase a n).stage = s.stage := (rfl)
@[simp] theorem State.nvmErase_trig (a n : Nat) : (s.nvmErase a n).trig = s.trig := (rfl)
@[simp] theorem State.nvmErase_ptp (a n : Nat) : (s.nvmErase a n).ptp = s.ptp := (rfl)
@[simp] theorem State.nvmErase_check (a n : Nat) : (s.nvmErase a n).check = s.check := (rfl)
@[simp] theorem State.nvmErase_cal (a n : Nat) : (s.nvmErase a n).cal = s.cal := (rfl)
@[simp] theorem State.nvmErase_lanes (a n : Nat) : (s.nvmErase a n).lanes = s.lanes := (rfl)
@[simp] theorem State.nvmErase_tx (a n : Nat) : (s.nvmErase a n).tx = s.tx := (rfl)
@[simp] theorem State.nvmErase_dram (a n : Nat) : (s.nvmErase a n).dram = s.dram := (rfl)
@[simp] theorem State.nvmErase_pair (a n : Nat) : (s.nvmErase a n).pair = s.pair := (rfl)

@[simp] theorem State.setRecStream_pending (i : Nat) (r : RecStream) : (s.setRecStream i r).pending = s.pending := (rfl)
@[simp] theorem State.setRecStream_out (i : Nat) (r : RecStream) : (s.setRecStream i r).out = s.out := (rfl)
@[simp] theorem State.setRecStream_now (i : Nat) (r : RecStream) : (s.setRecStream i r).now = s.now := (rfl)
@[simp] theorem State.setRecStream_clk (i : Nat) (r : RecStream) : (s.setRecStream i r).clk = s.clk := (rfl)
@[simp] theorem State.setRecStream_freeCnt (i : Nat) (r : RecStream) : (s.setRecStream i r).freeCnt = s.freeCnt := (rfl)
@[simp] theorem State.setRecStream_regs (i : Nat) (r : RecStream) : (s.setRecStream i r).regs = s.regs := (rfl)
@[simp] theorem State.setRecStream_latches (i : Nat) (r : RecStream) : (s.setRecStream i r).latches = s.latches := (rfl)
@[simp] theorem State.setRecStream_evt (i : Nat) (r : RecStream) : (s.setRecStream i r).evt = s.evt := (rfl)
@[simp] theorem State.setRecStream_hkc (i : Nat) (r : RecStream) : (s.setRecStream i r).hkc = s.hkc := (rfl)
@[simp] theorem State.setRecStream_dmp (i : Nat) (r : RecStream) : (s.setRecStream i r).dmp = s.dmp := (rfl)
@[simp] theorem State.setRecStream_ops (i : Nat) (r : RecStream) : (s.setRecStream i r).ops = s.ops := (rfl)
@[simp] theorem State.setRecStream_net (i : Nat) (r : RecStream) : (s.setRecStream i r).net = s.net := (rfl)
@[simp] theorem State.setRecStream_job (i : Nat) (r : RecStream) : (s.setRecStream i r).job = s.job := (rfl)
@[simp] theorem State.setRecStream_codec (i : Nat) (r : RecStream) : (s.setRecStream i r).codec = s.codec := (rfl)
@[simp] theorem State.setRecStream_sieve (i : Nat) (r : RecStream) : (s.setRecStream i r).sieve = s.sieve := (rfl)
@[simp] theorem State.setRecStream_win (i : Nat) (r : RecStream) : (s.setRecStream i r).win = s.win := (rfl)
@[simp] theorem State.setRecStream_render (i : Nat) (r : RecStream) : (s.setRecStream i r).render = s.render := (rfl)
@[simp] theorem State.setRecStream_pec (i : Nat) (r : RecStream) : (s.setRecStream i r).pec = s.pec := (rfl)
@[simp] theorem State.setRecStream_shot (i : Nat) (r : RecStream) : (s.setRecStream i r).shot = s.shot := (rfl)
@[simp] theorem State.setRecStream_stage (i : Nat) (r : RecStream) : (s.setRecStream i r).stage = s.stage := (rfl)
@[simp] theorem State.setRecStream_trig (i : Nat) (r : RecStream) : (s.setRecStream i r).trig = s.trig := (rfl)
@[simp] theorem State.setRecStream_ptp (i : Nat) (r : RecStream) : (s.setRecStream i r).ptp = s.ptp := (rfl)
@[simp] theorem State.setRecStream_cal (i : Nat) (r : RecStream) : (s.setRecStream i r).cal = s.cal := (rfl)
@[simp] theorem State.setRecStream_lanes (i : Nat) (r : RecStream) : (s.setRecStream i r).lanes = s.lanes := (rfl)
@[simp] theorem State.setRecStream_tx (i : Nat) (r : RecStream) : (s.setRecStream i r).tx = s.tx := (rfl)
@[simp] theorem State.setRecStream_dram (i : Nat) (r : RecStream) : (s.setRecStream i r).dram = s.dram := (rfl)
@[simp] theorem State.setRecStream_pair (i : Nat) (r : RecStream) : (s.setRecStream i r).pair = s.pair := (rfl)
@[simp] theorem State.setRecStream_power (i : Nat) (r : RecStream) : (s.setRecStream i r).power = s.power := (rfl)

end Sys2Proof.Machine
end

