-- ==== Sys2Proof/Laws/Table.lean ====
section
/-! SUPPORT. Laws of the sparse tables: what a key reads as after a write or an erasure, and that every operation keeps the
keys rising. -/

namespace Sys2Proof.Machine

variable {α : Type}

theorem tabFind_put_same (t : Tab α) (a : Nat) (x : α) : tabFind (tabPut t a x) a = some x := by
  induction t with
  | nil => simp [tabPut, tabFind]
  | cons e t ih =>
    obtain ⟨k, v⟩ := e
    by_cases h : k = a
    · simp [tabPut, tabFind, h]
    · by_cases g : a < k <;> simp [tabPut, tabFind, h, g, ih]

theorem tabFind_put_ne (t : Tab α) {a b : Nat} (x : α) (h : b ≠ a) : tabFind (tabPut t a x) b = tabFind t b := by
  induction t with
  | nil => simp [tabPut, tabFind, Ne.symm h]
  | cons e t ih =>
    obtain ⟨k, v⟩ := e
    by_cases hk : k = a
    · subst hk; simp [tabPut, tabFind, Ne.symm h]
    · by_cases g : a < k
      · simp [tabPut, tabFind, hk, g, Ne.symm h]
      · simp [tabPut, tabFind, hk, g, ih]

theorem tabFind_erase_same (t : Tab α) (a : Nat) : tabFind (tabErase t a) a = none := by
  induction t with
  | nil => rfl
  | cons e t ih =>
    obtain ⟨k, v⟩ := e
    by_cases h : k = a <;> simp [tabErase, tabFind, h, ih]

theorem tabFind_erase_ne (t : Tab α) {a b : Nat} (h : b ≠ a) : tabFind (tabErase t a) b = tabFind t b := by
  induction t with
  | nil => rfl
  | cons e t ih =>
    obtain ⟨k, v⟩ := e
    by_cases hk : k = a
    · subst hk; simp [tabErase, tabFind, Ne.symm h, ih]
    · simp [tabErase, tabFind, hk, ih]

theorem tabGet_set_same [DecidableEq α] (d : α) (t : Tab α) (a : Nat) (x : α) : tabGet d (tabSet d t a x) a = x := by
  by_cases h : x = d
  · simp [tabGet, tabSet, h, tabFind_erase_same]
  · simp [tabGet, tabSet, h, tabFind_put_same]

theorem tabGet_set_ne [DecidableEq α] (d : α) (t : Tab α) {a b : Nat} (x : α) (h : b ≠ a) :
    tabGet d (tabSet d t a x) b = tabGet d t b := by
  by_cases g : x = d
  · simp [tabGet, tabSet, g, tabFind_erase_ne t h]
  · simp [tabGet, tabSet, g, tabFind_put_ne t x h]

/-- Rising keys above a bound, as a proposition: the bound may be lowered. -/
theorem tabSorted_lower (b c : Nat) (t : Tab α) (hbc : b ≤ c) (h : tabSorted (some c) t = true) :
    tabSorted (some b) t = true := by
  cases t with
  | nil => rfl
  | cons e t =>
    obtain ⟨k, v⟩ := e
    simp only [tabSorted, Bool.and_eq_true, decide_eq_true_eq] at h ⊢
    exact ⟨by omega, h.2⟩

theorem tabSorted_none_of_some (b : Nat) (t : Tab α) (h : tabSorted (some b) t = true) : tabSorted none t = true := by
  cases t with
  | nil => rfl
  | cons e t =>
    obtain ⟨k, v⟩ := e
    simp only [tabSorted, Bool.and_eq_true] at h ⊢
    exact h.2

theorem tabSorted_filter_some (p : Nat × α → Bool) (t : Tab α) :
    ∀ b, tabSorted (some b) t = true → tabSorted (some b) (t.filter p) = true := by
  induction t with
  | nil => intros; rfl
  | cons e t ih =>
    obtain ⟨k, v⟩ := e
    intro b h
    simp only [tabSorted, Bool.and_eq_true, decide_eq_true_eq] at h
    by_cases hp : p (k, v)
    · simp only [List.filter_cons_of_pos hp, tabSorted, Bool.and_eq_true, decide_eq_true_eq]
      exact ⟨h.1, ih k h.2⟩
    · simp only [List.filter_cons_of_neg hp]
      exact ih b (tabSorted_lower b k t (by omega) h.2)

/-- Dropping entries keeps the keys rising. -/
theorem tabSorted_filter (p : Nat × α → Bool) (t : Tab α) (h : tabSorted none t = true) :
    tabSorted none (t.filter p) = true := by
  cases t with
  | nil => rfl
  | cons e t =>
    obtain ⟨k, v⟩ := e
    simp only [tabSorted] at h
    by_cases hp : p (k, v)
    · simp only [List.filter_cons_of_pos hp, tabSorted]
      exact tabSorted_filter_some p t k h
    · simp only [List.filter_cons_of_neg hp]
      exact tabSorted_none_of_some k _ (tabSorted_filter_some p t k h)

theorem tabErase_eq_filter (t : Tab α) (a : Nat) : tabErase t a = t.filter (fun e => decide (e.1 ≠ a)) := by
  induction t with
  | nil => rfl
  | cons e t ih =>
    obtain ⟨k, v⟩ := e
    by_cases h : k = a <;> simp [tabErase, h, ih]

theorem tabSorted_erase (t : Tab α) (a : Nat) (h : tabSorted none t = true) : tabSorted none (tabErase t a) = true := by
  rw [tabErase_eq_filter]; exact tabSorted_filter _ t h

theorem tabSorted_put_some (a : Nat) (x : α) (t : Tab α) :
    ∀ b, b < a → tabSorted (some b) t = true → tabSorted (some b) (tabPut t a x) = true := by
  induction t with
  | nil => intro b hb _; simp [tabPut, tabSorted, hb]
  | cons e t ih =>
    obtain ⟨k, v⟩ := e
    intro b hb h
    simp only [tabSorted, Bool.and_eq_true, decide_eq_true_eq] at h
    unfold tabPut
    split
    · next e => subst e; simpa [tabSorted] using h
    · split
      · next g => simp only [tabSorted, Bool.and_eq_true, decide_eq_true_eq]; exact ⟨hb, g, h.2⟩
      · next e g => simp only [tabSorted, Bool.and_eq_true, decide_eq_true_eq]; exact ⟨h.1, ih k (by omega) h.2⟩

/-- Writing a key keeps the keys rising. -/
theorem tabSorted_put (t : Tab α) (a : Nat) (x : α) (h : tabSorted none t = true) : tabSorted none (tabPut t a x) = true := by
  cases t with
  | nil => rfl
  | cons e t =>
    obtain ⟨k, v⟩ := e
    simp only [tabSorted] at h
    unfold tabPut
    split
    · next e => subst e; simpa [tabSorted] using h
    · split
      · next g => simp only [tabSorted, Bool.and_eq_true, decide_eq_true_eq]; exact ⟨g, h⟩
      · next e g => simp only [tabSorted]; exact tabSorted_put_some a x t k (by omega) h

theorem tabPut_all (p : Nat × α → Bool) (t : Tab α) (a : Nat) (x : α) (h : t.all p = true) (hx : p (a, x) = true) :
    (tabPut t a x).all p = true := by
  induction t with
  | nil => simp [tabPut, hx]
  | cons e t ih =>
    obtain ⟨k, v⟩ := e
    simp only [List.all_cons, Bool.and_eq_true] at h
    unfold tabPut
    split
    · simp [hx, h.2]
    · split
      · simp [hx, h.1, h.2]
      · simp [h.1, ih h.2]

theorem tabFilter_all (p q : Nat × α → Bool) (t : Tab α) (h : t.all p = true) : (t.filter q).all p = true := by
  simp only [List.all_eq_true, List.mem_filter] at h ⊢
  exact fun e he => h e he.1

/-- Writing a value keeps the canonical form. -/
theorem tabWf_set [DecidableEq α] (d : α) (t : Tab α) (a : Nat) (x : α) (h : tabWf d t = true) :
    tabWf d (tabSet d t a x) = true := by
  simp only [tabWf, Bool.and_eq_true] at h ⊢
  unfold tabSet
  split
  · rw [tabErase_eq_filter]
    exact ⟨tabSorted_filter _ t h.1, tabFilter_all _ _ t h.2⟩
  · next hx => exact ⟨tabSorted_put t a x h.1, tabPut_all _ t a x h.2 (by simpa using hx)⟩

theorem tabWf_keep [DecidableEq α] (d : α) (p : Nat → Bool) (t : Tab α) (h : tabWf d t = true) :
    tabWf d (tabKeep p t) = true := by
  simp only [tabWf, Bool.and_eq_true] at h ⊢
  exact ⟨tabSorted_filter _ t h.1, tabFilter_all _ _ t h.2⟩

theorem tabWf_setRange [DecidableEq α] (d : α) (xs : List α) :
    ∀ (t : Tab α) (a : Nat), tabWf d t = true → tabWf d (tabSetRange d t a xs) = true := by
  induction xs with
  | nil => intro t a h; exact h
  | cons x xs ih => intro t a h; exact ih _ _ (tabWf_set d t a x h)

end Sys2Proof.Machine
end

