-- ==== Sys2Proof/Laws/Ops.lean ====
section
/-! SUPPORT. Laws of the shared operations: register fields read and written, events raised, frames of the composite
operations. -/

namespace Sys2Proof.Machine

/-! ### Register fields -/

theorem State.rd_wr_same (s : State) (f : Fld) (v : Nat) : (s.wr f v).rd f = v % 2 ^ f.width := by
  unfold State.wr State.rd regsWr
  by_cases h : v % 2 ^ f.width = f.rst
  · simp [h, tabFind_erase_same]
  · simp [h, tabFind_put_same]

theorem State.rd_wr_ne (s : State) {f g : Fld} (v : Nat) (h : fldKey f ≠ fldKey g) : (s.wr g v).rd f = s.rd f := by
  unfold State.wr State.rd regsWr
  by_cases e : v % 2 ^ g.width = g.rst
  · simp [e, tabFind_erase_ne _ h]
  · simp [e, tabFind_put_ne _ _ h]

theorem State.rd_congr {s t : State} (h : t.regs = s.regs) (f : Fld) : t.rd f = s.rd f := by simp [State.rd, h]

theorem State.rd_inc_same (s : State) (f : Fld) : (s.inc f).rd f = Nat.min (s.rd f + 1) (2 ^ f.width - 1) % 2 ^ f.width :=
  s.rd_wr_same f _

theorem State.rd_inc_ne (s : State) {f g : Fld} (h : fldKey f ≠ fldKey g) : (s.inc g).rd f = s.rd f := s.rd_wr_ne _ h

/-- A counter below its limit counts one up. -/
theorem State.rd_inc_lt (s : State) (f : Fld) (h : s.rd f + 1 < 2 ^ f.width) : (s.inc f).rd f = s.rd f + 1 := by
  have e : Nat.min (s.rd f + 1) (2 ^ f.width - 1) = s.rd f + 1 := Nat.min_eq_left (by omega)
  rw [State.rd_inc_same, e, Nat.mod_eq_of_lt h]

/-! ### Folds -/

/-- A projection that no step of a fold changes is what it was. -/
theorem foldl_part {α β : Type} (g : State → β) (f : State → α → State) (h : ∀ s a, g (f s a) = g s) :
    ∀ (l : List α) (s : State), g (l.foldl f s) = g s := by
  intro l
  induction l with
  | nil => intro s; rfl
  | cons a l ih => intro s; exact (ih (f s a)).trans (h s a)

/-- A relation that is reflexive, composes and holds of every step of a fold holds of the fold. -/
theorem foldl_rel {α : Type} (R : State → State → Prop) (refl : ∀ s, R s s) (trans : ∀ s t u, R s t → R t u → R s u)
    (f : State → α → State) (h : ∀ s a, R s (f s a)) : ∀ (l : List α) (s : State), R s (l.foldl f s) := by
  intro l
  induction l with
  | nil => intro s; exact refl s
  | cons a l ih => intro s; exact trans _ _ _ (h s a) (ih (f s a))

/-! ### Frames of the composite operations -/

section
variable (s : State)

@[simp] theorem State.wrs_pending (l : List (Fld × Nat)) : (s.wrs l).pending = s.pending := by unfold State.wrs; refine foldl_part (·.pending) _ ?_ l s; intros; rfl
@[simp] theorem State.wrs_out (l : List (Fld × Nat)) : (s.wrs l).out = s.out := by unfold State.wrs; refine foldl_part (·.out) _ ?_ l s; intros; rfl
@[simp] theorem State.wrs_now (l : List (Fld × Nat)) : (s.wrs l).now = s.now := by unfold State.wrs; refine foldl_part (·.now) _ ?_ l s; intros; rfl
@[simp] theorem State.wrs_clk (l : List (Fld × Nat)) : (s.wrs l).clk = s.clk := by unfold State.wrs; refine foldl_part (·.clk) _ ?_ l s; intros; rfl
@[simp] theorem State.wrs_freeCnt (l : List (Fld × Nat)) : (s.wrs l).freeCnt = s.freeCnt := by unfold State.wrs; refine foldl_part (·.freeCnt) _ ?_ l s; intros; rfl
@[simp] theorem State.wrs_latches (l : List (Fld × Nat)) : (s.wrs l).latches = s.latches := by unfold State.wrs; refine foldl_part (·.latches) _ ?_ l s; intros; rfl
@[simp] theorem State.wrs_evt (l : List (Fld × Nat)) : (s.wrs l).evt = s.evt := by unfold State.wrs; refine foldl_part (·.evt) _ ?_ l s; intros; rfl
@[simp] theorem State.wrs_hkc (l : List (Fld × Nat)) : (s.wrs l).hkc = s.hkc := by unfold State.wrs; refine foldl_part (·.hkc) _ ?_ l s; intros; rfl
@[simp] theorem State.wrs_dmp (l : List (Fld × Nat)) : (s.wrs l).dmp = s.dmp := by unfold State.wrs; refine foldl_part (·.dmp) _ ?_ l s; intros; rfl
@[simp] theorem State.wrs_ops (l : List (Fld × Nat)) : (s.wrs l).ops = s.ops := by unfold State.wrs; refine foldl_part (·.ops) _ ?_ l s; intros; rfl
@[simp] theorem State.wrs_net (l : List (Fld × Nat)) : (s.wrs l).net = s.net := by unfold State.wrs; refine foldl_part (·.net) _ ?_ l s; intros; rfl
@[simp] theorem State.wrs_job (l : List (Fld × Nat)) : (s.wrs l).job = s.job := by unfold State.wrs; refine foldl_part (·.job) _ ?_ l s; intros; rfl
@[simp] theorem State.wrs_codec (l : List (Fld × Nat)) : (s.wrs l).codec = s.codec := by unfold State.wrs; refine foldl_part (·.codec) _ ?_ l s; intros; rfl
@[simp] theorem State.wrs_sieve (l : List (Fld × Nat)) : (s.wrs l).sieve = s.sieve := by unfold State.wrs; refine foldl_part (·.sieve) _ ?_ l s; intros; rfl
@[simp] theorem State.wrs_win (l : List (Fld × Nat)) : (s.wrs l).win = s.win := by unfold State.wrs; refine foldl_part (·.win) _ ?_ l s; intros; rfl
@[simp] theorem State.wrs_render (l : List (Fld × Nat)) : (s.wrs l).render = s.render := by unfold State.wrs; refine foldl_part (·.render) _ ?_ l s; intros; rfl
@[simp] theorem State.wrs_pec (l : List (Fld × Nat)) : (s.wrs l).pec = s.pec := by unfold State.wrs; refine foldl_part (·.pec) _ ?_ l s; intros; rfl
@[simp] theorem State.wrs_shot (l : List (Fld × Nat)) : (s.wrs l).shot = s.shot := by unfold State.wrs; refine foldl_part (·.shot) _ ?_ l s; intros; rfl
@[simp] theorem State.wrs_stage (l : List (Fld × Nat)) : (s.wrs l).stage = s.stage := by unfold State.wrs; refine foldl_part (·.stage) _ ?_ l s; intros; rfl
@[simp] theorem State.wrs_trig (l : List (Fld × Nat)) : (s.wrs l).trig = s.trig := by unfold State.wrs; refine foldl_part (·.trig) _ ?_ l s; intros; rfl
@[simp] theorem State.wrs_ptp (l : List (Fld × Nat)) : (s.wrs l).ptp = s.ptp := by unfold State.wrs; refine foldl_part (·.ptp) _ ?_ l s; intros; rfl
@[simp] theorem State.wrs_check (l : List (Fld × Nat)) : (s.wrs l).check = s.check := by unfold State.wrs; refine foldl_part (·.check) _ ?_ l s; intros; rfl
@[simp] theorem State.wrs_cal (l : List (Fld × Nat)) : (s.wrs l).cal = s.cal := by unfold State.wrs; refine foldl_part (·.cal) _ ?_ l s; intros; rfl
@[simp] theorem State.wrs_lanes (l : List (Fld × Nat)) : (s.wrs l).lanes = s.lanes := by unfold State.wrs; refine foldl_part (·.lanes) _ ?_ l s; intros; rfl
@[simp] theorem State.wrs_tx (l : List (Fld × Nat)) : (s.wrs l).tx = s.tx := by unfold State.wrs; refine foldl_part (·.tx) _ ?_ l s; intros; rfl
@[simp] theorem State.wrs_dram (l : List (Fld × Nat)) : (s.wrs l).dram = s.dram := by unfold State.wrs; refine foldl_part (·.dram) _ ?_ l s; intros; rfl
@[simp] theorem State.wrs_pair (l : List (Fld × Nat)) : (s.wrs l).pair = s.pair := by unfold State.wrs; refine foldl_part (·.pair) _ ?_ l s; intros; rfl
@[simp] theorem State.wrs_power (l : List (Fld × Nat)) : (s.wrs l).power = s.power := by unfold State.wrs; refine foldl_part (·.power) _ ?_ l s; intros; rfl

@[simp] theorem State.sendEvt_pending (e : EvtEntry) : (s.sendEvt e).pending = s.pending := by unfold State.sendEvt; refine foldl_part (·.pending) _ ?_ s.evt.subs s; intros; rfl
@[simp] theorem State.sendEvt_now (e : EvtEntry) : (s.sendEvt e).now = s.now := by unfold State.sendEvt; refine foldl_part (·.now) _ ?_ s.evt.subs s; intros; rfl
@[simp] theorem State.sendEvt_clk (e : EvtEntry) : (s.sendEvt e).clk = s.clk := by unfold State.sendEvt; refine foldl_part (·.clk) _ ?_ s.evt.subs s; intros; rfl
@[simp] theorem State.sendEvt_freeCnt (e : EvtEntry) : (s.sendEvt e).freeCnt = s.freeCnt := by unfold State.sendEvt; refine foldl_part (·.freeCnt) _ ?_ s.evt.subs s; intros; rfl
@[simp] theorem State.sendEvt_latches (e : EvtEntry) : (s.sendEvt e).latches = s.latches := by unfold State.sendEvt; refine foldl_part (·.latches) _ ?_ s.evt.subs s; intros; rfl
@[simp] theorem State.sendEvt_evt (e : EvtEntry) : (s.sendEvt e).evt = s.evt := by unfold State.sendEvt; refine foldl_part (·.evt) _ ?_ s.evt.subs s; intros; rfl
@[simp] theorem State.sendEvt_hkc (e : EvtEntry) : (s.sendEvt e).hkc = s.hkc := by unfold State.sendEvt; refine foldl_part (·.hkc) _ ?_ s.evt.subs s; intros; rfl
@[simp] theorem State.sendEvt_dmp (e : EvtEntry) : (s.sendEvt e).dmp = s.dmp := by unfold State.sendEvt; refine foldl_part (·.dmp) _ ?_ s.evt.subs s; intros; rfl
@[simp] theorem State.sendEvt_ops (e : EvtEntry) : (s.sendEvt e).ops = s.ops := by unfold State.sendEvt; refine foldl_part (·.ops) _ ?_ s.evt.subs s; intros; rfl
@[simp] theorem State.sendEvt_net (e : EvtEntry) : (s.sendEvt e).net = s.net := by unfold State.sendEvt; refine foldl_part (·.net) _ ?_ s.evt.subs s; intros; rfl
@[simp] theorem State.sendEvt_job (e : EvtEntry) : (s.sendEvt e).job = s.job := by unfold State.sendEvt; refine foldl_part (·.job) _ ?_ s.evt.subs s; intros; rfl
@[simp] theorem State.sendEvt_codec (e : EvtEntry) : (s.sendEvt e).codec = s.codec := by unfold State.sendEvt; refine foldl_part (·.codec) _ ?_ s.evt.subs s; intros; rfl
@[simp] theorem State.sendEvt_sieve (e : EvtEntry) : (s.sendEvt e).sieve = s.sieve := by unfold State.sendEvt; refine foldl_part (·.sieve) _ ?_ s.evt.subs s; intros; rfl
@[simp] theorem State.sendEvt_win (e : EvtEntry) : (s.sendEvt e).win = s.win := by unfold State.sendEvt; refine foldl_part (·.win) _ ?_ s.evt.subs s; intros; rfl
@[simp] theorem State.sendEvt_render (e : EvtEntry) : (s.sendEvt e).render = s.render := by unfold State.sendEvt; refine foldl_part (·.render) _ ?_ s.evt.subs s; intros; rfl
@[simp] theorem State.sendEvt_pec (e : EvtEntry) : (s.sendEvt e).pec = s.pec := by unfold State.sendEvt; refine foldl_part (·.pec) _ ?_ s.evt.subs s; intros; rfl
@[simp] theorem State.sendEvt_shot (e : EvtEntry) : (s.sendEvt e).shot = s.shot := by unfold State.sendEvt; refine foldl_part (·.shot) _ ?_ s.evt.subs s; intros; rfl
@[simp] theorem State.sendEvt_stage (e : EvtEntry) : (s.sendEvt e).stage = s.stage := by unfold State.sendEvt; refine foldl_part (·.stage) _ ?_ s.evt.subs s; intros; rfl
@[simp] theorem State.sendEvt_trig (e : EvtEntry) : (s.sendEvt e).trig = s.trig := by unfold State.sendEvt; refine foldl_part (·.trig) _ ?_ s.evt.subs s; intros; rfl
@[simp] theorem State.sendEvt_ptp (e : EvtEntry) : (s.sendEvt e).ptp = s.ptp := by unfold State.sendEvt; refine foldl_part (·.ptp) _ ?_ s.evt.subs s; intros; rfl
@[simp] theorem State.sendEvt_check (e : EvtEntry) : (s.sendEvt e).check = s.check := by unfold State.sendEvt; refine foldl_part (·.check) _ ?_ s.evt.subs s; intros; rfl
@[simp] theorem State.sendEvt_cal (e : EvtEntry) : (s.sendEvt e).cal = s.cal := by unfold State.sendEvt; refine foldl_part (·.cal) _ ?_ s.evt.subs s; intros; rfl
@[simp] theorem State.sendEvt_lanes (e : EvtEntry) : (s.sendEvt e).lanes = s.lanes := by unfold State.sendEvt; refine foldl_part (·.lanes) _ ?_ s.evt.subs s; intros; rfl
@[simp] theorem State.sendEvt_tx (e : EvtEntry) : (s.sendEvt e).tx = s.tx := by unfold State.sendEvt; refine foldl_part (·.tx) _ ?_ s.evt.subs s; intros; rfl
@[simp] theorem State.sendEvt_dram (e : EvtEntry) : (s.sendEvt e).dram = s.dram := by unfold State.sendEvt; refine foldl_part (·.dram) _ ?_ s.evt.subs s; intros; rfl
@[simp] theorem State.sendEvt_pair (e : EvtEntry) : (s.sendEvt e).pair = s.pair := by unfold State.sendEvt; refine foldl_part (·.pair) _ ?_ s.evt.subs s; intros; rfl
@[simp] theorem State.sendEvt_power (e : EvtEntry) : (s.sendEvt e).power = s.power := by unfold State.sendEvt; refine foldl_part (·.power) _ ?_ s.evt.subs s; intros; rfl

@[simp] theorem State.pushEvt_pending (c : Nat) (d : List EvWord) : (s.pushEvt c d).pending = s.pending := by simp [State.pushEvt]
@[simp] theorem State.pushEvt_now (c : Nat) (d : List EvWord) : (s.pushEvt c d).now = s.now := by simp [State.pushEvt]
@[simp] theorem State.pushEvt_clk (c : Nat) (d : List EvWord) : (s.pushEvt c d).clk = s.clk := by simp [State.pushEvt]
@[simp] theorem State.pushEvt_freeCnt (c : Nat) (d : List EvWord) : (s.pushEvt c d).freeCnt = s.freeCnt := by simp [State.pushEvt]
@[simp] theorem State.pushEvt_latches (c : Nat) (d : List EvWord) : (s.pushEvt c d).latches = s.latches := by simp [State.pushEvt]
@[simp] theorem State.pushEvt_hkc (c : Nat) (d : List EvWord) : (s.pushEvt c d).hkc = s.hkc := by simp [State.pushEvt]
@[simp] theorem State.pushEvt_dmp (c : Nat) (d : List EvWord) : (s.pushEvt c d).dmp = s.dmp := by simp [State.pushEvt]
@[simp] theorem State.pushEvt_ops (c : Nat) (d : List EvWord) : (s.pushEvt c d).ops = s.ops := by simp [State.pushEvt]
@[simp] theorem State.pushEvt_net (c : Nat) (d : List EvWord) : (s.pushEvt c d).net = s.net := by simp [State.pushEvt]
@[simp] theorem State.pushEvt_job (c : Nat) (d : List EvWord) : (s.pushEvt c d).job = s.job := by simp [State.pushEvt]
@[simp] theorem State.pushEvt_codec (c : Nat) (d : List EvWord) : (s.pushEvt c d).codec = s.codec := by simp [State.pushEvt]
@[simp] theorem State.pushEvt_sieve (c : Nat) (d : List EvWord) : (s.pushEvt c d).sieve = s.sieve := by simp [State.pushEvt]
@[simp] theorem State.pushEvt_win (c : Nat) (d : List EvWord) : (s.pushEvt c d).win = s.win := by simp [State.pushEvt]
@[simp] theorem State.pushEvt_render (c : Nat) (d : List EvWord) : (s.pushEvt c d).render = s.render := by simp [State.pushEvt]
@[simp] theorem State.pushEvt_pec (c : Nat) (d : List EvWord) : (s.pushEvt c d).pec = s.pec := by simp [State.pushEvt]
@[simp] theorem State.pushEvt_shot (c : Nat) (d : List EvWord) : (s.pushEvt c d).shot = s.shot := by simp [State.pushEvt]
@[simp] theorem State.pushEvt_stage (c : Nat) (d : List EvWord) : (s.pushEvt c d).stage = s.stage := by simp [State.pushEvt]
@[simp] theorem State.pushEvt_trig (c : Nat) (d : List EvWord) : (s.pushEvt c d).trig = s.trig := by simp [State.pushEvt]
@[simp] theorem State.pushEvt_ptp (c : Nat) (d : List EvWord) : (s.pushEvt c d).ptp = s.ptp := by simp [State.pushEvt]
@[simp] theorem State.pushEvt_check (c : Nat) (d : List EvWord) : (s.pushEvt c d).check = s.check := by simp [State.pushEvt]
@[simp] theorem State.pushEvt_cal (c : Nat) (d : List EvWord) : (s.pushEvt c d).cal = s.cal := by simp [State.pushEvt]
@[simp] theorem State.pushEvt_lanes (c : Nat) (d : List EvWord) : (s.pushEvt c d).lanes = s.lanes := by simp [State.pushEvt]
@[simp] theorem State.pushEvt_tx (c : Nat) (d : List EvWord) : (s.pushEvt c d).tx = s.tx := by simp [State.pushEvt]
@[simp] theorem State.pushEvt_dram (c : Nat) (d : List EvWord) : (s.pushEvt c d).dram = s.dram := by simp [State.pushEvt]
@[simp] theorem State.pushEvt_pair (c : Nat) (d : List EvWord) : (s.pushEvt c d).pair = s.pair := by simp [State.pushEvt]
@[simp] theorem State.pushEvt_power (c : Nat) (d : List EvWord) : (s.pushEvt c d).power = s.power := by simp [State.pushEvt]

@[simp] theorem State.raise_pending (c : Nat) (d : List EvWord) : (s.raise c d).pending = s.pending := by unfold State.raise; split <;> (try dsimp only) <;> (try split) <;> simp
@[simp] theorem State.raise_now (c : Nat) (d : List EvWord) : (s.raise c d).now = s.now := by unfold State.raise; split <;> (try dsimp only) <;> (try split) <;> simp
@[simp] theorem State.raise_clk (c : Nat) (d : List EvWord) : (s.raise c d).clk = s.clk := by unfold State.raise; split <;> (try dsimp only) <;> (try split) <;> simp
@[simp] theorem State.raise_freeCnt (c : Nat) (d : List EvWord) : (s.raise c d).freeCnt = s.freeCnt := by unfold State.raise; split <;> (try dsimp only) <;> (try split) <;> simp
@[simp] theorem State.raise_latches (c : Nat) (d : List EvWord) : (s.raise c d).latches = s.latches := by unfold State.raise; split <;> (try dsimp only) <;> (try split) <;> simp
@[simp] theorem State.raise_hkc (c : Nat) (d : List EvWord) : (s.raise c d).hkc = s.hkc := by unfold State.raise; split <;> (try dsimp only) <;> (try split) <;> simp
@[simp] theorem State.raise_dmp (c : Nat) (d : List EvWord) : (s.raise c d).dmp = s.dmp := by unfold State.raise; split <;> (try dsimp only) <;> (try split) <;> simp
@[simp] theorem State.raise_ops (c : Nat) (d : List EvWord) : (s.raise c d).ops = s.ops := by unfold State.raise; split <;> (try dsimp only) <;> (try split) <;> simp
@[simp] theorem State.raise_net (c : Nat) (d : List EvWord) : (s.raise c d).net = s.net := by unfold State.raise; split <;> (try dsimp only) <;> (try split) <;> simp
@[simp] theorem State.raise_job (c : Nat) (d : List EvWord) : (s.raise c d).job = s.job := by unfold State.raise; split <;> (try dsimp only) <;> (try split) <;> simp
@[simp] theorem State.raise_codec (c : Nat) (d : List EvWord) : (s.raise c d).codec = s.codec := by unfold State.raise; split <;> (try dsimp only) <;> (try split) <;> simp
@[simp] theorem State.raise_sieve (c : Nat) (d : List EvWord) : (s.raise c d).sieve = s.sieve := by unfold State.raise; split <;> (try dsimp only) <;> (try split) <;> simp
@[simp] theorem State.raise_win (c : Nat) (d : List EvWord) : (s.raise c d).win = s.win := by unfold State.raise; split <;> (try dsimp only) <;> (try split) <;> simp
@[simp] theorem State.raise_render (c : Nat) (d : List EvWord) : (s.raise c d).render = s.render := by unfold State.raise; split <;> (try dsimp only) <;> (try split) <;> simp
@[simp] theorem State.raise_pec (c : Nat) (d : List EvWord) : (s.raise c d).pec = s.pec := by unfold State.raise; split <;> (try dsimp only) <;> (try split) <;> simp
@[simp] theorem State.raise_shot (c : Nat) (d : List EvWord) : (s.raise c d).shot = s.shot := by unfold State.raise; split <;> (try dsimp only) <;> (try split) <;> simp
@[simp] theorem State.raise_stage (c : Nat) (d : List EvWord) : (s.raise c d).stage = s.stage := by unfold State.raise; split <;> (try dsimp only) <;> (try split) <;> simp
@[simp] theorem State.raise_trig (c : Nat) (d : List EvWord) : (s.raise c d).trig = s.trig := by unfold State.raise; split <;> (try dsimp only) <;> (try split) <;> simp
@[simp] theorem State.raise_ptp (c : Nat) (d : List EvWord) : (s.raise c d).ptp = s.ptp := by unfold State.raise; split <;> (try dsimp only) <;> (try split) <;> simp
@[simp] theorem State.raise_check (c : Nat) (d : List EvWord) : (s.raise c d).check = s.check := by unfold State.raise; split <;> (try dsimp only) <;> (try split) <;> simp
@[simp] theorem State.raise_cal (c : Nat) (d : List EvWord) : (s.raise c d).cal = s.cal := by unfold State.raise; split <;> (try dsimp only) <;> (try split) <;> simp
@[simp] theorem State.raise_lanes (c : Nat) (d : List EvWord) : (s.raise c d).lanes = s.lanes := by unfold State.raise; split <;> (try dsimp only) <;> (try split) <;> simp
@[simp] theorem State.raise_tx (c : Nat) (d : List EvWord) : (s.raise c d).tx = s.tx := by unfold State.raise; split <;> (try dsimp only) <;> (try split) <;> simp
@[simp] theorem State.raise_dram (c : Nat) (d : List EvWord) : (s.raise c d).dram = s.dram := by unfold State.raise; split <;> (try dsimp only) <;> (try split) <;> simp
@[simp] theorem State.raise_pair (c : Nat) (d : List EvWord) : (s.raise c d).pair = s.pair := by unfold State.raise; split <;> (try dsimp only) <;> (try split) <;> simp
@[simp] theorem State.raise_power (c : Nat) (d : List EvWord) : (s.raise c d).power = s.power := by unfold State.raise; split <;> (try dsimp only) <;> (try split) <;> simp

@[simp] theorem State.tellLate_pending : (s.tellLate).pending = s.pending := by unfold State.tellLate; refine foldl_part (·.pending) _ ?_ s.hkc.late _; intros; simp
@[simp] theorem State.tellLate_now : (s.tellLate).now = s.now := by unfold State.tellLate; refine foldl_part (·.now) _ ?_ s.hkc.late _; intros; simp
@[simp] theorem State.tellLate_clk : (s.tellLate).clk = s.clk := by unfold State.tellLate; refine foldl_part (·.clk) _ ?_ s.hkc.late _; intros; simp
@[simp] theorem State.tellLate_freeCnt : (s.tellLate).freeCnt = s.freeCnt := by unfold State.tellLate; refine foldl_part (·.freeCnt) _ ?_ s.hkc.late _; intros; simp
@[simp] theorem State.tellLate_latches : (s.tellLate).latches = s.latches := by unfold State.tellLate; refine foldl_part (·.latches) _ ?_ s.hkc.late _; intros; simp
@[simp] theorem State.tellLate_dmp : (s.tellLate).dmp = s.dmp := by unfold State.tellLate; refine foldl_part (·.dmp) _ ?_ s.hkc.late _; intros; simp
@[simp] theorem State.tellLate_ops : (s.tellLate).ops = s.ops := by unfold State.tellLate; refine foldl_part (·.ops) _ ?_ s.hkc.late _; intros; simp
@[simp] theorem State.tellLate_net : (s.tellLate).net = s.net := by unfold State.tellLate; refine foldl_part (·.net) _ ?_ s.hkc.late _; intros; simp
@[simp] theorem State.tellLate_job : (s.tellLate).job = s.job := by unfold State.tellLate; refine foldl_part (·.job) _ ?_ s.hkc.late _; intros; simp
@[simp] theorem State.tellLate_codec : (s.tellLate).codec = s.codec := by unfold State.tellLate; refine foldl_part (·.codec) _ ?_ s.hkc.late _; intros; simp
@[simp] theorem State.tellLate_sieve : (s.tellLate).sieve = s.sieve := by unfold State.tellLate; refine foldl_part (·.sieve) _ ?_ s.hkc.late _; intros; simp
@[simp] theorem State.tellLate_win : (s.tellLate).win = s.win := by unfold State.tellLate; refine foldl_part (·.win) _ ?_ s.hkc.late _; intros; simp
@[simp] theorem State.tellLate_render : (s.tellLate).render = s.render := by unfold State.tellLate; refine foldl_part (·.render) _ ?_ s.hkc.late _; intros; simp
@[simp] theorem State.tellLate_pec : (s.tellLate).pec = s.pec := by unfold State.tellLate; refine foldl_part (·.pec) _ ?_ s.hkc.late _; intros; simp
@[simp] theorem State.tellLate_shot : (s.tellLate).shot = s.shot := by unfold State.tellLate; refine foldl_part (·.shot) _ ?_ s.hkc.late _; intros; simp
@[simp] theorem State.tellLate_stage : (s.tellLate).stage = s.stage := by unfold State.tellLate; refine foldl_part (·.stage) _ ?_ s.hkc.late _; intros; simp
@[simp] theorem State.tellLate_trig : (s.tellLate).trig = s.trig := by unfold State.tellLate; refine foldl_part (·.trig) _ ?_ s.hkc.late _; intros; simp
@[simp] theorem State.tellLate_ptp : (s.tellLate).ptp = s.ptp := by unfold State.tellLate; refine foldl_part (·.ptp) _ ?_ s.hkc.late _; intros; simp
@[simp] theorem State.tellLate_check : (s.tellLate).check = s.check := by unfold State.tellLate; refine foldl_part (·.check) _ ?_ s.hkc.late _; intros; simp
@[simp] theorem State.tellLate_cal : (s.tellLate).cal = s.cal := by unfold State.tellLate; refine foldl_part (·.cal) _ ?_ s.hkc.late _; intros; simp
@[simp] theorem State.tellLate_lanes : (s.tellLate).lanes = s.lanes := by unfold State.tellLate; refine foldl_part (·.lanes) _ ?_ s.hkc.late _; intros; simp
@[simp] theorem State.tellLate_tx : (s.tellLate).tx = s.tx := by unfold State.tellLate; refine foldl_part (·.tx) _ ?_ s.hkc.late _; intros; simp
@[simp] theorem State.tellLate_dram : (s.tellLate).dram = s.dram := by unfold State.tellLate; refine foldl_part (·.dram) _ ?_ s.hkc.late _; intros; simp
@[simp] theorem State.tellLate_pair : (s.tellLate).pair = s.pair := by unfold State.tellLate; refine foldl_part (·.pair) _ ?_ s.hkc.late _; intros; simp
@[simp] theorem State.tellLate_power : (s.tellLate).power = s.power := by unfold State.tellLate; refine foldl_part (·.power) _ ?_ s.hkc.late _; intros; simp

@[simp] theorem State.tell_pending (h : Bool) (c : Nat) (d : List EvWord) : (s.tell h c d).pending = s.pending := by unfold State.tell; split <;> simp
@[simp] theorem State.tell_now (h : Bool) (c : Nat) (d : List EvWord) : (s.tell h c d).now = s.now := by unfold State.tell; split <;> simp
@[simp] theorem State.tell_clk (h : Bool) (c : Nat) (d : List EvWord) : (s.tell h c d).clk = s.clk := by unfold State.tell; split <;> simp
@[simp] theorem State.tell_freeCnt (h : Bool) (c : Nat) (d : List EvWord) : (s.tell h c d).freeCnt = s.freeCnt := by unfold State.tell; split <;> simp
@[simp] theorem State.tell_latches (h : Bool) (c : Nat) (d : List EvWord) : (s.tell h c d).latches = s.latches := by unfold State.tell; split <;> simp
@[simp] theorem State.tell_dmp (h : Bool) (c : Nat) (d : List EvWord) : (s.tell h c d).dmp = s.dmp := by unfold State.tell; split <;> simp
@[simp] theorem State.tell_ops (h : Bool) (c : Nat) (d : List EvWord) : (s.tell h c d).ops = s.ops := by unfold State.tell; split <;> simp
@[simp] theorem State.tell_net (h : Bool) (c : Nat) (d : List EvWord) : (s.tell h c d).net = s.net := by unfold State.tell; split <;> simp
@[simp] theorem State.tell_job (h : Bool) (c : Nat) (d : List EvWord) : (s.tell h c d).job = s.job := by unfold State.tell; split <;> simp
@[simp] theorem State.tell_codec (h : Bool) (c : Nat) (d : List EvWord) : (s.tell h c d).codec = s.codec := by unfold State.tell; split <;> simp
@[simp] theorem State.tell_sieve (h : Bool) (c : Nat) (d : List EvWord) : (s.tell h c d).sieve = s.sieve := by unfold State.tell; split <;> simp
@[simp] theorem State.tell_win (h : Bool) (c : Nat) (d : List EvWord) : (s.tell h c d).win = s.win := by unfold State.tell; split <;> simp
@[simp] theorem State.tell_render (h : Bool) (c : Nat) (d : List EvWord) : (s.tell h c d).render = s.render := by unfold State.tell; split <;> simp
@[simp] theorem State.tell_pec (h : Bool) (c : Nat) (d : List EvWord) : (s.tell h c d).pec = s.pec := by unfold State.tell; split <;> simp
@[simp] theorem State.tell_shot (h : Bool) (c : Nat) (d : List EvWord) : (s.tell h c d).shot = s.shot := by unfold State.tell; split <;> simp
@[simp] theorem State.tell_stage (h : Bool) (c : Nat) (d : List EvWord) : (s.tell h c d).stage = s.stage := by unfold State.tell; split <;> simp
@[simp] theorem State.tell_trig (h : Bool) (c : Nat) (d : List EvWord) : (s.tell h c d).trig = s.trig := by unfold State.tell; split <;> simp
@[simp] theorem State.tell_ptp (h : Bool) (c : Nat) (d : List EvWord) : (s.tell h c d).ptp = s.ptp := by unfold State.tell; split <;> simp
@[simp] theorem State.tell_check (h : Bool) (c : Nat) (d : List EvWord) : (s.tell h c d).check = s.check := by unfold State.tell; split <;> simp
@[simp] theorem State.tell_cal (h : Bool) (c : Nat) (d : List EvWord) : (s.tell h c d).cal = s.cal := by unfold State.tell; split <;> simp
@[simp] theorem State.tell_lanes (h : Bool) (c : Nat) (d : List EvWord) : (s.tell h c d).lanes = s.lanes := by unfold State.tell; split <;> simp
@[simp] theorem State.tell_tx (h : Bool) (c : Nat) (d : List EvWord) : (s.tell h c d).tx = s.tx := by unfold State.tell; split <;> simp
@[simp] theorem State.tell_dram (h : Bool) (c : Nat) (d : List EvWord) : (s.tell h c d).dram = s.dram := by unfold State.tell; split <;> simp
@[simp] theorem State.tell_pair (h : Bool) (c : Nat) (d : List EvWord) : (s.tell h c d).pair = s.pair := by unfold State.tell; split <;> simp
@[simp] theorem State.tell_power (h : Bool) (c : Nat) (d : List EvWord) : (s.tell h c d).power = s.power := by unfold State.tell; split <;> simp

@[simp] theorem State.setJob_pending (h : Bool) (n : Nat) : (s.setJob h n).pending = s.pending := by unfold State.setJob; split <;> (try dsimp only) <;> (try split) <;> simp
@[simp] theorem State.setJob_now (h : Bool) (n : Nat) : (s.setJob h n).now = s.now := by unfold State.setJob; split <;> (try dsimp only) <;> (try split) <;> simp
@[simp] theorem State.setJob_clk (h : Bool) (n : Nat) : (s.setJob h n).clk = s.clk := by unfold State.setJob; split <;> (try dsimp only) <;> (try split) <;> simp
@[simp] theorem State.setJob_freeCnt (h : Bool) (n : Nat) : (s.setJob h n).freeCnt = s.freeCnt := by unfold State.setJob; split <;> (try dsimp only) <;> (try split) <;> simp
@[simp] theorem State.setJob_latches (h : Bool) (n : Nat) : (s.setJob h n).latches = s.latches := by unfold State.setJob; split <;> (try dsimp only) <;> (try split) <;> simp
@[simp] theorem State.setJob_dmp (h : Bool) (n : Nat) : (s.setJob h n).dmp = s.dmp := by unfold State.setJob; split <;> (try dsimp only) <;> (try split) <;> simp
@[simp] theorem State.setJob_ops (h : Bool) (n : Nat) : (s.setJob h n).ops = s.ops := by unfold State.setJob; split <;> (try dsimp only) <;> (try split) <;> simp
@[simp] theorem State.setJob_net (h : Bool) (n : Nat) : (s.setJob h n).net = s.net := by unfold State.setJob; split <;> (try dsimp only) <;> (try split) <;> simp
@[simp] theorem State.setJob_job (h : Bool) (n : Nat) : (s.setJob h n).job = s.job := by unfold State.setJob; split <;> (try dsimp only) <;> (try split) <;> simp
@[simp] theorem State.setJob_codec (h : Bool) (n : Nat) : (s.setJob h n).codec = s.codec := by unfold State.setJob; split <;> (try dsimp only) <;> (try split) <;> simp
@[simp] theorem State.setJob_sieve (h : Bool) (n : Nat) : (s.setJob h n).sieve = s.sieve := by unfold State.setJob; split <;> (try dsimp only) <;> (try split) <;> simp
@[simp] theorem State.setJob_win (h : Bool) (n : Nat) : (s.setJob h n).win = s.win := by unfold State.setJob; split <;> (try dsimp only) <;> (try split) <;> simp
@[simp] theorem State.setJob_render (h : Bool) (n : Nat) : (s.setJob h n).render = s.render := by unfold State.setJob; split <;> (try dsimp only) <;> (try split) <;> simp
@[simp] theorem State.setJob_pec (h : Bool) (n : Nat) : (s.setJob h n).pec = s.pec := by unfold State.setJob; split <;> (try dsimp only) <;> (try split) <;> simp
@[simp] theorem State.setJob_shot (h : Bool) (n : Nat) : (s.setJob h n).shot = s.shot := by unfold State.setJob; split <;> (try dsimp only) <;> (try split) <;> simp
@[simp] theorem State.setJob_stage (h : Bool) (n : Nat) : (s.setJob h n).stage = s.stage := by unfold State.setJob; split <;> (try dsimp only) <;> (try split) <;> simp
@[simp] theorem State.setJob_trig (h : Bool) (n : Nat) : (s.setJob h n).trig = s.trig := by unfold State.setJob; split <;> (try dsimp only) <;> (try split) <;> simp
@[simp] theorem State.setJob_ptp (h : Bool) (n : Nat) : (s.setJob h n).ptp = s.ptp := by unfold State.setJob; split <;> (try dsimp only) <;> (try split) <;> simp
@[simp] theorem State.setJob_check (h : Bool) (n : Nat) : (s.setJob h n).check = s.check := by unfold State.setJob; split <;> (try dsimp only) <;> (try split) <;> simp
@[simp] theorem State.setJob_cal (h : Bool) (n : Nat) : (s.setJob h n).cal = s.cal := by unfold State.setJob; split <;> (try dsimp only) <;> (try split) <;> simp
@[simp] theorem State.setJob_lanes (h : Bool) (n : Nat) : (s.setJob h n).lanes = s.lanes := by unfold State.setJob; split <;> (try dsimp only) <;> (try split) <;> simp
@[simp] theorem State.setJob_tx (h : Bool) (n : Nat) : (s.setJob h n).tx = s.tx := by unfold State.setJob; split <;> (try dsimp only) <;> (try split) <;> simp
@[simp] theorem State.setJob_dram (h : Bool) (n : Nat) : (s.setJob h n).dram = s.dram := by unfold State.setJob; split <;> (try dsimp only) <;> (try split) <;> simp
@[simp] theorem State.setJob_pair (h : Bool) (n : Nat) : (s.setJob h n).pair = s.pair := by unfold State.setJob; split <;> (try dsimp only) <;> (try split) <;> simp
@[simp] theorem State.setJob_power (h : Bool) (n : Nat) : (s.setJob h n).power = s.power := by unfold State.setJob; split <;> (try dsimp only) <;> (try split) <;> simp

@[simp] theorem State.setOp_pending (h : Bool) (k : Nat) (f : LongOp → LongOp) : (s.setOp h k f).pending = s.pending := by unfold State.setOp; split <;> (try dsimp only) <;> (try split) <;> (try split) <;> simp
@[simp] theorem State.setOp_now (h : Bool) (k : Nat) (f : LongOp → LongOp) : (s.setOp h k f).now = s.now := by unfold State.setOp; split <;> (try dsimp only) <;> (try split) <;> (try split) <;> simp
@[simp] theorem State.setOp_clk (h : Bool) (k : Nat) (f : LongOp → LongOp) : (s.setOp h k f).clk = s.clk := by unfold State.setOp; split <;> (try dsimp only) <;> (try split) <;> (try split) <;> simp
@[simp] theorem State.setOp_freeCnt (h : Bool) (k : Nat) (f : LongOp → LongOp) : (s.setOp h k f).freeCnt = s.freeCnt := by unfold State.setOp; split <;> (try dsimp only) <;> (try split) <;> (try split) <;> simp
@[simp] theorem State.setOp_latches (h : Bool) (k : Nat) (f : LongOp → LongOp) : (s.setOp h k f).latches = s.latches := by unfold State.setOp; split <;> (try dsimp only) <;> (try split) <;> (try split) <;> simp
@[simp] theorem State.setOp_dmp (h : Bool) (k : Nat) (f : LongOp → LongOp) : (s.setOp h k f).dmp = s.dmp := by unfold State.setOp; split <;> (try dsimp only) <;> (try split) <;> (try split) <;> simp
@[simp] theorem State.setOp_net (h : Bool) (k : Nat) (f : LongOp → LongOp) : (s.setOp h k f).net = s.net := by unfold State.setOp; split <;> (try dsimp only) <;> (try split) <;> (try split) <;> simp
@[simp] theorem State.setOp_job (h : Bool) (k : Nat) (f : LongOp → LongOp) : (s.setOp h k f).job = s.job := by unfold State.setOp; split <;> (try dsimp only) <;> (try split) <;> (try split) <;> simp
@[simp] theorem State.setOp_codec (h : Bool) (k : Nat) (f : LongOp → LongOp) : (s.setOp h k f).codec = s.codec := by unfold State.setOp; split <;> (try dsimp only) <;> (try split) <;> (try split) <;> simp
@[simp] theorem State.setOp_sieve (h : Bool) (k : Nat) (f : LongOp → LongOp) : (s.setOp h k f).sieve = s.sieve := by unfold State.setOp; split <;> (try dsimp only) <;> (try split) <;> (try split) <;> simp
@[simp] theorem State.setOp_win (h : Bool) (k : Nat) (f : LongOp → LongOp) : (s.setOp h k f).win = s.win := by unfold State.setOp; split <;> (try dsimp only) <;> (try split) <;> (try split) <;> simp
@[simp] theorem State.setOp_render (h : Bool) (k : Nat) (f : LongOp → LongOp) : (s.setOp h k f).render = s.render := by unfold State.setOp; split <;> (try dsimp only) <;> (try split) <;> (try split) <;> simp
@[simp] theorem State.setOp_pec (h : Bool) (k : Nat) (f : LongOp → LongOp) : (s.setOp h k f).pec = s.pec := by unfold State.setOp; split <;> (try dsimp only) <;> (try split) <;> (try split) <;> simp
@[simp] theorem State.setOp_shot (h : Bool) (k : Nat) (f : LongOp → LongOp) : (s.setOp h k f).shot = s.shot := by unfold State.setOp; split <;> (try dsimp only) <;> (try split) <;> (try split) <;> simp
@[simp] theorem State.setOp_stage (h : Bool) (k : Nat) (f : LongOp → LongOp) : (s.setOp h k f).stage = s.stage := by unfold State.setOp; split <;> (try dsimp only) <;> (try split) <;> (try split) <;> simp
@[simp] theorem State.setOp_trig (h : Bool) (k : Nat) (f : LongOp → LongOp) : (s.setOp h k f).trig = s.trig := by unfold State.setOp; split <;> (try dsimp only) <;> (try split) <;> (try split) <;> simp
@[simp] theorem State.setOp_ptp (h : Bool) (k : Nat) (f : LongOp → LongOp) : (s.setOp h k f).ptp = s.ptp := by unfold State.setOp; split <;> (try dsimp only) <;> (try split) <;> (try split) <;> simp
@[simp] theorem State.setOp_check (h : Bool) (k : Nat) (f : LongOp → LongOp) : (s.setOp h k f).check = s.check := by unfold State.setOp; split <;> (try dsimp only) <;> (try split) <;> (try split) <;> simp
@[simp] theorem State.setOp_cal (h : Bool) (k : Nat) (f : LongOp → LongOp) : (s.setOp h k f).cal = s.cal := by unfold State.setOp; split <;> (try dsimp only) <;> (try split) <;> (try split) <;> simp
@[simp] theorem State.setOp_lanes (h : Bool) (k : Nat) (f : LongOp → LongOp) : (s.setOp h k f).lanes = s.lanes := by unfold State.setOp; split <;> (try dsimp only) <;> (try split) <;> (try split) <;> simp
@[simp] theorem State.setOp_tx (h : Bool) (k : Nat) (f : LongOp → LongOp) : (s.setOp h k f).tx = s.tx := by unfold State.setOp; split <;> (try dsimp only) <;> (try split) <;> (try split) <;> simp
@[simp] theorem State.setOp_dram (h : Bool) (k : Nat) (f : LongOp → LongOp) : (s.setOp h k f).dram = s.dram := by unfold State.setOp; split <;> (try dsimp only) <;> (try split) <;> (try split) <;> simp
@[simp] theorem State.setOp_pair (h : Bool) (k : Nat) (f : LongOp → LongOp) : (s.setOp h k f).pair = s.pair := by unfold State.setOp; split <;> (try dsimp only) <;> (try split) <;> (try split) <;> simp
@[simp] theorem State.setOp_power (h : Bool) (k : Nat) (f : LongOp → LongOp) : (s.setOp h k f).power = s.power := by unfold State.setOp; split <;> (try dsimp only) <;> (try split) <;> (try split) <;> simp

@[simp] theorem State.endOp_pending (h : Bool) (k : Nat) (st : OpSt) (r : Nat) : (s.endOp h k st r).pending = s.pending := by unfold State.endOp; split <;> simp
@[simp] theorem State.endOp_now (h : Bool) (k : Nat) (st : OpSt) (r : Nat) : (s.endOp h k st r).now = s.now := by unfold State.endOp; split <;> simp
@[simp] theorem State.endOp_clk (h : Bool) (k : Nat) (st : OpSt) (r : Nat) : (s.endOp h k st r).clk = s.clk := by unfold State.endOp; split <;> simp
@[simp] theorem State.endOp_freeCnt (h : Bool) (k : Nat) (st : OpSt) (r : Nat) : (s.endOp h k st r).freeCnt = s.freeCnt := by unfold State.endOp; split <;> simp
@[simp] theorem State.endOp_latches (h : Bool) (k : Nat) (st : OpSt) (r : Nat) : (s.endOp h k st r).latches = s.latches := by unfold State.endOp; split <;> simp
@[simp] theorem State.endOp_dmp (h : Bool) (k : Nat) (st : OpSt) (r : Nat) : (s.endOp h k st r).dmp = s.dmp := by unfold State.endOp; split <;> simp
@[simp] theorem State.endOp_net (h : Bool) (k : Nat) (st : OpSt) (r : Nat) : (s.endOp h k st r).net = s.net := by unfold State.endOp; split <;> simp
@[simp] theorem State.endOp_job (h : Bool) (k : Nat) (st : OpSt) (r : Nat) : (s.endOp h k st r).job = s.job := by unfold State.endOp; split <;> simp
@[simp] theorem State.endOp_codec (h : Bool) (k : Nat) (st : OpSt) (r : Nat) : (s.endOp h k st r).codec = s.codec := by unfold State.endOp; split <;> simp
@[simp] theorem State.endOp_sieve (h : Bool) (k : Nat) (st : OpSt) (r : Nat) : (s.endOp h k st r).sieve = s.sieve := by unfold State.endOp; split <;> simp
@[simp] theorem State.endOp_win (h : Bool) (k : Nat) (st : OpSt) (r : Nat) : (s.endOp h k st r).win = s.win := by unfold State.endOp; split <;> simp
@[simp] theorem State.endOp_render (h : Bool) (k : Nat) (st : OpSt) (r : Nat) : (s.endOp h k st r).render = s.render := by unfold State.endOp; split <;> simp
@[simp] theorem State.endOp_pec (h : Bool) (k : Nat) (st : OpSt) (r : Nat) : (s.endOp h k st r).pec = s.pec := by unfold State.endOp; split <;> simp
@[simp] theorem State.endOp_shot (h : Bool) (k : Nat) (st : OpSt) (r : Nat) : (s.endOp h k st r).shot = s.shot := by unfold State.endOp; split <;> simp
@[simp] theorem State.endOp_stage (h : Bool) (k : Nat) (st : OpSt) (r : Nat) : (s.endOp h k st r).stage = s.stage := by unfold State.endOp; split <;> simp
@[simp] theorem State.endOp_trig (h : Bool) (k : Nat) (st : OpSt) (r : Nat) : (s.endOp h k st r).trig = s.trig := by unfold State.endOp; split <;> simp
@[simp] theorem State.endOp_ptp (h : Bool) (k : Nat) (st : OpSt) (r : Nat) : (s.endOp h k st r).ptp = s.ptp := by unfold State.endOp; split <;> simp
@[simp] theorem State.endOp_check (h : Bool) (k : Nat) (st : OpSt) (r : Nat) : (s.endOp h k st r).check = s.check := by unfold State.endOp; split <;> simp
@[simp] theorem State.endOp_cal (h : Bool) (k : Nat) (st : OpSt) (r : Nat) : (s.endOp h k st r).cal = s.cal := by unfold State.endOp; split <;> simp
@[simp] theorem State.endOp_lanes (h : Bool) (k : Nat) (st : OpSt) (r : Nat) : (s.endOp h k st r).lanes = s.lanes := by unfold State.endOp; split <;> simp
@[simp] theorem State.endOp_tx (h : Bool) (k : Nat) (st : OpSt) (r : Nat) : (s.endOp h k st r).tx = s.tx := by unfold State.endOp; split <;> simp
@[simp] theorem State.endOp_dram (h : Bool) (k : Nat) (st : OpSt) (r : Nat) : (s.endOp h k st r).dram = s.dram := by unfold State.endOp; split <;> simp
@[simp] theorem State.endOp_pair (h : Bool) (k : Nat) (st : OpSt) (r : Nat) : (s.endOp h k st r).pair = s.pair := by unfold State.endOp; split <;> simp
@[simp] theorem State.endOp_power (h : Bool) (k : Nat) (st : OpSt) (r : Nat) : (s.endOp h k st r).power = s.power := by unfold State.endOp; split <;> simp

@[simp] theorem State.raiseFor_pending (q c : Nat) (d : List EvWord) : (s.raiseFor q c d).pending = s.pending := by unfold State.raiseFor; split <;> (try split) <;> simp
@[simp] theorem State.raiseFor_now (q c : Nat) (d : List EvWord) : (s.raiseFor q c d).now = s.now := by unfold State.raiseFor; split <;> (try split) <;> simp
@[simp] theorem State.raiseFor_clk (q c : Nat) (d : List EvWord) : (s.raiseFor q c d).clk = s.clk := by unfold State.raiseFor; split <;> (try split) <;> simp
@[simp] theorem State.raiseFor_freeCnt (q c : Nat) (d : List EvWord) : (s.raiseFor q c d).freeCnt = s.freeCnt := by unfold State.raiseFor; split <;> (try split) <;> simp
@[simp] theorem State.raiseFor_latches (q c : Nat) (d : List EvWord) : (s.raiseFor q c d).latches = s.latches := by unfold State.raiseFor; split <;> (try split) <;> simp
@[simp] theorem State.raiseFor_hkc (q c : Nat) (d : List EvWord) : (s.raiseFor q c d).hkc = s.hkc := by unfold State.raiseFor; split <;> (try split) <;> simp
@[simp] theorem State.raiseFor_dmp (q c : Nat) (d : List EvWord) : (s.raiseFor q c d).dmp = s.dmp := by unfold State.raiseFor; split <;> (try split) <;> simp
@[simp] theorem State.raiseFor_ops (q c : Nat) (d : List EvWord) : (s.raiseFor q c d).ops = s.ops := by unfold State.raiseFor; split <;> (try split) <;> simp
@[simp] theorem State.raiseFor_net (q c : Nat) (d : List EvWord) : (s.raiseFor q c d).net = s.net := by unfold State.raiseFor; split <;> (try split) <;> simp
@[simp] theorem State.raiseFor_job (q c : Nat) (d : List EvWord) : (s.raiseFor q c d).job = s.job := by unfold State.raiseFor; split <;> (try split) <;> simp
@[simp] theorem State.raiseFor_codec (q c : Nat) (d : List EvWord) : (s.raiseFor q c d).codec = s.codec := by unfold State.raiseFor; split <;> (try split) <;> simp
@[simp] theorem State.raiseFor_win (q c : Nat) (d : List EvWord) : (s.raiseFor q c d).win = s.win := by unfold State.raiseFor; split <;> (try split) <;> simp
@[simp] theorem State.raiseFor_render (q c : Nat) (d : List EvWord) : (s.raiseFor q c d).render = s.render := by unfold State.raiseFor; split <;> (try split) <;> simp
@[simp] theorem State.raiseFor_pec (q c : Nat) (d : List EvWord) : (s.raiseFor q c d).pec = s.pec := by unfold State.raiseFor; split <;> (try split) <;> simp
@[simp] theorem State.raiseFor_shot (q c : Nat) (d : List EvWord) : (s.raiseFor q c d).shot = s.shot := by unfold State.raiseFor; split <;> (try split) <;> simp
@[simp] theorem State.raiseFor_stage (q c : Nat) (d : List EvWord) : (s.raiseFor q c d).stage = s.stage := by unfold State.raiseFor; split <;> (try split) <;> simp
@[simp] theorem State.raiseFor_trig (q c : Nat) (d : List EvWord) : (s.raiseFor q c d).trig = s.trig := by unfold State.raiseFor; split <;> (try split) <;> simp
@[simp] theorem State.raiseFor_ptp (q c : Nat) (d : List EvWord) : (s.raiseFor q c d).ptp = s.ptp := by unfold State.raiseFor; split <;> (try split) <;> simp
@[simp] theorem State.raiseFor_check (q c : Nat) (d : List EvWord) : (s.raiseFor q c d).check = s.check := by unfold State.raiseFor; split <;> (try split) <;> simp
@[simp] theorem State.raiseFor_cal (q c : Nat) (d : List EvWord) : (s.raiseFor q c d).cal = s.cal := by unfold State.raiseFor; split <;> (try split) <;> simp
@[simp] theorem State.raiseFor_lanes (q c : Nat) (d : List EvWord) : (s.raiseFor q c d).lanes = s.lanes := by unfold State.raiseFor; split <;> (try split) <;> simp
@[simp] theorem State.raiseFor_tx (q c : Nat) (d : List EvWord) : (s.raiseFor q c d).tx = s.tx := by unfold State.raiseFor; split <;> (try split) <;> simp
@[simp] theorem State.raiseFor_dram (q c : Nat) (d : List EvWord) : (s.raiseFor q c d).dram = s.dram := by unfold State.raiseFor; split <;> (try split) <;> simp
@[simp] theorem State.raiseFor_pair (q c : Nat) (d : List EvWord) : (s.raiseFor q c d).pair = s.pair := by unfold State.raiseFor; split <;> (try split) <;> simp
@[simp] theorem State.raiseFor_power (q c : Nat) (d : List EvWord) : (s.raiseFor q c d).power = s.power := by unfold State.raiseFor; split <;> (try split) <;> simp

end

/-! ### Registers that only the listed fields of change -/

theorem RegsBut.refl (l : List Fld) (s : State) : RegsBut l s s := fun _ _ => rfl

theorem RegsBut.of_regs {l : List Fld} {s t : State} (h : t.regs = s.regs) : RegsBut l s t := fun f _ => State.rd_congr h f

theorem RegsBut.trans {l : List Fld} {s t u : State} (a : RegsBut l s t) (b : RegsBut l t u) : RegsBut l s u :=
  fun f h => (b f h).trans (a f h)

theorem RegsBut.mono {l m : List Fld} {s t : State} (h : RegsBut l s t) (sub : ∀ f ∈ l, f ∈ m) : RegsBut m s t := by
  intro f hf
  refine h f (fun hin => hf ?_)
  obtain ⟨g, hg, e⟩ := List.mem_map.1 hin
  exact List.mem_map.2 ⟨g, sub g hg, e⟩

theorem RegsBut.wr (l : List Fld) (s : State) (f : Fld) (v : Nat) (h : f ∈ l) : RegsBut l s (s.wr f v) := by
  intro g hg
  exact s.rd_wr_ne v (fun e => hg (List.mem_map.2 ⟨f, h, e.symm⟩))

theorem RegsBut.wrs (l : List Fld) (s : State) (ws : List (Fld × Nat)) (h : ∀ e ∈ ws, e.1 ∈ l) : RegsBut l s (s.wrs ws) := by
  unfold State.wrs
  induction ws generalizing s with
  | nil => exact RegsBut.refl l s
  | cons e ws ih =>
    exact RegsBut.trans (RegsBut.wr l s e.1 e.2 (h e (by simp))) (ih (s.wr e.1 e.2) (fun x hx => h x (by simp [hx])))

/-- The counter of frames sent, whatever the port, is one of three. -/
theorem frames_mem (p : Nat) : Reg.PORT_TX_FRAMES.frames p ∈ eventRegs := by
  have h : portBase p = portBase 0 ∨ portBase p = portBase 1 ∨ portBase p = portBase 2 := by
    unfold portBase; by_cases a : p = 0 <;> by_cases b : p = 1 <;> simp [a, b]
  unfold eventRegs Reg.PORT_TX_FRAMES.frames
  rcases h with h | h | h <;> simp [h]

theorem RegsBut.sendUdp (s : State) (p : Nat) (d : Src) (b : Bytes) : RegsBut eventRegs s (s.sendUdp p d b) :=
  RegsBut.wr eventRegs s _ _ (frames_mem d.iface)

theorem RegsBut.sendEvt (s : State) (e : EvtEntry) : RegsBut eventRegs s (s.sendEvt e) :=
  foldl_rel (RegsBut eventRegs) (RegsBut.refl eventRegs) (fun _ _ _ a b => RegsBut.trans a b) _
    (fun s _ => RegsBut.sendUdp s _ _ _) s.evt.subs s

theorem RegsBut.pushEvt (s : State) (c : Nat) (d : List EvWord) : RegsBut eventRegs s (s.pushEvt c d) :=
  RegsBut.trans (RegsBut.trans (RegsBut.sendEvt s _) (RegsBut.of_regs rfl)) (RegsBut.wr eventRegs _ _ _ (by simp [eventRegs]))

/-- Raising an event changes no register field but those of the event ring and the counters of frames sent. -/
theorem RegsBut.raise (s : State) (c : Nat) (d : List EvWord) : RegsBut eventRegs s (s.raise c d) := by
  have inc : ∀ t : State, RegsBut eventRegs t (t.inc Reg.EVT_DROPPED.dropped) :=
    fun t => RegsBut.wr eventRegs t _ _ (by simp [eventRegs])
  unfold State.raise
  split
  · exact RegsBut.pushEvt s c d
  · have h := RegsBut.trans
      (RegsBut.trans (RegsBut.wr eventRegs s Reg.EVT_PENDING.overflow 1 (by simp [eventRegs])) (inc _)) (RegsBut.pushEvt _ c d)
    dsimp only
    split
    · exact RegsBut.trans (RegsBut.trans h (inc _)) (RegsBut.pushEvt _ _ _)
    · exact h

/-! ### Events entered -/

theorem Raises.nil {s t : State} (h : t.evt.ring = s.evt.ring) (b : s.evt.ring.length ≤ 4096) : Raises [] s t :=
  ⟨[], by rw [h]; simp [List.take_of_length_le b], rfl⟩

theorem take_append_take {α : Type} (a b : List α) {m n : Nat} (h : m ≤ n) : (a ++ b.take n).take m = (a ++ b).take m := by
  rw [List.take_append, List.take_append, List.take_take, Nat.min_eq_left (by omega)]

theorem Raises.trans {l m : List (Nat × List EvWord)} {s t u : State} (a : Raises l s t) (b : Raises m t u) :
    Raises (l ++ m) s u := by
  obtain ⟨n1, e1, h1⟩ := a
  obtain ⟨n2, e2, h2⟩ := b
  refine ⟨n2 ++ n1, ?_, ?_⟩
  · rw [e2, e1, List.append_assoc, take_append_take _ _ (Nat.le_refl _)]
  · simp [← h1, ← h2]

/-- A change that leaves the ring alone, before an event. -/
theorem Raises.of_ring_left {l : List (Nat × List EvWord)} {s t u : State} (h : t.evt.ring = s.evt.ring) (a : Raises l t u) :
    Raises l s u := by
  obtain ⟨n, e, k⟩ := a
  exact ⟨n, by rw [e, h], k⟩

/-- A change that leaves the ring alone, after an event. -/
theorem Raises.of_ring_right {l : List (Nat × List EvWord)} {s t u : State} (h : u.evt.ring = t.evt.ring) (a : Raises l s t) :
    Raises l s u := by
  obtain ⟨n, e, k⟩ := a
  exact ⟨n, by rw [h, e], k⟩

/-- One entry pushed is exactly one event. -/
theorem Raises.pushEvt (s : State) (c : Nat) (d : List EvWord) (h : c ≠ 0x0A09) : Raises [(c, d)] s (s.pushEvt c d) := by
  refine ⟨[_], rfl, ?_⟩
  simp [h]

/-- The report of a lost entry is not counted. -/
theorem Raises.lost (s : State) (d : List EvWord) : Raises [] s (s.pushEvt 0x0A09 d) := ⟨[_], rfl, rfl⟩

/-- Raising an event enters exactly it, in every state. -/
theorem Raises.raise (s : State) (c : Nat) (d : List EvWord) (h : c ≠ 0x0A09) : Raises [(c, d)] s (s.raise c d) := by
  unfold State.raise
  split
  · exact Raises.pushEvt s c d h
  · dsimp only
    have a := Raises.of_ring_left (s := s) (by simp)
      (Raises.pushEvt ((s.wr Reg.EVT_PENDING.overflow 1).inc Reg.EVT_DROPPED.dropped) c d h)
    split
    · rw [← List.append_nil [(c, d)]]
      exact Raises.trans a (Raises.of_ring_left (congrArg EvtState.ring (State.inc_evt _ Reg.EVT_DROPPED.dropped))
        (Raises.lost _ _))
    · exact a

end Sys2Proof.Machine
end

