-- ==== Sys2Proof/Laws/Frames.lean ====
section
/-! SUPPORT. What the operations that many commands share can touch: one frame for each operation, over the parts of the state.
Frames compose (Frame.trans), weaken (Frame.mono) and run through folds (Frame.foldl). -/

namespace Sys2Proof

open Sys2Proof.Machine

/-! ### The algebra of frames -/

theorem Frame.refl (l : List Part) (s : State) : Frame l s s := by intro p _; cases p <;> rfl

theorem Frame.trans {l : List Part} {s t u : State} (h : Frame l s t) (h' : Frame l t u) : Frame l s u := by
  intro p hp
  have a := h p hp
  have b := h' p hp
  cases p <;> exact Eq.trans b a

theorem Frame.mono {l m : List Part} {s t : State} (h : Frame l s t) (hs : ∀ p ∈ l, p ∈ m) : Frame m s t :=
  fun p hp => h p (fun hl => hp (hs p hl))

/-- A frame that every step of a fold keeps is kept by the fold. -/
theorem Frame.foldl {α : Type} {l : List Part} (f : State → α → State) (h : ∀ s a, Frame l s (f s a)) (as : List α) (s : State) :
    Frame l s (as.foldl f s) :=
  foldl_rel (Frame l) (Frame.refl l) (fun _ _ _ => Frame.trans) f h as s

/-- A choice between two states with the same frame has that frame. -/
theorem Frame.ite {l : List Part} {s t u : State} {c : Prop} [Decidable c] (h : Frame l s t) (h' : Frame l s u) :
    Frame l s (if c then t else u) := by split <;> assumption

namespace Machine

variable (s : State)

/-! ### Registers, output and events -/

/-- R416: a register field is written. -/
theorem State.wr_frame (f : Fld) (v : Nat) : Frame [.regs] s (s.wr f v) := by
  intro p hp; cases p <;> first | exact absurd (by decide) hp | exact rfl | simp [Part.Same]

theorem State.incBy_frame (f : Fld) (n : Nat) : Frame [.regs] s (s.incBy f n) := by
  intro p hp; cases p <;> first | exact absurd (by decide) hp | exact rfl | simp [Part.Same]

theorem State.inc_frame (f : Fld) : Frame [.regs] s (s.inc f) := by
  intro p hp; cases p <;> first | exact absurd (by decide) hp | exact rfl | simp [Part.Same]

theorem State.wrs_frame (l : List (Fld × Nat)) : Frame [.regs] s (s.wrs l) := by
  intro p hp; cases p <;> first | exact absurd (by decide) hp | exact rfl | simp [Part.Same]

theorem State.send_frame (o : Out) : Frame [.out] s (s.send o) := by
  intro p hp; cases p <;> first | exact absurd (by decide) hp | exact rfl | simp [Part.Same]

theorem State.sendUdp_frame (p : Nat) (d : Src) (b : Bytes) : Frame [.regs, .out] s (s.sendUdp p d b) := by
  intro p hp; cases p <;> first | exact absurd (by decide) hp | exact rfl | simp [Part.Same]

/-- R409, R410: an event is entered and sent to the subscribers. -/
theorem State.raise_frame (c : Nat) (d : List EvWord) : Frame [.regs, .out, .evt] s (s.raise c d) := by
  intro p hp; cases p <;> first | exact absurd (by decide) hp | exact rfl | simp [Part.Same]

theorem State.tell_frame (h : Bool) (c : Nat) (d : List EvWord) : Frame [.regs, .out, .evt, .hkc] s (s.tell h c d) := by
  intro p hp; cases p <;> first | exact absurd (by decide) hp | exact rfl | simp [Part.Same]

/-- R396: the job changes state. -/
theorem State.setJob_frame (h : Bool) (n : Nat) : Frame [.regs, .out, .evt, .hkc] s (s.setJob h n) := by
  intro p hp; cases p <;> first | exact absurd (by decide) hp | exact rfl | simp [Part.Same]

theorem State.endOp_frame (h : Bool) (k : Nat) (st : OpSt) (r : Nat) : Frame [.regs, .out, .evt, .hkc, .ops] s (s.endOp h k st r) := by
  intro p hp; cases p <;> first | exact absurd (by decide) hp | exact rfl | simp [Part.Same]

theorem State.raiseFor_frame (q c : Nat) (d : List EvWord) : Frame [.regs, .out, .evt, .sieve] s (s.raiseFor q c d) := by
  intro p hp; cases p <;> first | exact absurd (by decide) hp | exact rfl | simp [Part.Same]

theorem State.hold_frame (p : Nat → Bool) : Frame [.hkc] s (s.hold p) := by
  intro p hp; cases p <;> first | exact absurd (by decide) hp | exact rfl | simp [Part.Same]

theorem State.setStream_frame (i : Nat) (x : DstStream) : Frame [.codec] s (s.setStream i x) := by
  intro p hp; cases p <;> first | exact absurd (by decide) hp | exact rfl | simp [Part.Same]

theorem State.updStream_frame (i : Nat) (f : DstStream → DstStream) : Frame [.codec] s (s.updStream i f) := by
  intro p hp; cases p <;> first | exact absurd (by decide) hp | exact rfl | simp [Part.Same]

theorem State.updStripe_frame (seq : Nat) (f : Stripe → Stripe) : Frame [.sieve] s (s.updStripe seq f) := by
  intro p hp; cases p <;> first | exact absurd (by decide) hp | exact rfl | simp [Part.Same]

theorem State.noteTold_frame (seq code : Nat) : Frame [.sieve] s (s.noteTold seq code) := by
  intro p hp; cases p <;> first | exact absurd (by decide) hp | exact rfl | simp [Part.Same]

theorem State.updLane_frame (t : Nat) (f : Lane → Lane) : Frame [.lanes] s (s.updLane t f) := by
  intro p hp; cases p <;> first | exact absurd (by decide) hp | exact rfl | simp [Part.Same]

theorem State.setTx_frame (t : Nat) (x : TxLine) : Frame [.tx] s (s.setTx t x) := by
  intro p hp; cases p <;> first | exact absurd (by decide) hp | exact rfl | simp [Part.Same]

theorem State.nvmWrite_frame (a : Nat) (b : Bytes) : Frame [.power] s (s.nvmWrite a b) := by
  intro p hp; cases p <;> first | exact absurd (by decide) hp | exact rfl | simp [Part.Same]

theorem State.setRecStream_frame (i : Nat) (r : RecStream) : Frame [.check] s (s.setRecStream i r) := by
  intro p hp; cases p <;> first | exact absurd (by decide) hp | exact rfl | simp [Part.Same]

/-! ### One part replaced -/

theorem State.set_sieve_frame (x) : Frame [.sieve] s { s with sieve := x } := by
  intro p hp; cases p <;> first | exact absurd (by decide) hp | exact rfl

theorem State.set_shot_frame (x) : Frame [.shot] s { s with shot := x } := by
  intro p hp; cases p <;> first | exact absurd (by decide) hp | exact rfl

theorem State.set_check_frame (x) : Frame [.check] s { s with check := x } := by
  intro p hp; cases p <;> first | exact absurd (by decide) hp | exact rfl

theorem State.set_cal_frame (x) : Frame [.cal] s { s with cal := x } := by
  intro p hp; cases p <;> first | exact absurd (by decide) hp | exact rfl

theorem State.set_dram_frame (x) : Frame [.dram] s { s with dram := x } := by
  intro p hp; cases p <;> first | exact absurd (by decide) hp | exact rfl

theorem State.set_pair_frame (x) : Frame [.pair] s { s with pair := x } := by
  intro p hp; cases p <;> first | exact absurd (by decide) hp | exact rfl

theorem State.set_pec_frame (x) : Frame [.pec] s { s with pec := x } := by
  intro p hp; cases p <;> first | exact absurd (by decide) hp | exact rfl

theorem State.set_ptp_frame (x) : Frame [.ptp] s { s with ptp := x } := by
  intro p hp; cases p <;> first | exact absurd (by decide) hp | exact rfl

theorem State.set_lanes_frame (x) : Frame [.lanes] s { s with lanes := x } := by
  intro p hp; cases p <;> first | exact absurd (by decide) hp | exact rfl

theorem State.set_tx_frame (x) : Frame [.tx] s { s with tx := x } := by
  intro p hp; cases p <;> first | exact absurd (by decide) hp | exact rfl

theorem State.set_win_frame (x) : Frame [.win] s { s with win := x } := by
  intro p hp; cases p <;> first | exact absurd (by decide) hp | exact rfl

theorem State.set_ops_frame (x) : Frame [.ops] s { s with ops := x } := by
  intro p hp; cases p <;> first | exact absurd (by decide) hp | exact rfl

theorem State.set_render_frame (x) : Frame [.render] s { s with render := x } := by
  intro p hp; cases p <;> first | exact absurd (by decide) hp | exact rfl

/-! ### Operations of several parts -/

theorem State.zero_frame (fs : List Fld) : Frame [.regs] s (s.zero fs) := by
  unfold State.zero
  refine Frame.trans ?_ (Frame.mono (State.wrs_frame _ _) (by decide))
  exact Frame.refl _ _

theorem State.rxFrame_frame (p : Nat) : Frame [.regs] s (s.rxFrame p) := by
  unfold State.rxFrame
  refine Frame.trans ?_ (Frame.mono (State.inc_frame _ _) (by decide))
  exact Frame.refl _ _

theorem State.dropFrame_frame (p : Nat) : Frame [.regs] s (s.dropFrame p) := by
  unfold State.dropFrame
  refine Frame.trans ?_ (Frame.mono (State.inc_frame _ _) (by decide))
  exact Frame.refl _ _

theorem State.sendFrame__frame (p kind dest : Nat) (b : Bytes) : Frame [.regs, .out] s (s.sendFrame_ p kind dest b) := by
  unfold State.sendFrame_
  refine Frame.trans ?_ (Frame.mono (State.send_frame _ _) (by decide))
  refine Frame.trans ?_ (Frame.mono (State.inc_frame _ _) (by decide))
  exact Frame.refl _ _

/-- R47: an ACK or NAK leaves by the host port. -/
theorem State.sendAck_frame (d : Src) (typ i : Nat) (c : Bool) (a win job echo : Nat) (h : List Nat) : Frame [.regs, .out] s (s.sendAck d typ i c a win job echo h) := by
  unfold State.sendAck
  refine Frame.trans ?_ (Frame.mono (State.sendUdp_frame _ _ _ _) (by decide))
  exact Frame.refl _ _

theorem State.ackStream_frame (i : Nat) : Frame [.regs, .out, .codec] s (s.ackStream i) := by
  unfold State.ackStream
  dsimp only
  refine Frame.trans ?_ (Frame.mono (State.setStream_frame _ _ _) (by decide))
  refine Frame.trans ?_ (Frame.mono (State.sendAck_frame _ _ _ _ _ _ _ _ _ _) (by decide))
  exact Frame.refl _ _

theorem State.nakStream_frame (i : Nat) : Frame [.regs, .out, .codec] s (s.nakStream i) := by
  unfold State.nakStream
  dsimp only
  refine Frame.trans ?_ (Frame.mono (State.setStream_frame _ _ _) (by decide))
  refine Frame.trans ?_ (Frame.mono (State.sendAck_frame _ _ _ _ _ _ _ _ _ _) (by decide))
  exact Frame.refl _ _

/-- R86: the history of a stream is lost. -/
theorem State.loseHistory_frame (i : Nat) : Frame [.codec] s (s.loseHistory i) := by
  unfold State.loseHistory
  refine Frame.trans ?_ (Frame.mono (State.updStream_frame _ _ _) (by decide))
  exact Frame.refl _ _

/-- R355: the active is no longer protected. -/
theorem State.unprotect_frame (tick reason : Nat) : Frame [.regs, .out, .evt] s (s.unprotect tick reason) := by
  unfold State.unprotect
  split
  · exact Frame.refl _ _
  · refine Frame.trans ?_ (Frame.mono (State.raise_frame _ _ _) (by decide))
    refine Frame.trans ?_ (Frame.mono (State.wr_frame _ _ _) (by decide))
    exact Frame.refl _ _

theorem State.mirrorFail_frame : Frame [.regs, .out, .evt, .pair] s (s.mirrorFail) := by
  unfold State.mirrorFail
  dsimp only
  split
  · exact Frame.refl _ _
  · refine Frame.trans ?_ (Frame.mono (State.unprotect_frame _ _ _) (by decide))
    refine Frame.trans ?_ (Frame.mono (State.raise_frame _ _ _) (by decide))
    refine Frame.trans ?_ (Frame.mono (State.set_pair_frame _ _) (by decide))
    exact Frame.refl _ _

/-- R354, R355: a frame is mirrored to the standby, or mirroring stops. -/
theorem State.mirror_frame (ref : Nat) (body : PairBody) : Frame [.regs, .out, .evt, .pair] s (s.mirror ref body) := by
  unfold State.mirror
  dsimp only
  refine Frame.ite ?_ ?_
  · exact Frame.refl _ _
  · refine Frame.ite ?_ ?_
    · refine Frame.trans ?_ (Frame.mono (State.mirrorFail_frame _) (by decide))
      refine Frame.trans ?_ (Frame.mono (State.send_frame _ _) (by decide))
      refine Frame.trans ?_ (Frame.mono (State.wr_frame _ _ _) (by decide))
      refine Frame.trans ?_ (Frame.mono (State.set_pair_frame _ _) (by decide))
      exact Frame.refl _ _
    · refine Frame.trans ?_ (Frame.mono (State.send_frame _ _) (by decide))
      refine Frame.trans ?_ (Frame.mono (State.wr_frame _ _ _) (by decide))
      refine Frame.trans ?_ (Frame.mono (State.set_pair_frame _ _) (by decide))
      exact Frame.refl _ _

/-- R357. -/
theorem State.mirrorPointers_frame (seq : Nat) : Frame [.regs, .out, .evt, .pair] s (s.mirrorPointers seq) := by
  unfold State.mirrorPointers
  refine Frame.trans ?_ (Frame.mono (State.mirror_frame _ _ _) (by decide))
  exact Frame.refl _ _

theorem State.pairSend_frame (ref : Nat) (body : PairBody) : Frame [.out] s (s.pairSend ref body) := by
  unfold State.pairSend
  refine Frame.trans ?_ (Frame.mono (State.send_frame _ _) (by decide))
  exact Frame.refl _ _

theorem State.setHist_frame (h : List (Location × Nat)) : Frame [.regs, .check] s (s.setHist h) := by
  unfold State.setHist
  refine Frame.trans ?_ (Frame.mono (State.wr_frame _ _ _) (by decide))
  refine Frame.trans ?_ (Frame.mono (State.set_check_frame _ _) (by decide))
  exact Frame.refl _ _

theorem State.storeLists_frame : Frame [.power] s (s.storeLists) := by
  unfold State.storeLists
  dsimp only
  refine Frame.trans ?_ (Frame.mono (State.nvmWrite_frame _ _ _) (by decide))
  refine Frame.trans ?_ (Frame.mono (State.nvmWrite_frame _ _ _) (by decide))
  exact Frame.refl _ _

/-- R302: a block of DRAM is retired. -/
theorem State.retireRow_frame (row : Nat) : Frame [.regs, .out, .evt, .dram, .power] s (s.retireRow row) := by
  unfold State.retireRow
  dsimp only
  split
  · exact Frame.refl _ _
  · split
    · refine Frame.trans ?_ (Frame.mono (State.raise_frame _ _ _) (by decide))
      exact Frame.refl _ _
    · refine Frame.trans ?_ (Frame.mono (State.raise_frame _ _ _) (by decide))
      refine Frame.trans ?_ (Frame.mono (State.wr_frame _ _ _) (by decide))
      refine Frame.trans ?_ (Frame.mono (State.storeLists_frame _) (by decide))
      refine Frame.trans ?_ (Frame.mono (State.set_dram_frame _ _) (by decide))
      exact Frame.refl _ _

/-- R301: a row waits for its repair, or its block is retired. -/
theorem State.queueRepair_frame (loc : Nat) : Frame [.regs, .out, .evt, .dram, .power] s (s.queueRepair loc) := by
  unfold State.queueRepair
  dsimp only
  split
  · exact Frame.refl _ _
  · split
    · refine Frame.trans ?_ (Frame.mono (State.retireRow_frame _ _) (by decide))
      exact Frame.refl _ _
    · refine Frame.trans ?_ (Frame.mono (State.wr_frame _ _ _) (by decide))
      refine Frame.trans ?_ (Frame.mono (State.set_dram_frame _ _) (by decide))
      exact Frame.refl _ _

theorem State.lastingAction_frame (l : Location) : Frame [.regs, .out, .evt, .win, .dram, .power] s (s.lastingAction l) := by
  unfold State.lastingAction
  split
  · refine Frame.trans ?_ (Frame.mono (State.queueRepair_frame _ _) (by decide))
    exact Frame.refl _ _
  · split
    · refine Frame.trans ?_ (Frame.mono (State.set_win_frame _ _) (by decide))
      exact Frame.refl _ _
    · exact Frame.refl _ _

/-- R310: a location is judged lasting. -/
theorem State.judge_frame (l : Location) : Frame [.regs, .out, .evt, .win, .check, .dram, .power] s (s.judge l) := by
  unfold State.judge
  dsimp only
  refine Frame.trans ?_ (Frame.mono (State.lastingAction_frame _ _) (by decide))
  refine Frame.trans ?_ (Frame.mono (State.setHist_frame _ _) (by decide))
  refine Frame.trans ?_ (Frame.mono (State.set_check_frame _ _) (by decide))
  refine Frame.trans ?_ (Frame.mono (State.wrs_frame _ _) (by decide))
  refine Frame.trans ?_ (Frame.mono (State.inc_frame _ _) (by decide))
  refine Frame.trans ?_ (Frame.mono (State.raise_frame _ _ _) (by decide))
  exact Frame.refl _ _

/-- R308: a check has failed at a location: it is noted, tested, or judged lasting. -/
theorem State.failAt_frame (l : Location) : Frame [.regs, .out, .evt, .win, .check, .dram, .power] s (s.failAt l) := by
  unfold State.failAt
  dsimp only
  split
  · refine Frame.trans ?_ (Frame.mono (State.setHist_frame _ _) (by decide))
    exact Frame.refl _ _
  · split
    · split
      · refine Frame.trans ?_ (Frame.mono (State.judge_frame _ _) (by decide))
        exact Frame.refl _ _
      · refine Frame.trans ?_ (Frame.mono (State.setHist_frame _ _) (by decide))
        refine Frame.trans ?_ (Frame.mono (State.set_check_frame _ _) (by decide))
        exact Frame.refl _ _
    · refine Frame.trans ?_ (Frame.mono (State.setHist_frame _ _) (by decide))
      refine Frame.trans ?_ (Frame.mono (State.set_check_frame _ _) (by decide))
      exact Frame.refl _ _

/-- R279: a line has failed. -/
theorem State.noteBad_frame (r : DramReq) (k : Nat) : Frame [.regs, .out, .evt, .win, .check, .dram, .power] s (s.noteBad r k) := by
  unfold State.noteBad
  dsimp only
  split
  · refine Frame.trans ?_ (Frame.mono (State.raise_frame _ _ _) (by decide))
    refine Frame.trans ?_ (Frame.mono (State.wrs_frame _ _) (by decide))
    refine Frame.trans ?_ (Frame.mono (State.inc_frame _ _) (by decide))
    exact Frame.refl _ _
  · refine Frame.trans ?_ (Frame.mono (State.failAt_frame _ _) (by decide))
    refine Frame.trans ?_ (Frame.mono (State.raise_frame _ _ _) (by decide))
    refine Frame.trans ?_ (Frame.mono (State.wrs_frame _ _) (by decide))
    refine Frame.trans ?_ (Frame.mono (State.inc_frame _ _) (by decide))
    exact Frame.refl _ _

theorem State.stopRender_frame : Frame [.regs, .render] s (s.stopRender) := by
  unfold State.stopRender
  refine Frame.trans ?_ (Frame.mono (State.wrs_frame _ _) (by decide))
  refine Frame.trans ?_ (Frame.mono (State.set_render_frame _ _) (by decide))
  exact Frame.refl _ _

theorem State.stopPec_frame : Frame [.regs, .pec] s (s.stopPec) := by
  unfold State.stopPec
  refine Frame.trans ?_ (Frame.mono (State.wr_frame _ _ _) (by decide))
  refine Frame.trans ?_ (Frame.mono (State.set_pec_frame _ _) (by decide))
  exact Frame.refl _ _

/-- R71: the engines leave a stripe. -/
theorem State.leaveEngines_frame (seq : Nat) : Frame [.regs, .render, .pec] s (s.leaveEngines seq) := by
  unfold State.leaveEngines
  dsimp only
  split
  · refine Frame.ite ?_ ?_
    · refine Frame.trans ?_ (Frame.mono (State.wr_frame _ _ _) (by decide))
      refine Frame.trans ?_ (Frame.mono (State.set_pec_frame _ _) (by decide))
      refine Frame.trans ?_ (Frame.mono (State.stopRender_frame _) (by decide))
      exact Frame.refl _ _
    · refine Frame.trans ?_ (Frame.mono (State.stopRender_frame _) (by decide))
      exact Frame.refl _ _
  · refine Frame.ite ?_ ?_
    · refine Frame.trans ?_ (Frame.mono (State.wr_frame _ _ _) (by decide))
      refine Frame.trans ?_ (Frame.mono (State.set_pec_frame _ _) (by decide))
      exact Frame.refl _ _
    · exact Frame.refl _ _

theorem State.clearFirst_frame (seq : Nat) : Frame [.regs, .sieve] s (s.clearFirst seq) := by
  unfold State.clearFirst
  split
  · split
    · refine Frame.trans ?_ (Frame.mono (State.wr_frame _ _ _) (by decide))
      refine Frame.trans ?_ (Frame.mono (State.updStripe_frame _ _ _) (by decide))
      exact Frame.refl _ _
    · exact Frame.refl _ _
  · exact Frame.refl _ _

theorem State.refuseRegs_frame (seq band code : Nat) : Frame [.regs] s (s.refuseRegs seq band code) := by
  unfold State.refuseRegs
  refine Frame.trans ?_ (Frame.mono (State.inc_frame _ _) (by decide))
  refine Frame.trans ?_ (Frame.mono (State.wr_frame _ _ _) (by decide))
  refine Frame.trans ?_ (Frame.mono (State.wr_frame _ _ _) (by decide))
  refine Frame.trans ?_ (Frame.mono (State.wr_frame _ _ _) (by decide))
  exact Frame.refl _ _

/-- R71: what a refused stripe held is dropped. -/
theorem State.dropStripe_frame (seq : Nat) : Frame [.regs, .sieve, .render, .pec] s (s.dropStripe seq) := by
  unfold State.dropStripe
  dsimp only
  refine Frame.trans ?_ (Frame.mono (State.set_sieve_frame _ _) (by decide))
  refine Frame.trans ?_ (Frame.mono (State.updStripe_frame _ _ _) (by decide))
  refine Frame.trans ?_ (Frame.mono (State.leaveEngines_frame _ _) (by decide))
  refine Frame.trans ?_ (Frame.mono (State.clearFirst_frame _ _) (by decide))
  exact Frame.refl _ _

/-- Table 15.5: the job ends when it is complete. -/
theorem State.checkJobEnd_frame : Frame [.regs, .out, .evt, .hkc, .ops] s (s.checkJobEnd) := by
  unfold State.checkJobEnd
  split
  · refine Frame.trans ?_ (Frame.mono (State.endOp_frame _ _ _ _ _) (by decide))
    refine Frame.trans ?_ (Frame.mono (State.setJob_frame _ _ _) (by decide))
    exact Frame.refl _ _
  · exact Frame.refl _ _

/-- R71: a stripe is refused. -/
theorem State.refuse_frame (seq band code : Nat) : Frame [.regs, .out, .evt, .hkc, .ops, .sieve, .render, .pec, .pair] s (s.refuse seq band code) := by
  unfold State.refuse
  refine Frame.trans ?_ (Frame.mono (State.checkJobEnd_frame _) (by decide))
  refine Frame.trans ?_ (Frame.mono (State.mirrorPointers_frame _ _) (by decide))
  refine Frame.trans ?_ (Frame.mono (State.dropStripe_frame _ _) (by decide))
  refine Frame.trans ?_ (Frame.mono (State.refuseRegs_frame _ _ _ _) (by decide))
  refine Frame.trans ?_ (Frame.mono (State.raise_frame _ _ _) (by decide))
  exact Frame.refl _ _

/-- R71, R398: a stripe is cancelled. -/
theorem State.cancelStripe_frame (seq : Nat) : Frame [.regs, .out, .evt, .sieve, .render, .pec, .pair] s (s.cancelStripe seq) := by
  unfold State.cancelStripe
  refine Frame.trans ?_ (Frame.mono (State.mirrorPointers_frame _ _) (by decide))
  refine Frame.trans ?_ (Frame.mono (State.dropStripe_frame _ _) (by decide))
  refine Frame.trans ?_ (Frame.mono (State.inc_frame _ _) (by decide))
  exact Frame.refl _ _

/-- R133: the maps of layers that are over are freed. -/
theorem State.freeMaps_frame : Frame [.sieve] s (s.freeMaps) := by
  unfold State.freeMaps
  refine Frame.trans ?_ (Frame.mono (State.set_sieve_frame _ _) (by decide))
  exact Frame.refl _ _

theorem State.updTick_frame (n : Nat) (f : TickEntry → TickEntry) : Frame [.shot] s (s.updTick n f) := by
  unfold State.updTick
  refine Frame.trans ?_ (Frame.mono (State.set_shot_frame _ _) (by decide))
  exact Frame.refl _ _

theorem State.pushTick_frame (e : TickEntry) : Frame [.shot] s (s.pushTick e) := by
  unfold State.pushTick
  refine Frame.trans ?_ (Frame.mono (State.set_shot_frame _ _) (by decide))
  exact Frame.refl _ _

theorem State.addReasons_frame (px y r : Nat) : Frame [.shot] s (s.addReasons px y r) := by
  unfold State.addReasons
  split
  · exact Frame.refl _ _
  · refine Frame.trans ?_ (Frame.mono (State.set_shot_frame _ _) (by decide))
    exact Frame.refl _ _

theorem State.countMissed_frame (x : Stripe) (tick blk : Nat) : Frame [.regs] s (s.countMissed x tick blk) := by
  unfold State.countMissed
  refine Frame.trans ?_ (Frame.mono (State.incBy_frame _ _ _) (by decide))
  exact Frame.refl _ _

/-- R112: a segment of the dose window is written with its check. -/
theorem State.winWrite_frame (seq y plane seg : Nat) (d : List Int) : Frame [.win] s (s.winWrite seq y plane seg d) := by
  unfold State.winWrite
  refine Frame.trans ?_ (Frame.mono (State.set_win_frame _ _) (by decide))
  exact Frame.refl _ _

/-- R248: PTP lock is lost. -/
theorem State.clearLock_frame (r : Nat) : Frame [.regs, .out, .evt, .ptp] s (s.clearLock r) := by
  unfold State.clearLock
  dsimp only
  split
  · refine Frame.trans ?_ (Frame.mono (State.raise_frame _ _ _) (by decide))
    refine Frame.trans ?_ (Frame.mono (State.wrs_frame _ _) (by decide))
    refine Frame.trans ?_ (Frame.mono (State.set_ptp_frame _ _) (by decide))
    exact Frame.refl _ _
  · refine Frame.trans ?_ (Frame.mono (State.wrs_frame _ _) (by decide))
    refine Frame.trans ?_ (Frame.mono (State.set_ptp_frame _ _) (by decide))
    exact Frame.refl _ _

/-- R249: no master: lock is lost. -/
theorem State.holdover_frame (r : Nat) : Frame [.regs, .out, .evt, .ptp] s (s.holdover r) := by
  unfold State.holdover
  split
  · exact Frame.refl _ _
  · refine Frame.trans ?_ (Frame.mono (State.raise_frame _ _ _) (by decide))
    refine Frame.trans ?_ (Frame.mono (State.wr_frame _ _ _) (by decide))
    refine Frame.trans ?_ (Frame.mono (State.clearLock_frame _ _) (by decide))
    exact Frame.refl _ _

theorem State.driveTx_frame (t st : Nat) : Frame [.tx] s (s.driveTx t st) := by
  unfold State.driveTx
  dsimp only
  split
  · refine Frame.trans ?_ (Frame.mono (State.setTx_frame _ _ _) (by decide))
    exact Frame.refl _ _
  · split
    · refine Frame.trans ?_ (Frame.mono (State.setTx_frame _ _ _) (by decide))
      exact Frame.refl _ _
    · exact Frame.refl _ _

/-- Table 8.2: a lane changes state. -/
theorem State.setLaneSt_frame (t st : Nat) : Frame [.regs, .tx] s (s.setLaneSt t st) := by
  unfold State.setLaneSt
  refine Frame.trans ?_ (Frame.mono (State.wr_frame _ _ _) (by decide))
  refine Frame.trans ?_ (Frame.mono (State.driveTx_frame _ _ _) (by decide))
  exact Frame.refl _ _

theorem State.noteHead_frame (t : Nat) (v : Bool) : Frame [.tx] s (s.noteHead t v) := by
  unfold State.noteHead
  refine Frame.trans ?_ (Frame.mono (State.setTx_frame _ _ _) (by decide))
  exact Frame.refl _ _

theorem State.updReplay_frame (t n : Nat) (f : ReplayTick → ReplayTick) : Frame [.lanes] s (s.updReplay t n f) := by
  unfold State.updReplay
  refine Frame.trans ?_ (Frame.mono (State.updLane_frame _ _ _) (by decide))
  exact Frame.refl _ _

theorem State.moveEnds_frame (t : Nat) (m : List (Nat × Nat)) : Frame [.lanes] s (s.moveEnds t m) := by
  unfold State.moveEnds
  dsimp only
  split
  · exact Frame.refl _ _
  · refine Frame.trans ?_ (Frame.mono (State.updLane_frame _ _ _) (by decide))
    exact Frame.refl _ _

/-- R181: blocks are put on a lane. -/
theorem State.putBlocks_frame (t : Nat) (pl : LinePlace) (bs : List LineBlk) : Frame [.lanes, .tx] s (s.putBlocks t pl bs) := by
  unfold State.putBlocks
  dsimp only
  refine Frame.trans ?_ (Frame.mono (State.moveEnds_frame _ _ _) (by decide))
  refine Frame.trans ?_ (Frame.mono (State.setTx_frame _ _ _) (by decide))
  exact Frame.refl _ _

theorem State.laneOut_frame (t : Nat) (b : Bytes) : Frame [.out, .lanes, .tx] s (s.laneOut t b) := by
  unfold State.laneOut
  refine Frame.trans ?_ (Frame.mono (State.send_frame _ _) (by decide))
  refine Frame.trans ?_ (Frame.mono (State.putBlocks_frame _ _ _ _) (by decide))
  exact Frame.refl _ _

theorem State.raiseLane_frame (seq t code : Nat) (d : List EvWord) : Frame [.regs, .out, .evt, .sieve] s (s.raiseLane seq t code d) := by
  unfold State.raiseLane
  split
  · refine Frame.trans ?_ (Frame.mono (State.raise_frame _ _ _) (by decide))
    exact Frame.refl _ _
  · split
    · exact Frame.refl _ _
    · refine Frame.trans ?_ (Frame.mono (State.noteTold_frame _ _ _) (by decide))
      refine Frame.trans ?_ (Frame.mono (State.raise_frame _ _ _) (by decide))
      exact Frame.refl _ _

theorem State.enterDetect_frame (t : Nat) : Frame [.regs, .lanes, .tx] s (s.enterDetect t) := by
  unfold State.enterDetect
  refine Frame.trans ?_ (Frame.mono (State.setLaneSt_frame _ _ _) (by decide))
  refine Frame.trans ?_ (Frame.mono (State.updLane_frame _ _ _) (by decide))
  exact Frame.refl _ _

/-- R226: a lane idles before DETECT. -/
theorem State.holdIdle_frame (t ns : Nat) : Frame [.regs, .lanes, .tx] s (s.holdIdle t ns) := by
  unfold State.holdIdle
  refine Frame.trans ?_ (Frame.mono (State.setLaneSt_frame _ _ _) (by decide))
  refine Frame.trans ?_ (Frame.mono (State.updLane_frame _ _ _) (by decide))
  exact Frame.refl _ _

theorem State.openSession_frame : Frame [.regs] s (s.openSession) := by
  unfold State.openSession
  refine Frame.trans ?_ (Frame.mono (State.wr_frame _ _ _) (by decide))
  exact Frame.refl _ _

theorem State.closeSession_frame : Frame [.regs, .cal] s (s.closeSession) := by
  unfold State.closeSession
  refine Frame.trans ?_ (Frame.mono (State.wrs_frame _ _) (by decide))
  refine Frame.trans ?_ (Frame.mono (State.set_cal_frame _ _) (by decide))
  exact Frame.refl _ _

theorem State.badMirrorLine_frame (i : Nat) : Frame [.cal] s (s.badMirrorLine i) := by
  unfold State.badMirrorLine
  refine Frame.trans ?_ (Frame.mono (State.set_cal_frame _ _) (by decide))
  exact Frame.refl _ _

/-- R285. -/
theorem State.verifyFailed_frame (line region : Nat) : Frame [.regs, .out, .evt] s (s.verifyFailed line region) := by
  unfold State.verifyFailed
  refine Frame.trans ?_ (Frame.mono (State.raise_frame _ _ _) (by decide))
  refine Frame.trans ?_ (Frame.mono (State.inc_frame _ _) (by decide))
  exact Frame.refl _ _

theorem State.setWindow_frame (c : Option CalWindow) : Frame [.cal] s (s.setWindow c) := by
  unfold State.setWindow
  refine Frame.trans ?_ (Frame.mono (State.set_cal_frame _ _) (by decide))
  exact Frame.refl _ _

/-- R401: an operation takes a free slot. -/
theorem State.newOp_frame (kind arg : Nat) (b : Bytes) : Frame [.regs, .out, .evt, .hkc, .ops] s (s.newOp kind arg b) := by
  unfold State.newOp
  dsimp only
  refine Frame.trans ?_ (Frame.mono (State.hold_frame _ _) (by decide))
  refine Frame.trans ?_ (Frame.mono (State.tell_frame _ _ _ _) (by decide))
  refine Frame.trans ?_ (Frame.mono (State.set_ops_frame _ _) (by decide))
  exact Frame.refl _ _

theorem State.atPort_frame (r : DramReq) : Frame [.dram] s (s.atPort r) := by
  unfold State.atPort
  refine Frame.trans ?_ (Frame.mono (State.set_dram_frame _ _) (by decide))
  exact Frame.refl _ _

/-- R282: an entry of the Ladle goes to its port. -/
theorem State.flush_frame (e : LadleEnt) : Frame [.dram] s (s.flush e) := by
  unfold State.flush
  dsimp only
  refine Frame.trans ?_ (Frame.mono (State.atPort_frame _ _) (by decide))
  refine Frame.trans ?_ (Frame.mono (State.set_dram_frame _ _) (by decide))
  exact Frame.refl _ _

end Machine

end Sys2Proof
end

