-- ==== Sys2Proof/Laws/Memory.lean ====
section
/-! SUPPORT. The stores keep their canonical form: register fields, bytes of NVM and of the host scratch, and lines of DRAM. -/

namespace Sys2Proof.Machine

/-- The parts of the canonical form. -/
theorem Memory.wf_iff (s : State) : Memory.wf s = true ↔
    tabSorted none s.regs = true ∧ tabWf 0xFF#8 s.power.nvm = true ∧ tabWf 0#8 s.power.scratch = true ∧
      tabSorted none s.dram.lines = true ∧ s.dram.lines.all (fun e => decide (e.2 ≠ freeLine e.1)) = true := by
  unfold Memory.wf
  simp only [Bool.and_eq_true, and_assoc]

/-- The state after reset has the form. -/
theorem Memory.wf_reset : Memory.wf State.reset = true := by decide

/-- The form depends on the stores alone. -/
theorem Memory.wf_congr {s t : State} (hr : t.regs = s.regs) (hp : t.power.nvm = s.power.nvm) (hs : t.power.scratch = s.power.scratch)
    (hl : t.dram.lines = s.dram.lines) (h : Memory.wf s = true) : Memory.wf t = true := by
  rw [Memory.wf_iff] at h ⊢
  rw [hr, hp, hs, hl]
  exact h

theorem regsWr_sorted (r : Tab Nat) (f : Fld) (v : Nat) (h : tabSorted none r = true) : tabSorted none (regsWr r f v) = true := by
  unfold regsWr
  split
  · exact tabSorted_erase _ _ h
  · exact tabSorted_put _ _ _ h

/-- Writing a register field keeps the form. -/
theorem Memory.wf_wr (s : State) (f : Fld) (v : Nat) (h : Memory.wf s = true) : Memory.wf (s.wr f v) = true := by
  rw [Memory.wf_iff] at h ⊢
  exact ⟨regsWr_sorted _ _ _ h.1, h.2⟩

theorem Memory.wf_wrs (l : List (Fld × Nat)) : ∀ s : State, Memory.wf s = true → Memory.wf (s.wrs l) = true := by
  induction l with
  | nil => intro s h; exact h
  | cons e l ih => intro s h; exact ih _ (Memory.wf_wr s e.1 e.2 h)

/-- Dropping register fields keeps the form. -/
theorem Memory.wf_keepRegs (s : State) (p : Nat → Bool) (h : Memory.wf s = true) :
    Memory.wf { s with regs := tabKeep p s.regs } = true := by
  rw [Memory.wf_iff] at h ⊢
  exact ⟨tabSorted_filter _ _ h.1, h.2⟩

/-- Programming bytes of NVM keeps the form. -/
theorem Memory.wf_nvmWrite (s : State) (a : Nat) (b : Bytes) (h : Memory.wf s = true) : Memory.wf (s.nvmWrite a b) = true := by
  rw [Memory.wf_iff] at h ⊢
  exact ⟨h.1, tabWf_setRange _ _ _ _ h.2.1, h.2.2⟩

/-- Erasing bytes of NVM keeps the form. -/
theorem Memory.wf_nvmErase (s : State) (a n : Nat) (h : Memory.wf s = true) : Memory.wf (s.nvmErase a n) = true := by
  rw [Memory.wf_iff] at h ⊢
  exact ⟨h.1, tabWf_keep _ (fun k => decide (k < a) || decide (a + n ≤ k)) _ h.2.1, h.2.2⟩

/-- Writing a word of the host scratch keeps the form. -/
theorem Memory.wf_writeScratch (s : State) (off v : Nat) (h : Memory.wf s = true) : Memory.wf (s.writeScratch off v) = true := by
  unfold State.writeScratch
  split
  · exact h
  · rw [Memory.wf_iff] at h ⊢
    exact ⟨h.1, h.2.1, tabWf_setRange _ _ _ _ h.2.2.1, h.2.2.2⟩

/-- Writing a line of DRAM keeps the form. -/
theorem Memory.wf_setLine (s : State) (line : Nat) (x : DramLine) (h : Memory.wf s = true) : Memory.wf (s.setLine line x) = true := by
  rw [Memory.wf_iff] at h ⊢
  refine ⟨h.1, h.2.1, h.2.2.1, ?_⟩
  show tabSorted none (linesSet s.dram.lines line x) = true ∧ (linesSet s.dram.lines line x).all _ = true
  unfold linesSet
  split
  · rw [tabErase_eq_filter]
    exact ⟨tabSorted_filter _ _ h.2.2.2.1, tabFilter_all _ _ _ h.2.2.2.2⟩
  · rename_i hx
    exact ⟨tabSorted_put _ _ _ h.2.2.2.1, tabPut_all _ _ _ _ h.2.2.2.2 (by simpa using hx)⟩

/-- Dropping lines of DRAM keeps the form. -/
theorem Memory.wf_dropLines (s : State) (p : Nat × DramLine → Bool) (h : Memory.wf s = true) :
    Memory.wf { s with dram := { s.dram with lines := s.dram.lines.filter p } } = true := by
  rw [Memory.wf_iff] at h ⊢
  exact ⟨h.1, h.2.1, h.2.2.1, tabSorted_filter _ _ h.2.2.2.1, tabFilter_all _ _ _ h.2.2.2.2⟩

/-! ### Reading a line back -/

/-- A line reads as it was written. -/
theorem dramLine_setLine_same (s : State) (line : Nat) (x : DramLine) : (s.setLine line x).dramLine line = x := by
  show (tabFind (linesSet s.dram.lines line x) line).getD (freeLine line) = x
  unfold linesSet
  split
  · rename_i h
    simp [tabFind_erase_same, h]
  · simp [tabFind_put_same]

/-- Writing a line leaves every other line. -/
theorem dramLine_setLine_ne (s : State) {line l : Nat} (x : DramLine) (h : l ≠ line) :
    (s.setLine line x).dramLine l = s.dramLine l := by
  show (tabFind (linesSet s.dram.lines line x) l).getD (freeLine l) = (tabFind s.dram.lines l).getD (freeLine l)
  unfold linesSet
  split
  · rw [tabFind_erase_ne _ h]
  · rw [tabFind_put_ne _ _ h]

end Sys2Proof.Machine
end

