-- ==== Sys2Proof/Laws/PairWire.lean ====
section
/-! SUPPORT. Laws of pair frames: the bytes of a frame read back as that frame (R352). -/

namespace Sys2Proof.Machine

theorem sub_left (a b : Bytes) (i n : Nat) (h : i + n ≤ a.length) : sub (a ++ b) i n = sub a i n := by
  unfold sub
  rw [List.drop_append_of_le_length (by omega), List.take_append_of_le_length (by rw [List.length_drop]; omega)]

theorem sub_right (a b : Bytes) (i n : Nat) (h : a.length ≤ i) : sub (a ++ b) i n = sub b (i - a.length) n := by
  unfold sub
  rw [List.drop_append, List.drop_of_length_le h, List.nil_append]

theorem sub_all (b : Bytes) (n : Nat) (h : n = b.length) : sub b 0 n = b := by
  subst h; simp [sub]

/-- A number written first is read first. -/
theorem beAt_head (n x : Nat) (r : Bytes) : beAt (toBE n x ++ r) 0 n = x % 256 ^ n := by
  unfold beAt
  rw [sub_left _ _ _ _ (by rw [toBE_length]; omega), sub_all _ _ (toBE_length n x).symm, beNat_toBE]

/-- What follows a number is read behind it. -/
theorem beAt_skip (k x i n : Nat) (r : Bytes) (h : k ≤ i) : beAt (toBE k x ++ r) i n = beAt r (i - k) n := by
  unfold beAt
  rw [sub_right _ _ _ _ (by rw [toBE_length]; exact h), toBE_length]

theorem byteAt_beAt (b : Bytes) (i : Nat) : byteAt b i = beAt b i 1 := by
  unfold byteAt beAt sub
  rw [List.getD_eq_getElem?_getD, ← List.head?_drop]
  cases h : b.drop i with
  | nil => rfl
  | cons x xs => simp [beNat]

/-- The 16-byte header of Table 13.2 before its payload. -/
theorem frame_header (ty rs ep g len ref : Nat) (p : Bytes) (ht : ty < 256) (hs : rs < 2) (he : ep < 2 ^ 16) (hg : g < 2 ^ 32)
    (hl : len < 2 ^ 32) (hr : ref < 2 ^ 24) :
    let m := toBE 1 ty ++ toBE 1 rs ++ toBE 2 ep ++ toBE 4 g ++ toBE 4 len ++ toBE 4 ref ++ p
    m.length = 16 + p.length ∧ byteAt m 0 = ty ∧ byteAt m 1 = rs ∧ beAt m 2 2 = ep ∧ beAt m 4 4 = g ∧ beAt m 8 4 = len ∧
      byteAt m 12 = 0 ∧ beAt m 13 3 = ref ∧ sub m 16 p.length = p := by
  have hb : toBE 4 ref = toBE 1 0 ++ toBE 3 ref := by
    simp only [toBE, List.cons_append, List.nil_append, List.cons.injEq, and_true]
    rw [Nat.shiftRight_eq_div_pow, Nat.div_eq_of_lt (by omega)]
    rfl
  dsimp only
  simp only [hb, List.append_assoc, byteAt_beAt]
  refine ⟨by simp [toBE_length]; omega, ?_, ?_, ?_, ?_, ?_, ?_, ?_, ?_⟩
  · rw [beAt_head]; omega
  · rw [beAt_skip _ _ _ _ _ (by omega), beAt_head]; omega
  · rw [beAt_skip _ _ _ _ _ (by omega), beAt_skip _ _ _ _ _ (by omega), beAt_head]; omega
  · simp only [beAt_skip 1 _ 4 _ _ (by omega), beAt_skip 1 _ 3 _ _ (by omega), beAt_skip 2 _ 2 _ _ (by omega), Nat.reduceSub, beAt_head]; omega
  · simp only [beAt_skip 1 _ 8 _ _ (by omega), beAt_skip 1 _ 7 _ _ (by omega), beAt_skip 2 _ 6 _ _ (by omega),
      beAt_skip 4 _ 4 _ _ (by omega), Nat.reduceSub, beAt_head]; omega
  · simp only [beAt_skip 1 _ 12 _ _ (by omega), beAt_skip 1 _ 11 _ _ (by omega), beAt_skip 2 _ 10 _ _ (by omega),
      beAt_skip 4 _ 8 _ _ (by omega), beAt_skip 4 _ 4 _ _ (by omega), Nat.reduceSub, beAt_head] <;> omega
  · simp only [beAt_skip 1 _ 13 _ _ (by omega), beAt_skip 1 _ 12 _ _ (by omega), beAt_skip 2 _ 11 _ _ (by omega),
      beAt_skip 4 _ 9 _ _ (by omega), beAt_skip 4 _ 5 _ _ (by omega), beAt_skip 1 _ 1 _ _ (by omega), Nat.reduceSub, beAt_head]; omega
  · have h (k x i n : Nat) (r : Bytes) (h : k ≤ i) : sub (toBE k x ++ r) i n = sub r (i - k) n := by
      rw [sub_right _ _ _ _ (by rw [toBE_length]; exact h), toBE_length]
    simp only [h 1 _ 16 _ _ (by omega), h 1 _ 15 _ _ (by omega), h 2 _ 14 _ _ (by omega), h 4 _ 12 _ _ (by omega), h 4 _ 8 _ _ (by omega),
      h 1 _ 4 _ _ (by omega), h 3 _ 3 _ _ (by omega), Nat.reduceSub]
    exact sub_all _ _ rfl

/-- R352: the frame written for f is read back as f, as far as its payload is read back. -/
theorem parsePair_frameBytes (f : PairFrame) (he : f.epoch < 2 ^ 16) (hg : f.gen < 2 ^ 32) (hr : f.ref < 2 ^ 24)
    (hl : (bodyBytes f.body).length ≤ 8192) :
    parsePair (frameBytes f) = (parseBody (bodyType f.body) (bodyBytes f.body)).map (fun body => { f with body := body }) := by
  obtain ⟨resend, epoch, gen, ref, body⟩ := f
  dsimp only at he hg hr hl ⊢
  have ht : bodyType body < 256 := by cases body <;> simp [bodyType]
  have hs : b2n resend < 2 := by cases resend <;> decide
  obtain ⟨h0, h1, h2, h3, h4, h5, h6, h7, h8⟩ :=
    frame_header (bodyType body) (b2n resend) epoch gen (bodyBytes body).length ref (bodyBytes body) ht hs he hg (by omega) hr
  unfold frameBytes
  dsimp only
  generalize toBE 1 (bodyType body) ++ toBE 1 (b2n resend) ++ toBE 2 epoch ++ toBE 4 gen ++ toBE 4 (bodyBytes body).length ++
    toBE 4 ref ++ bodyBytes body = m at *
  have hn : (m ++ toBE 4 (crc32c m)).length - 4 = m.length := by rw [List.length_append, toBE_length]; omega
  have hlen : (m ++ toBE 4 (crc32c m)).length = (bodyBytes body).length + 20 := by rw [List.length_append, toBE_length]; omega
  have hc : beAt (m ++ toBE 4 (crc32c m)) m.length 4 = crc32c m := by
    unfold beAt
    rw [sub_right _ _ _ _ (Nat.le_refl _), Nat.sub_self, sub_all _ _ (toBE_length _ _).symm, beNat_toBE]
    exact Nat.mod_eq_of_lt (crc32c_lt m)
  have ht' : (m ++ toBE 4 (crc32c m)).take m.length = m := by simp
  have e (i n : Nat) (h : i + n ≤ 16) : beAt (m ++ toBE 4 (crc32c m)) i n = beAt m i n := by
    unfold beAt; rw [sub_left _ _ _ _ (by omega)]
  have hsub : sub (m ++ toBE 4 (crc32c m)) 16 (bodyBytes body).length = bodyBytes body := by
    rw [sub_left _ _ _ _ (by omega), h8]
  unfold parsePair
  simp only [byteAt_beAt] at h1 h2 h6 ⊢
  rw [hn, hc, ht', hlen, Nat.add_sub_cancel, e 1 1 (by omega), e 8 4 (by omega), e 12 1 (by omega), e 0 1 (by omega), e 2 2 (by omega),
    e 4 4 (by omega), e 13 3 (by omega), hsub, h1, h2, h3, h4, h5, h6, h7]
  have hcond : ¬ ((bodyBytes body).length + 20 < 20 ∨ crc32c m ≠ crc32c m ∨ 1 < b2n resend ∨
      (bodyBytes body).length ≠ (bodyBytes body).length ∨ 0 ≠ 0 ∨ 8192 < (bodyBytes body).length ∧ bodyType body ≠ 8) := by
    simp; omega
  rw [if_neg hcond]
  have hres : decide (b2n resend = 1) = resend := by cases resend <;> rfl
  simp only [hres]

/-- A TRIM_COMMIT frame is read back. -/
theorem parsePair_trimCommit (resend : Bool) (epoch gen ref seq crc : Nat) (he : epoch < 2 ^ 16) (hg : gen < 2 ^ 32) (hr : ref < 2 ^ 24)
    (hq : seq < 2 ^ 24) (hc : crc < 2 ^ 32) :
    parsePair (frameBytes ⟨resend, epoch, gen, ref, .trimCommit seq crc⟩) = some ⟨resend, epoch, gen, ref, .trimCommit seq crc⟩ := by
  have hl : (bodyBytes (.trimCommit seq crc)).length = 7 := by simp [bodyBytes, toBE_length]
  rw [parsePair_frameBytes _ he hg hr (by rw [hl]; omega)]
  have h1 : beAt (toBE 3 seq ++ toBE 4 crc) 0 3 = seq := by rw [beAt_head]; omega
  have h2 : beAt (toBE 3 seq ++ toBE 4 crc) 3 4 = crc := by
    have := beAt_skip 3 seq 3 4 (toBE 4 crc) (by omega)
    rw [this]
    have := beAt_head 4 crc []
    rw [List.append_nil] at this
    rw [Nat.sub_self, this]; omega
  simp [parseBody, bodyType, bodyBytes, h1, h2]
  simp [toBE_length]

end Sys2Proof.Machine
end

