-- ==== Sys2Proof/WellFormed.lean ====
section
/-! DEFINITION. When the operands of a command are well formed: every number lies in the range its rule gives it. -/

namespace Sys2Proof

/-- Stream numbers 0 to 15 (R46). -/
def wfStream (i : Nat) : Bool := decide (i < 16)

/-- Lane numbers 0 to 63 (Table 0.1). -/
def wfLane (t : Nat) : Bool := decide (t < 64)

/-- Stripe numbers of 24 bits (R29). -/
def wfSeq (n : Nat) : Bool := decide (n < 2 ^ 24)

/-- A network peer: a port 0 to 2, an address, a UDP port and a link-layer address. -/
def wfSrc (x : Src) : Bool :=
  decide (x.iface < 3) && decide (x.addr < if x.v6 then 2 ^ 128 else 2 ^ 32) && decide (x.udp < 2 ^ 16) &&
    decide (x.mac < 2 ^ 48)

/-- Bits below a width. -/
def wfBits (w x : Nat) : Bool := decide (x < 2 ^ w)

/-- A PTP header: port, transport and the widths of its fields (Table 9.1). -/
def wfPtp (h : PtpHdr) : Bool :=
  decide (h.iface < 3) && decide (h.transport < 3) && wfBits 8 h.domain && wfBits 64 h.clock && wfBits 16 h.portNo &&
    wfBits 16 h.seq

/-- A DRAM request: class, requester, line, byte mask, data, region and generation in range (Table 10.4, R276). -/
def wfReq (r : DramReq) : Bool :=
  decide (r.cls < 5) && decide (r.requester < 16) && wfBits 30 r.line && wfBits 64 r.mask && wfBits 512 r.data &&
    decide (r.region < 9) && wfBits 24 r.gen && decide (r.tag = 0) && r.others.isEmpty

/-- R293: a passing run: a Vref step below 32, and steps of the 128 of a delay. -/
def wfRun (r : Nat × Nat × Nat) : Bool := decide (r.1 < 32) && decide (r.2.1 + r.2.2 ≤ 128)

/-- The well-formed commands. -/
def Instr.wf : Instr → Bool
  | .dstData src _ => wfSrc src
  | .dstSync src _ => wfSrc src
  | .dstFin src _ => wfSrc src
  | .ackIdleTimeout stream => wfStream stream
  | .reorderTimeout stream => wfStream stream
  | .nakRepeat stream => wfStream stream
  | .windowReopen stream => wfStream stream
  | .decodeEngineAssign _ => true
  | .descriptorHoldTimeout seq => wfSeq seq
  | .descriptorQueueRoom => true
  | .stripeAdmit seq bad => wfSeq seq && bad.all wfSeq
  | .densityPrepassBand _ => true
  | .densityFetchRetry seq band _ => wfSeq seq && wfBits 16 band
  | .contextImageStoreDone _ => true
  | .contextRestoreDone _ => true
  | .recordChunkCompress band seg => wfBits 16 band && decide (seg < 32)
  | .renderStart => true
  | .renderLineDone bad => wfBits 16 bad
  | .curveFlattenDone slice band => decide (slice < 16) && wfBits 16 band
  | .rerenderDone slice _ => decide (slice < 16)
  | .fMapStart => true
  | .fRowDone _ => true
  | .pecCommit _ => true
  | .tickFix => true
  | .tickCompute _ => true
  | .rhoRebuildStart => true
  | .rhoRebuildDone _ => true
  | .windowRowRemap => true
  | .frameLaunch => true
  | .tickSend _ => true
  | .replayLaunch t bad => wfLane t && bad.all (fun u => decide (u < 17))
  | .ackTimeout t n => wfLane t && wfBits 40 n
  | .undoExpiry _ => true
  | .ackReceive t _ => wfLane t
  | .nakReceive t _ => wfLane t
  | .creditReceive t _ => wfLane t
  | .statusReceive t _ _ => wfLane t
  | .monitorReceive t _ => wfLane t
  | .capsReceive t _ => wfLane t
  | .latencyReceive t _ sub => wfLane t && decide (sub < 1000)
  | .marginReceive t _ => wfLane t
  | .trnStatReceive t _ _ => wfLane t
  | .testResultReceive t _ => wfLane t
  | .laneEnableWrite t _ => wfLane t
  | .laneRestart t _ => wfLane t
  | .laneRetrainRequest t _ => wfLane t
  | .laneTestWrite t _ => wfLane t
  | .receiverDetectProbe t _ => wfLane t
  | .bringupTimeout t => wfLane t
  | .configResend t => wfLane t
  | .latProbeSend t => wfLane t
  | .electricalIdleHoldEnd t => wfLane t
  | .laneLost t _ => wfLane t
  | .adaptCheckSend t own => wfLane t && wfBits 8 own
  | .retrainingSlotStart => true
  | .retrainingSlotEnd => true
  | .laneTestEnd t _ => wfLane t
  | .injectBit t _ => wfLane t
  | .injectBurst t _ => wfLane t
  | .injectCrc t _ => wfLane t
  | .p6DetectLimit t => wfLane t
  | .armPoint => true
  | .stripeEnd => true
  | .calibrationWindowStart => true
  | .calTick => true
  | .calibrationWindowEnd => true
  | .firstTickWrite seq _ => wfSeq seq
  | .syncReceive h _ _ => wfPtp h
  | .followUpReceive h _ => wfPtp h
  | .delayRespReceive h _ _ => wfPtp h
  | .announceReceive h _ => wfPtp h
  | .delayReqSend => true
  | .deferredStep => true
  | .announceReceiptTimeout => true
  | .syncTimeout => true
  | .portLinkDown p => decide (p < 3)
  | .timeIncWrite v => wfBits 32 v
  | .pulseTrainEdge u => decide (2 ≤ u) && decide (u < 8)
  | .tickOutPulse => true
  | .captureEdge c _ _ => decide (c < 4)
  | .captureTagRead who c => wfSrc who && decide (c < 4)
  | .latchedGroupRead who a => wfSrc who && wfBits 32 a
  | .stageReport src _ => wfSrc src
  | .dramRequestIssue sc fill _ arrivals =>
    decide (sc < 4) && wfBits 2 fill.demand && decide (fill.render ≤ 2 ^ 21) && decide (fill.pec ≤ 2 ^ 18) && arrivals.all wfReq
  | .dramRefetch _ => true
  | .targetedSelftestDone l _ => decide (l.kind < 8)
  | .ladleTimeout => true
  | .fenceComplete q => decide (q < 16)
  | .refreshDue sc => decide (sc < 4)
  | .activateWindow => true
  | .activateCountClear => true
  | .dramRetrainStart temps => decide (temps.length ≤ 4)
  | .dramRetrainDone runs _ => decide (runs.length ≤ 10) && runs.all (fun l => l.all wfRun)
  | .dramRepair bad _ unverified => bad.all (wfBits 6) && unverified.all (wfBits 6)
  | .whiskLine _ => true
  | .whiskTrimCheck _ _ => true
  | .regionWrite r size => decide (r < 9) && wfBits 16 size
  | .signatureFinal => true
  | .recordStreamAck src _ => wfSrc src
  | .recordStreamNak src _ => wfSrc src
  | .recordResendTimeout k => decide (k < 4)
  | .recordStreamIdleTimeout k => decide (k < 4)
  | .calCommit _ => true
  | .calAbort _ => true
  | .calHostOpen _ => true
  | .trimEntryWrite beam v => wfBits 18 beam && wfBits 32 v
  | .grantAssert _ => true
  | .grantRemove => true
  | .halyardInRise => true
  | .roleRefusedTimeout => true
  | .takeoverSettle => true
  | .helloSend => true
  | .helloReceive _ => true
  | .pairLinkTimeout => true
  | .tlogFixReceive _ => true
  | .tlogFinalReceive _ => true
  | .pairAckReceive _ => true
  | .trimReceive _ => true
  | .trimCommitReceive _ => true
  | .pointersReceive _ => true
  | .ctxReceive _ => true
  | .revertReqReceive _ => true
  | .handoverReceive _ => true
  | .syncCopyReceive _ => true
  | .activeRelease => true
  | .mirrorResendTimeout => true
  | .mirrorStallTimeout => true
  | .heartbeatEdge => true
  | .hkcRefreshTimeout => true
  | .feedGood feed mv => decide (feed < 2) && wfBits 16 mv
  | .feedLost feed mv => decide (feed < 2) && wfBits 16 mv
  | .pgLow feed => decide (feed < 2)
  | .brownOut => true
  | .standbySupplyLost => true
  | .resetNAssert _ _ => true
  | .resetRelease src _ => decide (1 ≤ src) && decide (src ≤ 11)
  | .thermalWarning _ => true
  | .thermalWarningClear _ => true
  | .thermalTrip _ => true
  | .watchdogExpiry => true
  | .engineReset key => wfBits 8 key
  | .warmReset key => wfBits 8 key
  | .blockReset blk lane => wfBits 8 blk && wfBits 6 lane
  | .pllLock => true
  | .fuseRead bad => wfBits 7 bad
  | .strapSampling bootsel clkmode ratio => wfBits 2 bootsel && wfBits 1 clkmode && wfBits 16 ratio
  | .optionLoading _ => true
  | .checkerSelftest failed => failed.all (wfBits 16)
  | .dramTraining runs _ temps => decide (runs.length ≤ 40) && runs.all (fun l => l.all wfRun) && decide (temps.length ≤ 4)
  | .laneBringupEnd => true
  | .phaseOverrun => true
  | .svcNvmEnN _ _ => true
  | .dmpRead src _ => wfSrc src
  | .dmpWrite src _ => wfSrc src
  | .readBlock src _ _ _ => wfSrc src
  | .loadJob src _ => wfSrc src
  | .endJob src _ => wfSrc src
  | .unloadJob src _ => wfSrc src
  | .subscribe src _ => wfSrc src
  | .unsubscribe src _ => wfSrc src
  | .opJobExposure src _ => wfSrc src
  | .opCalibrationSweep src _ => wfSrc src
  | .opNvmSnapshot src _ => wfSrc src
  | .snapshotDone _ => true
  | .opFullScrub src _ => wfSrc src
  | .opDramRetrain src _ => wfSrc src
  | .opLaneBerTest src _ => wfSrc src
  | .opSelfTest src _ => wfSrc src
  | .selfTestDone tested failed => wfBits 16 tested && failed.all (wfBits 16)
  | .opCheckpoint src _ => wfSrc src
  | .opSaveOut src _ => wfSrc src
  | .opRestore src _ => wfSrc src
  | .opFirmwareUpdate src _ => wfSrc src
  | .firmwareUpdateDone _ => true
  | .opSuspend src _ => wfSrc src
  | .opResume src _ => wfSrc src
  | .opCancel src _ => wfSrc src
  | .opCancelAbandon src _ => wfSrc src
  | .opStatus src _ => wfSrc src
  | .eventAck src _ => wfSrc src
  | .eventResend => true
  | .subscriberDrop => true
  | .evtAckAll _ => true
  | .hkcReconcile => true
  | .testInject target loc _ => wfBits 4 target && wfBits 32 loc
  | .mcastGroupWrite p _ g => decide (p < 2) && wfBits 128 g
  | .arpRequest p mac ip target => decide (p < 3) && wfBits 48 mac && wfBits 32 ip && wfBits 32 target
  | .neighbourSolicitation p mac src target => decide (p < 3) && wfBits 48 mac && wfBits 128 src && wfBits 128 target
  | .echoRequest src dst _ => wfSrc src && wfBits 128 dst
  | .multicastQuery p _ g => decide (p < 3) && wfBits 128 g
  | .otherFrame p => decide (p < 3)
  | .pairLinkBlockLockLoss => true
  | .portLinkUp p => decide (p < 3)
  | .smbusTransaction target cmd reg => wfBits 7 target && wfBits 8 cmd && wfBits 32 reg
  | .pgReleased feed => decide (feed < 2)
  | .unknownBackChannelBlock t hdr _ => wfLane t && decide (hdr < 4)
  | .badFcsFrame p => decide (p < 3)

end Sys2Proof
end

