-- ==== Sys2Proof/Tests/Slice0.lean ====
section
/-! SUPPORT. Tests: ill-formed commands are refused, single steps on small states, and for every statement with hypotheses a state
and operands that meet them all. -/

namespace Sys2Proof.Tests

open Sys2Proof Sys2Proof.Machine

set_option Elab.async false
set_option linter.unusedVariables false

/-! ### Small states -/

/-- Ports 0, 1 and 2 up, the PHASE and role as given. -/
def up (l : List (Fld × Nat)) : State :=
  State.reset.wrs ([(Reg.PORT_STATUS.link_up 0, 1), (Reg.PORT_STATUS.link_up 1, 1), (Reg.PORT_STATUS.link_up 2, 1),
    (Reg.RCU_PHASE.phase, 8)] ++ l)

def host : Src := ⟨0, false, 0x0A000001, 5000, 7⟩

/-- Stream 3 open with ack base 5, window 128, job 9. -/
def open3 : DstStream := { DstStream.closed with opened := true, typ := 1, decTyp := 1, job := 9, synSeq := 4, ackA := 5, peer := host }

def seg (typ flags seq : Nat) (p : Bytes) : DstSeg := ⟨typ, 3, flags, seq, if typ = 1 then p.length else 0, 9, 0, 77, p⟩

/-- A descriptor of stripe 0, and the stripe it makes. -/
def desc0 : Desc := ⟨0, 0, 0, 0, 0, 0, 99, 800, 64, false, false, false⟩

def stripe0 (st : StripeSt) : Stripe := newStripe desc0 st 3 4096

/-- A state with stripe 0 and the streams as given. -/
def withStripe (x : Stripe) : State := { up [(Reg.GLOBAL_JOB.state, jobArmed)] with sieve := ⟨[x], [], [], []⟩ }

/-- The bytes of a descriptor of a stripe of job 0. -/
def rawOf (seq : Nat) : Bytes :=
  toBE 4 0x53440001 ++ toBE 4 0 ++ toBE 3 seq ++ toBE 1 0 ++ toBE 3 0 ++ toBE 1 0 ++ toBE 2 0 ++ toBE 2 0 ++ toBE 4 0 ++ toBE 1 0 ++
    toBE 3 99 ++ toBE 2 0 ++ toBE 2 800 ++ toBE 4 64 ++ zeros 28

def hdr0 : DcfHdr := { parseDcf [] with typ := 4, histReset := true, bandId := 0 }

def held0 (seq : Nat) (due : Option Nat) : HeldDesc := ⟨3, rawOf seq, hdr0, seq, due⟩

/-- An unfinished operation in slot 0. -/
def op0 (kind arg pos : Nat) (image : Bytes) : LongOp := ⟨1, kind, .running, 0, 0, 0, arg, pos, false, image⟩

/-- A valid image of stream 3: an empty history, between chunks. -/
def area3 : Bytes := padTo 1020 (toBE 4 0x43585431 ++ [3#8])

def image3 : Bytes := (zeros 32768 ++ area3) ++ toBE 4 (crc32c (zeros 32768 ++ area3))

/-- The header of the image's chunk, stored raw, and the chunk. -/
def slotHdr3 (crc : Nat) : DcfHdr :=
  { magic := 0x44434631, seq := 0, stream := 3, typ := 7, final := true, histReset := true, dyn := false, fixed := false, raw := true,
    rawSize := 33792, compSize := 33792, bandId := 0, crc := crc, reservedOk := true }

def chunk3 : Bytes := dcfBytes (slotHdr3 (crc32c image3)) ++ image3

/-- Stream 3 closed, with a checkpoint. -/
def saved3 : DstStream := { DstStream.closed with checkpoint := some ⟨chunk3, [], true⟩ }



/-- Two stripes side by side in slots 0 and 1; the second is exposed, with its map and its band. -/
def wide0 : Stripe := newStripe { desc0 with slotsM1 := 1 } .pending 3 4096

def side1 : Stripe :=
  { newStripe { desc0 with seq := 1, slot := 1, slotsM1 := 1 } .exposing 3 4096 with rawSum := 9, densDone := [0] }

def withOp (o : LongOp) (s : State) : State := { s with ops := { s.ops with slots := [o] } }

/-- The latch of an armed stripe, dry (1) or not (0), and a stripe in progress: fixed, computed and launched ticks. -/
def lat0 (mode : Nat) : ArmLatch := ⟨2, 200, true, mode, 0, 0, 2, [], []⟩

def going (mode fixed computed launched : Nat) : Stripe :=
  { stripe0 .exposing with latch := some (lat0 mode), nFirst := 7, fixed := fixed, computed := computed, launched := launched }

/-- A state in which the stripe of number 0 is in progress, with a tick log. -/
def running0 (x : Stripe) (l : List TickEntry) : State :=
  { withStripe x with shot := { (up []).shot with tlog := l } }.wr Reg.GLOBAL_JOB.state jobExposing

/-- A stripe with 5,000 ticks computed, its first column all live. -/
def live0 : Stripe :=
  { going 0 5000 5000 0 with latch := some { lat0 0 with cols := [{ ColEntry.empty with states := List.replicate 32 0 }] } }

def tick0 : TickEntry := newTick 7 0 0 0 800

/-- Every block blanked, every lane resolved but the first. -/
def dark0 : TickEntry := { tick0 with dk1 := 2 ^ 1024 - 1 }

/-- A fitted lane in a state, with what the link keeps of it. -/
def laneAt (t st : Nat) (l : Lane) (rs : List (Fld × Nat)) : State := (up ((Reg.LANE_STATE.state t, st) :: rs)).setLane t l

/-- What lane 5 keeps of tick 7: block 2 is a candidate for replay. -/
def rep7 : ReplayTick := ⟨7, 0, 4, 0, List.replicate 17 0, List.replicate 17 0, 100000, false, zeros 32⟩

/-- Tick 7 launched; TICK not yet sent. -/
def inFlight (x : Stripe) (l : Lane) : State :=
  ((running0 x [{ tick0 with launched := true, sent := 2 ^ 5, time := 100000 }]).wr (Reg.LANE_STATE.state 5) lnActive).setLane 5 l

/-- Stripe 0 admitted, prerolled, with a first tick in the future. -/
def ready0 : Stripe := { stripe0 .admitted with firstTick := some 5000000, fParams := some { PecParams.init with mode := 0 } }

/-- A job with stripe 0 and its exposure done: every tick launched. -/
def ended0 : Stripe := { going 0 8274 8274 8274 with st := .done, t0 := 0 }

/-- A calibration window of one beam and one shot. -/
def win0 : CalWindow := ⟨0, 800, 100, 1, 200, 64, 5, 100, 10, 1, 0, 0, [], [], false, none⟩

/-- A PTP header of the current master on the stage port, and a state that follows it. -/
def ptph (q : Nat) : PtpHdr := ⟨2, 0, 0, 0xABCD, 1, q, 0, 0⟩

def slaved (p : PtpState) : State :=
  { up [(Reg.TIME_CTRL.port, 2), (Reg.TIME_CTRL.transport, 0), (Reg.TIME_CTRL.domain, 0)] with ptp := { p with master := some (0xABCD * 65536 + 1) } }

def stageSrc : Src := ⟨2, false, 0x0A000009, 5000, 7⟩

/-- A sound stage report. -/
def rep40 : Bytes :=
  let m := toBE 1 1 ++ toBE 1 0 ++ toBE 2 9 ++ toBE 6 0 ++ toBE 4 500 ++ zeros 22
  m ++ toBE 4 (crc32c m)

/-- A whole-line write of region 6, a read of it, and a write of its first byte. -/
def req0 (wr : Bool) (mask : Nat) : DramReq := ⟨1, 2, wr, 40, mask, 5, 6, 0, false, false, 0, []⟩

def dramOf (d : DramState) (l : List (Fld × Nat)) : State := { up ((Reg.DMC_STATUS.ready, 1) :: l) with dram := d }

/-- Stripe 0 over after one tick, its entry in the spool of region 7. -/
def over0 (rec : Nat) : Stripe :=
  { going 0 1 1 1 with st := .done, truncated := true, latch := some { lat0 0 with recMode := rec } }

def overState (rec : Nat) : State :=
  { running0 (over0 rec) [] with check := { CheckState.init with tlogSpool := [{ dark0 with launched := true, final := true }] } }

/-- Record stream 2 attached to the host with one segment outstanding. -/
def attached2 : State :=
  (up []).setRecStream 2 { RecStream.init with peer := some host, ackA := 7, nextSeq := 8, window := 128, sent := [(7, 0, [1#8], true)] }

def recSeg (typ a win : Nat) (bits : List Nat) : DstSeg := ⟨typ, 2, 0, 0, a, 0, win, 0, bitmapBytes a bits⟩

/-- A module of a pair in a role, its link up or not. -/
def paired (role link : Nat) (p : PairState) (l : List (Fld × Nat)) : State :=
  { up ([(Reg.PAIR_STATUS.role, role), (Reg.PAIR_STATUS.link_up, link)] ++ l) with pair := p }

/-- No lane enabled. -/
def noLanes : List (Fld × Nat) := (List.range 64).map (fun t => (Reg.LANE_CTRL.enable t, 0))

/-- A standby that follows a stripe in progress. -/
def following : State :=
  { withStripe (going 0 0 0 0) with pair := PairState.init }.wrs [(Reg.PAIR_STATUS.role, roleStandby), (Reg.PAIR_STATUS.link_up, 1)]

def frame0 (gen : Nat) (body : PairBody) : PairFrame := ⟨false, 0, gen, 0, body⟩

/-- A module that is powered and stands in a start-up phase; one that is ready. -/
def phase0 (p : Nat) (pw : PowerState) (l : List (Fld × Nat)) : State :=
  { State.reset.wrs ((Reg.RCU_PHASE.phase, p) :: l) with power := { pw with standby := true } }

def ready8 (l : List (Fld × Nat)) : State := phase0 8 PowerState.init l

/-- An image with a body of 64 zero bytes: the first 60 bytes of its header, and the image. -/
def bootHdr : Bytes :=
  toBE 4 0x44494D31 ++ toBE 4 41 ++ [3, 0, 0x12, 0x34] ++ toBE 4 64 ++ toBE 4 0 ++ toBE 4 (crc32c (zeros 64)) ++ zeros 36

def bootImg : Bytes := bootHdr ++ toBE 4 (crc32c bootHdr) ++ zeros 64

/-- P3 of a power-on, begun, with the image in slot B. -/
def boot3 (l : List (Fld × Nat)) : State :=
  phase0 3 { PowerState.init with running := 4, p3Begun := true, nvm := tabSetRange 0xFF#8 [] 0x1000000 bootImg } l

/-- A DMP request as a host sends it. -/
def ask (op seq handle : Nat) (p : Bytes) : Bytes := dmpMsg op seq handle 0 0 p

def askq (op seq handle : Nat) (p : Bytes) : DmpReq := ⟨op, seq, handle, 0, 0, p⟩

/-- A chunk image of 64 bytes of body for firmware slots, variant DK1-262. -/
def fwImage : Bytes :=
  let body := zeros 64
  let h := toBE 4 0x44494D31 ++ toBE 4 0 ++ toBE 1 1 ++ toBE 3 0 ++ toBE 4 64 ++ toBE 4 0 ++ toBE 4 (crc32c body) ++ zeros 36
  h ++ toBE 4 (crc32c h) ++ body

/-- A host that subscribes, and an event entry. -/
def sub0 (acked : Nat) : Subscriber := ⟨host, acked, 0, 0⟩

def evt0 (index code : Nat) : EvtEntry := { index := index, sec := 0, ns := 0, code := code, tick := 0, seq := 0, data := [] }

def told (subs : List Subscriber) (ring : List EvtEntry) (l : List (Fld × Nat)) : State :=
  { up l with evt := { EvtState.init with subs := subs, ring := ring } }

/-- A good segment of line 0 in the dose window. -/
def injSeg : WinSeg := ⟨[3], segCheck (going 0 0 0 0).d.seq 0 0 0 [3]⟩

theorem parse_good (z a : Bytes) (hz : z.length = 32768) (ha : a.length = 1020)
    (hg : ∀ x, beAt (a ++ x) 0 4 = 0x43585431 ∧ byteAt (a ++ x) 4 = 3 ∧ byteAt (a ++ x) 5 = 0) :
    ∃ c, parseImage 3 ((z ++ a) ++ toBE 4 (crc32c (z ++ a))) = some c := by
  have hd : ((z ++ a) ++ toBE 4 (crc32c (z ++ a))).drop 32768 = a ++ toBE 4 (crc32c (z ++ a)) := by
    rw [List.append_assoc, List.drop_append_of_le_length (by omega), List.drop_of_length_le (by omega), List.nil_append]
  have ht : ((z ++ a) ++ toBE 4 (crc32c (z ++ a))).take 33788 = z ++ a := by
    have : (z ++ a).length = 33788 := by rw [List.length_append]; omega
    rw [List.take_append_of_le_length (by omega), List.take_of_length_le (by omega)]
  have hl : ((z ++ a) ++ toBE 4 (crc32c (z ++ a))).length = 33792 := by
    rw [List.length_append, List.length_append, toBE_length]; omega
  have hc : beAt (a ++ toBE 4 (crc32c (z ++ a))) 1020 4 = crc32c (z ++ a) := by
    unfold beAt sub
    rw [List.drop_append_of_le_length (by omega), List.drop_of_length_le (by omega), List.nil_append,
      List.take_of_length_le (Nat.le_of_eq (toBE_length _ _)), beNat_toBE]
    exact Nat.mod_eq_of_lt (crc32c_lt _)
  obtain ⟨h0, h4, h5⟩ := hg (toBE 4 (crc32c (z ++ a)))
  unfold parseImage
  rw [hd, ht, hl]
  dsimp only
  rw [hc, h0, h4, h5, if_neg (by simp)]
  exact ⟨_, rfl⟩

theorem area3_good (x : Bytes) : beAt (area3 ++ x) 0 4 = 0x43585431 ∧ byteAt (area3 ++ x) 4 = 3 ∧ byteAt (area3 ++ x) 5 = 0 := by
  refine ⟨?_, ?_, ?_⟩ <;> rfl

theorem image3_good : ∃ c, parseImage 3 image3 = some c :=
  parse_good _ _ List.length_replicate (by decide +kernel) area3_good

/-- The header without its crc. -/
def head28 : Bytes := (dcfBytes (slotHdr3 0)).take 28

theorem dcf_head (c : Nat) : dcfBytes (slotHdr3 c) = head28 ++ toBE 4 c := by
  unfold dcfBytes
  have h : head28 = toBE 4 0x44434631 ++ toBE 4 (slotHdr3 c).seq ++ toBE 1 (slotHdr3 c).stream ++ toBE 1 (slotHdr3 c).typ ++
    toBE 1 (b2n (slotHdr3 c).final * 16 + b2n (slotHdr3 c).histReset * 8 + b2n (slotHdr3 c).dyn * 4 + b2n (slotHdr3 c).fixed * 2 + b2n (slotHdr3 c).raw) ++ toBE 1 0 ++
    toBE 4 (slotHdr3 c).rawSize ++ toBE 4 (slotHdr3 c).compSize ++ toBE 8 (slotHdr3 c).bandId := by
    simp only [slotHdr3]; decide +kernel
  rw [h]; rfl

theorem beAt_left (a b : Bytes) (i n : Nat) (h : i + n ≤ a.length) : beAt (a ++ b) i n = beAt a i n := by
  unfold beAt sub
  rw [List.drop_append_of_le_length (by omega), List.take_append_of_le_length (by rw [List.length_drop]; omega)]

theorem byteAt_left (a b : Bytes) (i : Nat) (h : i < a.length) : byteAt (a ++ b) i = byteAt a i := by
  unfold byteAt
  rw [List.getD_eq_getElem?_getD, List.getD_eq_getElem?_getD, List.getElem?_append_left h]

theorem head3 (c : Nat) (p : Bytes) (hc : c < 2 ^ 32) : parseDcf (dcfBytes (slotHdr3 c) ++ p) = slotHdr3 c := by
  have hl : head28.length = 28 := by decide +kernel
  have h : beAt (dcfBytes (slotHdr3 c) ++ p) 28 4 = c := by
    rw [dcf_head]
    unfold beAt sub
    rw [List.append_assoc, List.drop_append_of_le_length (by omega), List.drop_of_length_le (by omega), List.nil_append,
      List.take_append_of_le_length (Nat.le_of_eq (toBE_length 4 c).symm), List.take_of_length_le (Nat.le_of_eq (toBE_length _ _)), beNat_toBE, Nat.mod_eq_of_lt (by omega)]
  unfold parseDcf
  rw [h, dcf_head, List.append_assoc]
  simp only [beAt_left head28 _ _ _ (show 0 + 4 ≤ _ by omega), beAt_left head28 _ 4 4 (by omega), beAt_left head28 _ 12 4 (by omega), beAt_left head28 _ 16 4 (by omega), beAt_left head28 _ 20 8 (by omega), beAt_left head28 _ 20 3 (by omega),
    byteAt_left head28 _ 8 (by omega), byteAt_left head28 _ 9 (by omega), byteAt_left head28 _ 10 (by omega), byteAt_left head28 _ 11 (by omega)]
  simp only [show beAt head28 0 4 = 0x44434631 by decide +kernel, show beAt head28 4 4 = 0 by decide +kernel,
    show byteAt head28 8 = 3 by decide +kernel, show byteAt head28 9 = 7 by decide +kernel, show byteAt head28 10 = 25 by decide +kernel,
    show beAt head28 12 4 = 33792 by decide +kernel, show beAt head28 16 4 = 33792 by decide +kernel,
    show beAt head28 20 8 = 0 by decide +kernel, show byteAt head28 11 = 0 by decide +kernel, show beAt head28 20 3 = 0 by decide +kernel]
  rfl


theorem env_ok (c : Nat) : envelopeOk (slotHdr3 c) (slotHdr3 c).stream (slotHdr3 c).seq = true := by
  simp [envelopeOk, slotHdr3]

theorem len_hdr (c : Nat) : (dcfBytes (slotHdr3 c)).length = 32 := by
  rw [dcf_head, List.length_append, toBE_length, show head28.length = 28 by decide +kernel]

theorem payload_raw (c : Nat) (img : Bytes) : unpackPayload (slotHdr3 c) img = some img := by
  simp [unpackPayload, slotHdr3]

theorem unpack_of (b img : Bytes) (h : DcfHdr) (hp : parseDcf b = h) (hn : b.length = 32 + h.compSize) (ht : h.typ = 7)
    (he : envelopeOk h h.stream h.seq = true) (hu : unpackPayload h (b.drop 32) = some img) (hc : crc32c img = h.crc) :
    unpackChunk b = some img := by
  subst hp
  have hg : ¬ (b.length < 32 ∨ (parseDcf b).typ ≠ 7 ∨ envelopeOk (parseDcf b) (parseDcf b).stream (parseDcf b).seq = false ∨
      b.length ≠ 32 + (parseDcf b).compSize) := by
    rintro (h | h | h | h)
    · omega
    · exact h ht
    · rw [he] at h; exact absurd h (by decide)
    · exact h hn
  unfold unpackChunk
  dsimp only
  rw [if_neg hg, hu]
  dsimp only
  rw [if_pos hc]

theorem unpack_raw (img : Bytes) (hl : img.length = 33792) :
    unpackChunk (dcfBytes (slotHdr3 (crc32c img)) ++ img) = some img := by
  have hd : (dcfBytes (slotHdr3 (crc32c img)) ++ img).drop 32 = img := by
    rw [List.drop_append_of_le_length (Nat.le_of_eq (len_hdr _).symm), List.drop_of_length_le (Nat.le_of_eq (len_hdr _)), List.nil_append]
  have hn : (dcfBytes (slotHdr3 (crc32c img)) ++ img).length = 32 + (slotHdr3 (crc32c img)).compSize := by
    rw [List.length_append, hl, len_hdr]; rfl
  refine unpack_of _ _ _ (head3 (crc32c img) img (crc32c_lt _)) hn rfl (env_ok _) ?_ rfl
  rw [hd]
  exact payload_raw _ _

theorem image3_length : image3.length = 33792 := by
  have hz : (zeros 32768).length = 32768 := List.length_replicate
  have ha : area3.length = 1020 := by decide +kernel
  unfold image3
  rw [List.length_append, List.length_append, toBE_length, hz, ha]

theorem chunk3_good : ∃ c, (unpackChunk chunk3).bind (parseImage 3) = some c := by
  obtain ⟨c, h⟩ := image3_good
  exact ⟨c, by unfold chunk3; rw [unpack_raw _ image3_length, Option.bind_some]; exact h⟩

theorem restorable_of (s : State) (i : Nat) (x : DstStream) (sl : SaveSlot) (c : Ctx) (hx : s.stream i = x) (h1 : x.opened = false)
    (h2 : x.slot = some sl) (h3 : sl.good = true) (h4 : (unpackChunk sl.chunk).bind (parseImage i) = some c) :
    s.restorable i = some { c with staged := sl.staged } := by
  unfold State.restorable
  rw [hx]
  simp [h1, h2, h3, h4]

/-! ### Ill-formed commands are refused, one for each check -/

def ptp0 : PtpHdr := ⟨0, 1, 0, 0, 0, 0, 0, 0⟩
def dreq0 : DramReq := ⟨0, 0, false, 0, 0, 0, 0, 0, false, false, 0, []⟩
def fill0 : PortFill := ⟨0, 0, 0, false⟩

theorem test_wf_good : (Instr.dstData host []).wf = true ∧ (Instr.syncReceive ptp0 true ⟨0, 0⟩).wf = true ∧
    (Instr.dramRequestIssue 0 fill0 .good [dreq0]).wf = true := by decide +kernel
theorem test_wf_stream : (Instr.ackIdleTimeout 16).wf = false := by decide +kernel
theorem test_wf_lane : (Instr.replayLaunch 64 []).wf = false := by decide +kernel
theorem test_wf_seq : (Instr.stripeAdmit (2 ^ 24) []).wf = false := by decide +kernel
theorem test_wf_src_port : (Instr.dstData { host with iface := 3 } []).wf = false := by decide +kernel
theorem test_wf_src_v4 : (Instr.dstData { host with addr := 2 ^ 32 } []).wf = false := by decide +kernel
theorem test_wf_src_v6 : (Instr.dstData { host with v6 := true, addr := 2 ^ 128 } []).wf = false := by decide +kernel
theorem test_wf_src_udp : (Instr.dstData { host with udp := 65536 } []).wf = false := by decide +kernel
theorem test_wf_src_mac : (Instr.dstData { host with mac := 2 ^ 48 } []).wf = false := by decide +kernel
theorem test_wf_bits : (Instr.engineReset 256).wf = false := by decide +kernel
theorem test_wf_ptp_port : (Instr.delayRespReceive { ptp0 with iface := 3 } true ⟨0, 0⟩).wf = false := by decide +kernel
theorem test_wf_ptp_transport : (Instr.syncReceive { ptp0 with transport := 3 } true ⟨0, 0⟩).wf = false := by decide +kernel
theorem test_wf_ptp_clock : (Instr.syncReceive { ptp0 with clock := 2 ^ 64 } true ⟨0, 0⟩).wf = false := by decide +kernel
theorem test_wf_req_class : (Instr.dramRequestIssue 0 fill0 .good [{ dreq0 with cls := 5 }]).wf = false := by decide +kernel
theorem test_wf_req_line : (Instr.dramRequestIssue 0 fill0 .good [{ dreq0 with line := 2 ^ 30 }]).wf = false := by decide +kernel
theorem test_wf_req_region : (Instr.dramRequestIssue 0 fill0 .good [{ dreq0 with region := 9 }]).wf = false := by decide +kernel
theorem test_wf_segment : (Instr.recordChunkCompress 0 32).wf = false := by decide +kernel
theorem test_wf_slice : (Instr.rerenderDone 16 true).wf = false := by decide +kernel
theorem test_wf_latency : (Instr.latencyReceive 0 [] 1000).wf = false := by decide +kernel
theorem test_wf_unit : (Instr.replayLaunch 0 [17]).wf = false := by decide +kernel
theorem test_wf_port : (Instr.otherFrame 3).wf = false := by decide +kernel
theorem test_wf_host_port : (Instr.mcastGroupWrite 2 false 0).wf = false := by decide +kernel
theorem test_wf_pulse : (Instr.pulseTrainEdge 1).wf = false ∧ (Instr.pulseTrainEdge 8).wf = false := by decide +kernel
theorem test_wf_capture : (Instr.captureTagRead host 4).wf = false := by decide +kernel
theorem test_wf_subchannel : (Instr.refreshDue 4).wf = false := by decide +kernel
theorem test_wf_location : (Instr.targetedSelftestDone ⟨8, 0⟩ true).wf = false := by decide +kernel
theorem test_wf_fence : (Instr.fenceComplete 16).wf = false := by decide +kernel
theorem test_wf_run : (Instr.dramRetrainDone [[(32, 0, 1)]] true).wf = false := by decide +kernel
theorem test_wf_region : (Instr.regionWrite 9 0).wf = false := by decide +kernel
theorem test_wf_record : (Instr.recordResendTimeout 4).wf = false := by decide +kernel
theorem test_wf_feed : (Instr.pgLow 2).wf = false := by decide +kernel
theorem test_wf_source : (Instr.resetRelease 0 0).wf = false ∧ (Instr.resetRelease 12 0).wf = false := by decide +kernel
theorem test_wf_training : (Instr.dramTraining [[(0, 127, 2)]] [] []).wf = false := by decide +kernel
theorem test_wf_header : (Instr.unknownBackChannelBlock 0 4 []).wf = false := by decide +kernel

/-! ### The spec's own worked examples -/

def nine : Bytes := [0x31#8, 0x32#8, 0x33#8, 0x34#8, 0x35#8, 0x36#8, 0x37#8, 0x38#8, 0x39#8]

/-- Table 11.3. -/
theorem test_crc16_vector : crc16 nine = 0x29B1 := by decide +kernel
theorem test_crc32c_vector : crc32c nine = 0xE3069283 := by decide +kernel
theorem test_crc64_vector : crc64 nine = 0x62EC59E3F1A4F00A := by decide +kernel

/-- Table 1.3: passes 0, 1, 15 and 31 of pixel (5,003, 40,000), forward: row, beam, tile, stripe tick; and pass 0 in reverse. -/
theorem test_passes_forward : [0, 1, 15, 31].map (fun k => (passRow 0 5003 k, passBeam 0 0 5003 k, tileOf (passBeam 0 0 5003 k),
    passTick 0 80000 5003 40000 k)) = [(11, 5944, 1, 40176), (27, 14136, 3, 40432), (251, 128824, 31, 44016), (507, 259896, 63, 48112)] := by
  decide +kernel
theorem test_pass_reverse : passRow 1 5003 0 = 507 ∧ passTick 1 80000 5003 40000 0 = 40063 ∧ nominalY 1 80000 40063 507 = 40000 := by
  decide +kernel

/-- Ch. 10, placing one line: A = 0x3_2A5C_9F40. -/
theorem test_place : State.reset.placeOf (0x32A5C9F40 / 64) = ⟨2, 5 * 4 + 1, 25931, 36⟩ := by decide +kernel

/-- Ch. 4, flattening one QUAD: 32 edges, and points 1 and 16 of them. -/
theorem test_quad : quadSteps (quadD 1000 0 1160 80 1240 300) = 32 ∧ quadPoint 32 1000 1160 1240 1 = 16159 ∧
    quadPoint 32 0 80 300 1 = 82 ∧ quadPoint 32 1000 1160 1240 16 = 18240 ∧ quadPoint 32 0 80 300 16 = 1840 := by decide +kernel

/-- Ch. 2, edge events on one line: 1, 4 and 1 in slices 2, 3 and 4. -/
theorem test_edge_events : [2, 3, 4].map (edgeCount 0 ([Prim.rect 24000 40000 0 4096, .trap 100 300 26000 30000 25000 31600,
    .poly [(32000, 150), (33000, 150), (32500, 170)]].flatMap primEvEdges) 10) = [1, 4, 1] := by decide +kernel

/-- Ch. 6, one titanium pixel: target, shares of ranks 13 and 14, accounted doses at G = 0x7400. -/
theorem test_shares : target 1044480 3584 200 = 89600 ∧ share 89600 3570 28 13 = 3073 ∧ share 89600 3570 28 14 = 3072 ∧
    accDose 212 0x7400 = 3074 ∧ accDose 211 0x7400 = 3060 ∧ accDose 255 28672 = 3570 := by decide +kernel

/-- Ch. 12, one titanium beam: seven readings with the sum 184,800 at code 192 give G_meas 30,037; beam 5,944 has rank 3,612. -/
theorem test_gain_measured : gMeas 0 192 0x00DA740D [26400, 26400, 26400, 26400, 26400, 26400, 26400] = 30037 ∧
    4096 * 1 + offsetOfRank 3612 = 5944 := by decide +kernel

/-- Table 2.2, R45: serial arithmetic wraps. -/
theorem test_serial : serialBefore 32 0xFFFFFFFF 3 = true ∧ serialBefore 32 3 0xFFFFFFFF = false := by decide +kernel

/-! ### Single steps -/

/-- R417: an unassigned address refuses a READ. -/
theorem test_unassigned : rangeStatus 0x20 2 = 2 ∧ rangeStatus 0x22 1 = 1 ∧ rangeStatus 0x10000 2 = 0 := by decide +kernel

/-- R256: a write below the least period stores the least. -/
theorem test_limited : limited (Reg.TIME_PULSE_PERIOD.period_ns 2) 5 = 20 ∧ limited Reg.PEC_F_BASE.f_base 5 = 0x100 := by decide +kernel

/-- R387: a warm reset with another key changes no register. -/
theorem test_bad_key : (match exec (.warmReset 0x5A) (up []) with
    | .next t => decide (t.regs = (up []).regs)
    | _ => false) = true := by decide +kernel

/-- R396: a step with LOAD_JOB in front leaves the job LOADING with its ID. -/
theorem test_load_job : (match step { up [(Reg.DMC_STATUS.ready, 1)] with
      pending := [.loadJob host (ask 4 7 0 (toBE 2 1 ++ toBE 2 0 ++ toBE 4 9))] } with
    | .next t => (t.jobSt, t.rd Reg.GLOBAL_JOB_ID.job, t.pending.length)
    | _ => (9, 9, 9)) = (1, 9, 0) := by decide +kernel


/-! ### Witnesses of the statements -/

/-- Clauses 1, 2. -/
theorem wit_DstDataIsTakenInsideTheWindowOnly :
    (∃ (s : State) (src : Src) (b : Bytes) (g : DstSeg),
      (Heard s src b.length) ∧
      (parseDst jobTypes b = .seg g) ∧
      (s.wrongJob g = false) ∧
      (s.codec.streams.length = 16) ∧
      (g.typ = 1) ∧
      ((s.stream g.stream).opened = true) ∧
      (serialDiff 32 (s.stream g.stream).ackA g.seq < (s.stream g.stream).win) ∧
      (∀ e ∈ (s.stream g.stream).held, e.1 ≠ g.seq)) ∧
    (∃ (s : State) (src : Src) (b : Bytes) (g : DstSeg),
      (Heard s src b.length) ∧
      (parseDst jobTypes b = .seg g) ∧
      (s.wrongJob g = false) ∧
      (s.codec.streams.length = 16) ∧
      (g.typ = 1) ∧
      ((s.stream g.stream).opened = true) ∧
      ((s.stream g.stream).win ≤ serialDiff 32 (s.stream g.stream).ackA g.seq ∨ ∃ e ∈ (s.stream g.stream).held, e.1 = g.seq)) :=
  ⟨⟨((up []).setStream 3 open3), (host), (dstBytes (seg 1 3 5 [1#8, 2#8])), (seg 1 3 5 [1#8, 2#8]), by decide +kernel⟩,
   ⟨((up []).setStream 3 open3), (host), (dstBytes (seg 1 0 4 [1#8])), (seg 1 0 4 [1#8]), by decide +kernel⟩⟩

/-- Clauses 1, 2, 3, 4. -/
theorem wit_DstSegmentsTurnedAway :
    (∃ (s : State) (src : Src) (b : Bytes),
      (Heard s src b.length) ∧
      (parseDst jobTypes b = .malformed)) ∧
    (∃ (s : State) (src : Src) (b : Bytes) (g : DstSeg),
      (Heard s src b.length) ∧
      (parseDst jobTypes b = .seg g) ∧
      (g.typ = 1) ∧
      (s.wrongJob g = true) ∧
      ((s.stream g.stream).lastJobDrop = some s.now)) ∧
    (∃ (s : State) (src : Src) (b : Bytes) (g : DstSeg),
      (Heard s src b.length) ∧
      (parseDst jobTypes b = .seg g) ∧
      (g.typ = 1) ∧
      (s.wrongJob g = true) ∧
      ((s.stream g.stream).lastJobDrop = none)) ∧
    (∃ (s : State) (src : Src) (b : Bytes) (g : DstSeg),
      (Heard s src b.length) ∧
      (parseDst jobTypes b = .seg g) ∧
      (g.typ = 1) ∧
      (s.wrongJob g = false) ∧
      ((s.stream g.stream).opened = false)) :=
  ⟨⟨(up []), (host), (zeros 30), by decide +kernel⟩,
   ⟨((up []).setStream 3 { open3 with lastJobDrop := some 0 }), (host), (dstBytes { seg 1 0 5 [] with job := 8 }), ({ seg 1 0 5 [] with job := 8 }), by decide +kernel⟩,
   ⟨((up []).setStream 3 open3), (host), (dstBytes { seg 1 0 5 [] with job := 8 }), ({ seg 1 0 5 [] with job := 8 }), by decide +kernel⟩,
   ⟨(up []), (host), (dstBytes (seg 1 0 5 [])), (seg 1 0 5 []), by decide +kernel⟩⟩

/-- Clauses 1, 2. -/
theorem wit_DstSyncOpensAndFinCloses :
    (∃ (s : State) (src : Src) (b : Bytes) (g : DstSeg),
      (Heard s src b.length) ∧
      (parseDst jobTypes b = .seg g) ∧
      (s.wrongJob g = false) ∧
      (s.codec.streams.length = 16) ∧
      (g.typ = 4) ∧
      ((s.stream g.stream).opened = false)) ∧
    (∃ (s : State) (src : Src) (b : Bytes) (g : DstSeg),
      (Heard s src b.length) ∧
      (parseDst jobTypes b = .seg g) ∧
      (s.wrongJob g = false) ∧
      (s.codec.streams.length = 16) ∧
      (g.typ = 5) ∧
      ((s.stream g.stream).opened = true) ∧
      (g.seq = (s.stream g.stream).ackA)) :=
  ⟨⟨(up []), (host), (dstBytes (seg 4 0 9 [1#8, 0#8, 0#8, 0#8])), (seg 4 0 9 [1#8, 0#8, 0#8, 0#8]), by decide +kernel⟩,
   ⟨((up []).setStream 3 open3), (host), (dstBytes (seg 5 0 5 [])), (seg 5 0 5 []), by decide +kernel⟩⟩

/-- Clauses 1, 2, 3, 4. -/
theorem wit_DstTimersAcknowledge :
    (∃ (s : State) (i : Nat) (since : Nat),
      (i < 16) ∧
      (s.codec.streams.length = 16) ∧
      ((s.stream i).opened = true) ∧
      ((s.stream i).oldestUnacked = some since) ∧
      (since + 1000 * s.rd (Reg.PORT_DST_CTRL.ack_idle_us (s.stream i).peer.iface) ≤ s.now)) ∧
    (∃ (s : State) (i : Nat) (since : Nat),
      (i < 16) ∧
      (s.codec.streams.length = 16) ∧
      ((s.stream i).opened = true) ∧
      ((s.stream i).reorder = some since) ∧
      ((s.stream i).lastNak = none) ∧
      (since + 1000 * s.rd (Reg.PORT_DST_CTRL.reorder_us (s.stream i).peer.iface) ≤ s.now)) ∧
    (∃ (s : State) (i : Nat) (since : Nat),
      (i < 16) ∧
      (s.codec.streams.length = 16) ∧
      ((s.stream i).opened = true) ∧
      ((s.stream i).lastNak = some ((s.stream i).ackA, since)) ∧
      ((s.stream i).held ≠ []) ∧
      (since + 200000 ≤ s.now)) ∧
    (∃ (s : State) (i : Nat),
      (i < 16) ∧
      (s.codec.streams.length = 16) ∧
      ((s.stream i).opened = true) ∧
      ((s.stream i).win = 0) ∧
      (0 < s.windowOf (s.stream i))) :=
  ⟨⟨({ (up []).setStream 3 { open3 with oldestUnacked := some 0 } with now := 1000000 }), (3), (0), by decide +kernel⟩,
   ⟨({ (up []).setStream 3 { open3 with reorder := some 0, held := [(6, false, [])] } with now := 1000000 }), (3), (0), by decide +kernel⟩,
   ⟨({ (up []).setStream 3 { open3 with lastNak := some (5, 0), held := [(6, false, [])] } with now := 1000000 }), (3), (0), by decide +kernel⟩,
   ⟨({ (up []).setStream 3 { open3 with win := 0 } with now := 1000000 }), (3), by decide +kernel⟩⟩

/-- Clauses 1, 2, 3. -/
theorem wit_DecodeEngineTakesItsStream :
    (∃ (s : State) (i : Nat) (data : Bytes),
      (s.codec.streams.length = 16) ∧
      (s.nextStream = some i) ∧
      ((s.stream i).inChunk = false) ∧
      ((s.stream i).skipping = false) ∧
      ((s.stream i).cur = []) ∧
      (s.opOfKind 8 = none) ∧
      (s.rd Reg.CODEC_CTRL.quantum_kib ≠ 0) ∧
      ((s.stream i).rx = [.seg true data]) ∧
      (data ≠ []) ∧
      (data.length < 32)) ∧
    (∃ (s : State) (i : Nat) (data : Bytes),
      (s.codec.streams.length = 16) ∧
      (s.nextStream = some i) ∧
      ((s.stream i).inChunk = false) ∧
      ((s.stream i).skipping = false) ∧
      ((s.stream i).cur = []) ∧
      (s.opOfKind 8 = none) ∧
      (s.rd Reg.CODEC_CTRL.quantum_kib ≠ 0) ∧
      ((s.stream i).rx = [.seg false data]) ∧
      ((s.stream i).decTyp ≠ 1)) ∧
    (∃ (s : State) (i : Nat) (data : Bytes),
      (s.codec.streams.length = 16) ∧
      (s.nextStream = some i) ∧
      ((s.stream i).inChunk = false) ∧
      ((s.stream i).skipping = false) ∧
      ((s.stream i).cur = []) ∧
      (s.opOfKind 8 = none) ∧
      (s.rd Reg.CODEC_CTRL.quantum_kib ≠ 0) ∧
      ((s.stream i).rx = [.seg true data]) ∧
      (data ≠ []) ∧
      (data.length < 32)) :=
  ⟨⟨((up []).setStream 3 { open3 with rx := [.seg true [1#8]] }), (3), ([1#8]), by decide +kernel⟩,
   ⟨((up []).setStream 3 { open3 with decTyp := 2, rx := [.seg false [1#8]] }), (3), ([1#8]), by decide +kernel⟩,
   ⟨((up []).setStream 3 { open3 with rx := [.seg true [1#8]] }), (3), ([1#8]), by decide +kernel⟩⟩

/-- Clauses 1, 2. -/
theorem wit_HeldDescriptorIsTakenOrExpires :
    (∃ (s : State) (x : HeldDesc),
      (s.codec.streams.length = 16) ∧
      (x.stream < 16) ∧
      (s.sieve.held = [x]) ∧
      (x.seq = (parseDesc x.raw).seq) ∧
      (s.stripe x.seq = none) ∧
      ((s.stream x.stream).heldChunks = []) ∧
      (s.queue.length < 8) ∧
      (x.seq = s.job.nextSeq) ∧
      (s.judgeDesc x.hdr x.raw = none) ∧
      (s.sieve.seeds = [])) ∧
    (∃ (s : State) (x : HeldDesc) (due : Nat),
      (s.codec.streams.length = 16) ∧
      (x.stream < 16) ∧
      (s.sieve.held = [x]) ∧
      (x.seq = (parseDesc x.raw).seq) ∧
      (s.stripe x.seq = none) ∧
      ((s.stream x.stream).heldChunks = []) ∧
      (x.due = some due) ∧
      (due ≤ s.now) ∧
      (s.job.nextSeq < x.seq)) :=
  ⟨⟨({ up [(Reg.GLOBAL_JOB.state, jobArmed)] with sieve := ⟨[], [held0 0 none], [], []⟩ }), (held0 0 none), by decide +kernel⟩,
   ⟨({ up [(Reg.GLOBAL_JOB.state, jobArmed)] with sieve := ⟨[], [held0 2 (some 0)], [], []⟩ }), (held0 2 (some 0)), (0), by decide +kernel⟩⟩

/-- Clauses 1, 2, 3, 4, 5, 6. -/
theorem wit_StripeIsAdmittedAndItsDensityStored :
    (∃ (s : State) (seq : Nat) (x : Stripe) (bad : List Nat),
      (s.stripe seq = some x) ∧
      (s.admissible x = true) ∧
      (∀ y ∈ s.mapsNeeded x, y.d.seq ∉ bad)) ∧
    (∃ (s : State) (seq : Nat) (x : Stripe) (y : Stripe),
      (s.stripe seq = some x) ∧
      (x.st = .pending) ∧
      (s.mapsNeeded x = [y]) ∧
      (s.stripe y.d.seq = some y) ∧
      (densComplete y = true) ∧
      (y.d.seq ≠ seq)) ∧
    (∃ (s : State) (seq : Nat) (x : Stripe) (band : Nat) (rest : List (Nat × Nat)) (b : Band),
      (s.stripe seq = some x) ∧
      (s.sieve.densQ = (seq, band) :: rest) ∧
      (tabFind x.bands band = some b)) ∧
    (∃ (s : State) (seq : Nat) (x : Stripe) (band : Nat) (rest : List (Nat × Nat)),
      (s.stripe seq = some x) ∧
      (s.sieve.densQ = (seq, band) :: rest)) ∧
    (∃ (s : State) (seq : Nat) (x : Stripe) (band due : Nat) (b : Band),
      (s.stripe seq = some x) ∧
      (x.densRetry.find? (fun e => e.1 = band) = some (band, due)) ∧
      (due ≤ s.now) ∧
      (tabFind x.bands band = some b)) ∧
    (∃ (s : State) (seq : Nat) (x : Stripe) (band due : Nat),
      (s.stripe seq = some x) ∧
      (x.densRetry.find? (fun e => e.1 = band) = some (band, due)) ∧
      (due ≤ s.now)) :=
  ⟨⟨(withStripe { stripe0 .pending with bands := [(0, ⟨[], 0, [], 0⟩)], densDone := [0] }), (0), ({ stripe0 .pending with bands := [(0, ⟨[], 0, [], 0⟩)], densDone := [0] }), ([9]), by decide +kernel⟩,
   ⟨({ withStripe wide0 with sieve := ⟨[wide0, side1], [], [], []⟩ }), (0), (wide0), (side1), by decide +kernel⟩,
   ⟨({ withStripe ({ stripe0 .pending with bands := [(0, ⟨[], 0, [], 0⟩)] }) with sieve := ⟨[{ stripe0 .pending with bands := [(0, ⟨[], 0, [], 0⟩)] }], [], [], [(0, 0)]⟩ }), (0), ({ stripe0 .pending with bands := [(0, ⟨[], 0, [], 0⟩)] }), (0), ([]), (⟨[], 0, [], 0⟩), by decide +kernel⟩,
   ⟨({ withStripe ({ stripe0 .pending with bands := [(0, ⟨[], 0, [], 0⟩)] }) with sieve := ⟨[{ stripe0 .pending with bands := [(0, ⟨[], 0, [], 0⟩)] }], [], [], [(0, 0)]⟩ }), (0), ({ stripe0 .pending with bands := [(0, ⟨[], 0, [], 0⟩)] }), (0), ([]), by decide +kernel⟩,
   ⟨(withStripe ({ stripe0 .pending with bands := [(0, ⟨[], 0, [], 0⟩)], densRetry := [(0, 0)] })), (0), ({ stripe0 .pending with bands := [(0, ⟨[], 0, [], 0⟩)], densRetry := [(0, 0)] }), (0), (0), (⟨[], 0, [], 0⟩), by decide +kernel⟩,
   ⟨(withStripe ({ stripe0 .pending with bands := [(0, ⟨[], 0, [], 0⟩)], densRetry := [(0, 0)] })), (0), ({ stripe0 .pending with bands := [(0, ⟨[], 0, [], 0⟩)], densRetry := [(0, 0)] }), (0), (0), by decide +kernel⟩⟩

theorem wit_ContextImagesAreStoredAndRestored_3 : ∃ (s : State) (o : LongOp) (c : Ctx), (s.codec.streams.length = 16) ∧ (o.pos < 16) ∧
    (s.opOfKind 8 = some o) ∧ (o.st = .running) ∧ (o.arg % 4 = 3) ∧ (s.restorable o.pos = some c) := by
  obtain ⟨c, h⟩ := chunk3_good
  exact ⟨withOp (op0 8 35 3 []) ((up []).setStream 3 saved3), op0 8 35 3 [], _, rfl, by decide, rfl, rfl, rfl,
    restorable_of _ 3 saved3 ⟨chunk3, [], true⟩ c rfl rfl rfl rfl h⟩

/-- Clauses 1, 2, 4. -/
theorem wit_ContextImagesAreStoredAndRestored :
    (∃ (s : State) (o : LongOp),
      (s.codec.streams.length = 16) ∧
      (o.pos < 16) ∧
      (s.opOfKind 8 = some o) ∧
      (o.st = .running) ∧
      (o.image ≠ []) ∧
      (o.cancelling = false)) ∧
    (∃ (s : State) (o : LongOp),
      (s.codec.streams.length = 16) ∧
      (o.pos < 16) ∧
      (s.opOfKind 8 = some o) ∧
      (o.st = .running) ∧
      (o.image ≠ []) ∧
      (o.cancelling = false) ∧
      (s.codec.ctxRetry.contains o.pos = false)) ∧
    (∃ (s : State) (o : LongOp),
      (s.codec.streams.length = 16) ∧
      (o.pos < 16) ∧
      (s.opOfKind 8 = some o) ∧
      (o.st = .running) ∧
      (o.arg % 4 = 3)) :=
  ⟨⟨(withOp (op0 8 33 3 [1#8]) (up [])), (op0 8 33 3 [1#8]), by decide +kernel⟩,
   ⟨(withOp (op0 8 33 3 [1#8]) (up [])), (op0 8 33 3 [1#8]), by decide +kernel⟩,
   ⟨(withOp (op0 8 35 3 []) (up [])), (op0 8 35 3 []), by decide +kernel⟩⟩

/-- Clauses 1, 2, 3, 4, 5, 6. -/
theorem wit_RenderFollowsTheScan :
    (∃ (s : State) (x : Stripe),
      (s.nextRender = some x)) ∧
    (∃ (s : State) (x : Stripe) (b : Band),
      (s.render.stripe = some x.d.seq) ∧
      (s.stripe x.d.seq = some x) ∧
      (s.render.lines < x.d.len) ∧
      (mayStart x s.render.lines = true) ∧
      (tabFind x.bands (bandOf (scanLine x.d s.render.lines)) = some b) ∧
      (s.flatReady b (bandOf (scanLine x.d s.render.lines)) = true) ∧
      (s.lineTurn = true) ∧
      (inQueue x = true) ∧
      (∀ e ∈ s.render.missing, scanIx x.d e.1 ≠ s.render.lines)) ∧
    (∃ (s : State) (x : Stripe) (q : Nat) (b : Band),
      (q < slicesOf s.variant) ∧
      (s.render.stripe = some x.d.seq) ∧
      (s.stripe x.d.seq = some x) ∧
      (s.render.lines < x.d.len) ∧
      (mayStart x s.render.lines = true) ∧
      (tabFind x.bands (bandOf (scanLine x.d s.render.lines)) = some b) ∧
      (s.flatReady b (bandOf (scanLine x.d s.render.lines)) = true) ∧
      (s.lineTurn = true) ∧
      (inQueue x = true)) ∧
    (∃ (s : State) (x : Stripe) (slice y seg k : Nat),
      (s.render.stripe = some x.d.seq) ∧
      (s.stripe x.d.seq = some x) ∧
      (∀ e ∈ s.render.rerender, released x (scanIx x.d e.1) = false) ∧
      (s.render.rerender.find? (ofSlice slice) = some (y, seg, k))) ∧
    (∃ (s : State) (x : Stripe) (slice y seg k : Nat),
      (s.render.stripe = some x.d.seq) ∧
      (s.stripe x.d.seq = some x) ∧
      (∀ e ∈ s.render.rerender, released x (scanIx x.d e.1) = false) ∧
      (s.render.rerender.find? (ofSlice slice) = some (y, seg, k))) ∧
    (∃ (s : State) (x : Stripe) (slice band : Nat),
      (s.render.stripe = some x.d.seq) ∧
      (s.render.flattened.contains (band, slice) = false)) :=
  ⟨⟨(withStripe ({ stripe0 .admitted with bands := [(0, ⟨[], 100, [], 0⟩)] })), ({ stripe0 .admitted with bands := [(0, ⟨[], 100, [], 0⟩)] }), by decide +kernel⟩,
   ⟨({ withStripe ({ stripe0 .admitted with bands := [(0, ⟨[], 100, [], 0⟩)] }) with render := ⟨some 0, 5, [], [], [], 0⟩ }), ({ stripe0 .admitted with bands := [(0, ⟨[], 100, [], 0⟩)] }), (⟨[], 100, [], 0⟩), by decide +kernel⟩,
   ⟨({ withStripe ({ stripe0 .admitted with bands := [(0, ⟨[], 100, [], 0⟩)] }) with render := ⟨some 0, 5, [], [], [], 0⟩ }), ({ stripe0 .admitted with bands := [(0, ⟨[], 100, [], 0⟩)] }), (3), (⟨[], 100, [], 0⟩), by decide +kernel⟩,
   ⟨({ withStripe ({ stripe0 .admitted with bands := [(0, ⟨[], 100, [], 0⟩)] }) with render := ⟨some 0, 5, [(3, 1, 50)], [], [], 0⟩ }), ({ stripe0 .admitted with bands := [(0, ⟨[], 100, [], 0⟩)] }), (0), (3), (1), (50), by decide +kernel⟩,
   ⟨({ withStripe ({ stripe0 .admitted with bands := [(0, ⟨[], 100, [], 0⟩)] }) with render := ⟨some 0, 5, [(3, 1, 50)], [], [], 0⟩ }), ({ stripe0 .admitted with bands := [(0, ⟨[], 100, [], 0⟩)] }), (0), (3), (1), (50), by decide +kernel⟩,
   ⟨({ withStripe ({ stripe0 .admitted with bands := [(0, ⟨[], 100, [], 0⟩)] }) with render := ⟨some 0, 5, [], [], [], 0⟩ }), ({ stripe0 .admitted with bands := [(0, ⟨[], 100, [], 0⟩)] }), (0), (0), by decide +kernel⟩⟩

/-- Clauses 1, 2, 3, 4. -/
theorem wit_DoseMapRowsAreStored :
    (∃ (s : State) (x : Stripe),
      (s.pec.stripe = none) ∧
      (s.sieve.stripes.find? (fun y => y.fParams.isNone && (y.st = .admitted || y.st = .armed || y.st = .exposing)) = some x) ∧
      (s.stripe x.d.seq = some x)) ∧
    (∃ (s : State) (x : Stripe) (p : PecParams),
      (s.pec.redo = []) ∧
      (s.pec.stripe = some x.d.seq) ∧
      (s.stripe x.d.seq = some x) ∧
      (x.fParams = some p)) ∧
    (∃ (s : State) (x : Stripe) (p : PecParams) (under : Bool) (cx cy : Int),
      (s.pec.redo = []) ∧
      (s.pec.stripe = some x.d.seq) ∧
      (s.stripe x.d.seq = some x) ∧
      (x.fParams = some p) ∧
      (s.recomputable x under cx cy = false) ∧
      (zeroed x s.pec.rows under cx cy = false)) ∧
    (∃ (s : State) (x : Stripe) (p : PecParams) (y : Int) (rest : List (Nat × Int)),
      (s.pec.redo = (x.d.seq, y) :: rest) ∧
      (s.stripe x.d.seq = some x) ∧
      (x.fParams = some p)) :=
  ⟨⟨(withStripe (stripe0 .admitted)), (stripe0 .admitted), by decide +kernel⟩,
   ⟨({ withStripe ({ stripe0 .admitted with fParams := some PecParams.init }) with pec := ⟨PecParams.init, some 0, 3, []⟩ }), ({ stripe0 .admitted with fParams := some PecParams.init }), (PecParams.init), by decide +kernel⟩,
   ⟨({ withStripe ({ stripe0 .admitted with fParams := some PecParams.init }) with pec := ⟨PecParams.init, some 0, 3, []⟩ }), ({ stripe0 .admitted with fParams := some PecParams.init }), (PecParams.init), (false), (2), (1), by decide +kernel⟩,
   ⟨({ withStripe ({ stripe0 .admitted with fParams := some PecParams.init }) with pec := ⟨PecParams.init, some 0, 3, [(0, 1)]⟩ }), ({ stripe0 .admitted with fParams := some PecParams.init }), (PecParams.init), (1), ([]), by decide +kernel⟩⟩

theorem wit_InterpolationOfAFlatMapIsFlat : ∃ fx fy : Nat, fx ≤ 128 ∧ fy ≤ 128 := ⟨128, 128, by decide⟩

theorem wit_EveryShotIsOnePassOfItsPixel_forward : (0 : Nat) < 2 ∧ (511 : Nat) < 512 ∧ (0 : Nat) < 10 ∧ nominalY 0 10 8176 511 = ((0 : Nat) : Int) := by
  decide +kernel

theorem wit_EveryShotIsOnePassOfItsPixel_reverse : (1 : Nat) < 2 ∧ (0 : Nat) < 512 ∧ (9 : Nat) < 10 ∧ nominalY 1 10 8176 0 = ((9 : Nat) : Int) := by
  decide +kernel

theorem wit_ShotDemandIsAccountedFor : gainOk 0x8000 = false ∧ gainOk 0x7800 = true ∧ 0 ≤ codeRaw 3073 0x7200 ∧ codeRaw 3073 0x7200 ≤ 255 := by
  decide +kernel

theorem wit_SharesSumToTheTarget : (0 : Nat) < 28 := by decide

theorem wit_EveryMissedPassIsMadeUpOnce : (1 : Nat) < [true, false].length ∧ makesUp [true, false] 0 1 = true ∧ [true, false].getD 1 false = false := by
  decide

theorem wit_SampleWeightsSumToOne : (-128 : Int) ≤ 128 ∧ beyondReach 129 0 = true := by decide +kernel

/-- Clauses 1, 2. -/
theorem wit_TicksAreFixedAndComputed :
    (∃ (s : State) (x : Stripe),
      (s.current = some x) ∧
      (s.stripe x.d.seq = some x) ∧
      (x.truncated = false) ∧
      (s.follows = false) ∧
      (x.fixed < stripeTicks x.d.len) ∧
      (tickTime x x.fixed ≤ s.ns + 3 * x.d.tau + 64)) ∧
    (∃ (s : State) (x : Stripe) (e : TickEntry) (bad : List BadRead),
      (s.current = some x) ∧
      (s.stripe x.d.seq = some x) ∧
      (x.truncated = false) ∧
      (x.computed < x.fixed) ∧
      (tickTime x x.computed ≤ s.ns + 3 * x.d.tau) ∧
      (s.tickAt x.d.seq x.computed = some e)) :=
  ⟨⟨(running0 (going 1 1 0 0) [tick0]), (going 1 1 0 0), by decide +kernel⟩,
   ⟨(running0 (going 1 1 0 0) [dark0]), (going 1 1 0 0), (dark0), ([]), by decide +kernel⟩⟩

/-- Clauses 1, 2. -/
theorem wit_TicksAreLaunchedAndSent :
    (∃ (s : State) (e : TickEntry) (x : Stripe),
      (s.current = some x) ∧
      (s.stripe x.d.seq = some x) ∧
      (x.truncated = false) ∧
      (s.follows = false) ∧
      (x.launched < x.computed) ∧
      (tickTime x x.launched ≤ s.ns + 2 * x.d.tau + s.maxFwd) ∧
      (s.tickAt x.d.seq x.launched = some e)) ∧
    (∃ (s : State) (e : TickEntry) (bad : List BadRead),
      (s.tickDue = some e) ∧
      (e.time ≤ s.ns + s.guardMax + 260)) :=
  ⟨⟨((running0 (going 0 1 1 0) [tick0]).wrs [(Reg.LANE_STATE.state 5, lnActive), (Reg.LANE_CREDIT.avail 5, 40)]), (tick0), (going 0 1 1 0), by decide +kernel⟩,
   ⟨((running0 (going 0 1 1 1) [{ dark0 with launched := true }]).wr (Reg.LANE_STATE.state 5) lnActive), ({ dark0 with launched := true }), ([]), by decide +kernel⟩⟩

theorem wit_UnresolvedTicksExpire :
    ∃ (s : State) (e : TickEntry) (bad : List BadRead),
      (s.oldestOpen = some e) ∧
      (e.time + 5 * e.tau ≤ s.ns) :=
  ⟨({ running0 (going 0 1 1 1) [{ dark0 with launched := true }] with clk := 5000 * 2 ^ 32 }), ({ dark0 with launched := true }), ([]), by decide +kernel⟩

/-- Clauses 1, 2, 3, 4, 5. -/
theorem wit_ResidualsAreRebuiltAndRowsRemapped :
    (∃ (s : State) (r : Rebuild),
      (s.shot.rebuilds.find? (fun q => !q.started) = some r) ∧
      (s.earlierResolved r.seq r.failTick = true)) ∧
    (∃ (s : State) (r : Rebuild) (x : Stripe) (bad : List BadRead) (vals : List Int),
      (s.shot.rebuilds.find? (fun q => q.started) = some r) ∧
      (s.stripe r.seq = some x) ∧
      ((s.replaySegment x bad r.y r.seg).toOption = some vals)) ∧
    (∃ (s : State) (r : Rebuild) (x : Stripe) (bad : List BadRead),
      (s.shot.rebuilds.find? (fun q => q.started) = some r) ∧
      (s.stripe r.seq = some x) ∧
      ((s.replaySegment x bad r.y r.seg).toOption = none)) ∧
    (∃ (s : State) (bank row : Nat) (rest : List (Nat × Nat)),
      (s.win.waiting = (bank, row) :: rest) ∧
      (tabGet 0 s.win.sparesUsed bank < 8)) ∧
    (∃ (s : State) (bank row : Nat) (rest : List (Nat × Nat)),
      (s.win.waiting = (bank, row) :: rest) ∧
      (8 ≤ tabGet 0 s.win.sparesUsed bank)) :=
  ⟨⟨({ running0 (going 0 0 0 0) [] with shot := { (up []).shot with rebuilds := [⟨0, 3, 1, 0, false⟩] } }), (⟨0, 3, 1, 0, false⟩), by decide +kernel⟩,
   ⟨({ running0 (going 0 0 0 0) [] with shot := { (up []).shot with rebuilds := [⟨0, 3, 1, 0, true⟩] } }), (⟨0, 3, 1, 0, true⟩), (going 0 0 0 0), ([]), (List.replicate 256 0), by decide +kernel⟩,
   ⟨({ running0 live0 [] with shot := { (up []).shot with rebuilds := [⟨0, 3, 0, 0, true⟩] } }), (⟨0, 3, 0, 0, true⟩), (live0), ([]), by decide +kernel⟩,
   ⟨({ up [] with win := { (up []).win with waiting := [(33, 4)] } }), (33), (4), ([]), by decide +kernel⟩,
   ⟨({ up [] with win := { (up []).win with waiting := [(33, 4)], sparesUsed := [(33, 8)] } }), (33), (4), ([]), by decide +kernel⟩⟩

/-- Clauses 1, 2, 3. -/
theorem wit_ReplaysFillTheWait :
    (∃ (s : State) (t : Nat) (bad : List Nat) (r : ReplayTick) (e : TickEntry),
      (s.laneSt t = lnActive) ∧
      (s.runOn t = false) ∧
      ((s.lane t).replay.find? (fun q => q.cand ≠ 0 && s.tickOpen q.n) = some r) ∧
      (s.shot.tlog.find? (fun q => q.n = r.n) = some e) ∧
      (s.replayUnits e r t bad ≠ [])) ∧
    (∃ (s : State) (t : Nat) (bad : List Nat) (r : ReplayTick) (e : TickEntry),
      (s.laneSt t = lnActive) ∧
      (s.runOn t = false) ∧
      ((s.lane t).replay.find? (fun q => q.cand ≠ 0 && s.tickOpen q.n) = some r) ∧
      (s.shot.tlog.find? (fun q => q.n = r.n) = some e) ∧
      (s.replayUnits e r t bad = [])) ∧
    (∃ (s : State) (t : Nat) (n seq : Nat) (r : ReplayTick),
      (t < lanesOf s.variant) ∧
      (s.replayOf t n = some r) ∧
      (r.acks = false) ∧
      (s.tickOpen n = true) ∧
      (r.frameEnd - (s.lane t).dfwd + 200000 + (s.lane t).loop + 1000 * s.rd Reg.LANE_PROTO_CTRL.ack_slack_ns ≤ s.ps) ∧
      ((s.shot.tlog.find? (fun q => q.n = n)).map (fun q => q.seq) = some seq) ∧
      (∀ x, s.stripe seq = some x → x.told.contains (0x100000 + 0x0422 * 64 + t) = false)) :=
  ⟨⟨(inFlight (going 0 1 1 1) { Lane.init with replay := [rep7] }), (5), ([]), (rep7), ({ tick0 with launched := true, sent := 2 ^ 5, time := 100000 }), by decide +kernel⟩,
   ⟨((inFlight (going 0 1 1 1) { Lane.init with replay := [rep7] }).wr Reg.LANE_PROTO_CTRL.max_replay 0), (5), ([]), (rep7), ({ tick0 with launched := true, sent := 2 ^ 5, time := 100000 }), by decide +kernel⟩,
   ⟨({ inFlight (going 0 1 1 1) { Lane.init with replay := [rep7] } with clk := 1000 * 2 ^ 32 }), (5), (7), (0), (rep7), by decide +kernel⟩⟩

/-- Clauses 1, 2, 3, 4. -/
theorem wit_AcknowledgementsAndCredits :
    (∃ (s : State) (t : Nat) (b : Bytes),
      (s.hears t = true) ∧
      (setGood b = false) ∧
      (∀ x, s.stripe s.seqNow = some x → x.told.contains (0x100000 + 0x0427 * 64 + t) = false)) ∧
    (∃ (s : State) (t : Nat) (b : Bytes) (r : ReplayTick),
      (HeardMsg s t 0x81 b) ∧
      (s.tickOpen (beAt b 1 5) = true) ∧
      (s.replayOf t (beAt b 1 5) = some r)) ∧
    (∃ (s : State) (t : Nat) (b : Bytes) (r : ReplayTick),
      (HeardMsg s t 0x82 b) ∧
      (s.tickOpen (beAt b 1 5) = true) ∧
      (byteAt b 6 % 32 ≤ 16) ∧
      (s.replayOf t (beAt b 1 5) = some r) ∧
      (s.tooEarly t r (byteAt b 6 % 32) = false)) ∧
    (∃ (s : State) (t : Nat) (b : Bytes),
      (HeardMsg s t 0x83 b) ∧
      (s.laneSt t = lnActive)) :=
  ⟨⟨(laneAt 5 lnActive Lane.init []), (5), (zeros 16), by decide +kernel⟩,
   ⟨(inFlight (going 0 1 1 1) { Lane.init with replay := [rep7] }), (5), (orderedSet 0x81 (toBE 5 7 ++ toBE 2 0xFFFB ++ toBE 1 1)), (rep7), by decide +kernel⟩,
   ⟨(inFlight (going 0 1 1 1) { Lane.init with replay := [rep7] }), (5), (orderedSet 0x82 (toBE 5 7 ++ toBE 1 3)), (rep7), by decide +kernel⟩,
   ⟨(laneAt 5 lnActive { Lane.init with spent := 32 } [(Reg.LANE_RX_CAPS0.credits 5, 64)]), (5), (orderedSet 0x83 (toBE 2 16)), by decide +kernel⟩⟩

/-- Clauses 1, 2. -/
theorem wit_StatusResolvesTicks :
    (∃ (s : State) (t : Nat) (b : Bytes) (bad : List BadRead),
      (HeardMsg s t 0x84 b) ∧
      ((byteAt b 12).testBit 5 = true) ∧
      ((byteAt b 12).testBit 3 = false) ∧
      ((byteAt b 12).testBit 6 = false)) ∧
    (∃ (s : State) (t : Nat) (b : Bytes) (bad : List BadRead) (e : TickEntry),
      (HeardMsg s t 0x84 b) ∧
      (byteAt b 12 < 2) ∧
      (s.shot.tlog.find? (fun q => q.n = beAt b 1 5) = some e) ∧
      (e.launched = true) ∧
      (e.sent.testBit t = true) ∧
      (e.resolved.testBit t = false) ∧
      (∀ q ∈ s.shot.tlog, q.n + 1 ≠ beAt b 1 5 ∧ q.n + 2 ≠ beAt b 1 5) ∧
      (∀ x, s.stripe e.seq = some x → x.told.contains (0x100000 + 0x0425 * 64 + t) = false)) :=
  ⟨⟨(inFlight (going 0 1 1 1) { Lane.init with replay := [rep7] }), (5), (orderedSet 0x84 (toBE 5 7 ++ zeros 6 ++ toBE 1 0x20)), ([]), by decide +kernel⟩,
   ⟨(inFlight (going 0 1 1 1) { Lane.init with replay := [rep7] }), (5), (orderedSet 0x84 (toBE 5 7 ++ zeros 6 ++ toBE 1 1)), ([]), ({ tick0 with launched := true, sent := 2 ^ 5, time := 100000 }), by decide +kernel⟩⟩

/-- Clauses 1, 2, 3, 4, 5, 6, 7, 8, 9, 10. -/
theorem wit_LanesAreFoundAndTrained :
    (∃ (s : State) (t : Nat),
      (s.fitted t = true) ∧
      (s.holdsLanes = true) ∧
      (s.laneSt t = lnDisabled)) ∧
    (∃ (s : State) (t : Nat),
      (s.fitted t = true) ∧
      (s.laneSt t ≠ lnActive)) ∧
    (∃ (s : State) (t : Nat),
      (s.fitted t = true) ∧
      (s.laneSt t = lnFailed)) ∧
    (∃ (s : State) (t : Nat) (load : Bool),
      (s.fitted t = true) ∧
      (s.laneSt t = lnDetect) ∧
      ((s.lane t).hold = none) ∧
      ((s.lane t).lastSend + 1000000 ≤ s.now) ∧
      (load = false ∨ (s.lane t).hits = 0)) ∧
    (∃ (s : State) (t : Nat),
      (s.fitted t = true) ∧
      (s.laneSt t = lnDetect) ∧
      ((s.lane t).hold = none) ∧
      ((s.lane t).lastSend + 1000000 ≤ s.now) ∧
      (0 < (s.lane t).hits)) ∧
    (∃ (s : State) (t : Nat) (b : Bytes) (lock : Bool),
      (s.fitted t = true) ∧
      (HeardMsg s t 0x89 b) ∧
      (s.laneSt t = lnTrain) ∧
      ((s.lane t).lastReq = some (byteAt b 2))) ∧
    (∃ (s : State) (t : Nat) (b : Bytes),
      (s.fitted t = true) ∧
      (HeardMsg s t 0x89 b) ∧
      (s.laneSt t = lnLock) ∧
      ((byteAt b 1).testBit 1 = true)) ∧
    (∃ (s : State) (t : Nat) (reason : Nat),
      (s.fitted t = true) ∧
      (s.laneSt t = lnTrain ∧ reason = 1 ∧ (s.lane t).since + 2000000 ≤ s.now ∨ s.laneSt t = lnLock ∧ reason = 2 ∧ (s.lane t).since + 100000 ≤ s.now) ∧
      (s.rd (Reg.LANE_STATE.attempts t) < 15)) ∧
    (∃ (s : State) (t : Nat) (due : Nat),
      (s.fitted t = true) ∧
      ((s.lane t).hold = some due) ∧
      (due ≤ s.now)) ∧
    (∃ (s : State) (t : Nat),
      (s.fitted t = true) ∧
      (s.rd Reg.RCU_PHASE.phase = 6) ∧
      (s.power.phaseAt + 2000000000 ≤ s.now) ∧
      (s.laneSt t = lnDetect) ∧
      ((s.lane t).p6Told = false)) :=
  ⟨⟨(up [(Reg.PAIR_STATUS.halyard_out, 1)]), (5), by decide +kernel⟩,
   ⟨(laneAt 5 lnTrain Lane.init []), (5), by decide +kernel⟩,
   ⟨(laneAt 5 lnFailed Lane.init []), (5), by decide +kernel⟩,
   ⟨({ laneAt 5 lnDetect Lane.init [] with now := 1000000 }), (5), (true), by decide +kernel⟩,
   ⟨({ laneAt 5 lnDetect { Lane.init with hits := 1 } [] with now := 1000000 }), (5), by decide +kernel⟩,
   ⟨(laneAt 5 lnTrain { Lane.init with lastReq := some 3 } []), (5), (orderedSet 0x89 (toBE 1 1 ++ toBE 1 3)), (true), by decide +kernel⟩,
   ⟨(laneAt 5 lnLock Lane.init []), (5), (orderedSet 0x89 (toBE 1 3)), by decide +kernel⟩,
   ⟨({ laneAt 5 lnLock Lane.init [] with now := 100000 }), (5), (2), by decide +kernel⟩,
   ⟨(laneAt 5 lnDetect { Lane.init with hold := some 0 } []), (5), (0), by decide +kernel⟩,
   ⟨({ (laneAt 5 lnDetect Lane.init []).wr Reg.RCU_PHASE.phase 6 with now := 2000000000 }), (5), by decide +kernel⟩⟩

/-- Clauses 1, 2, 3, 4, 5, 6, 7. -/
theorem wit_LanesAreConfiguredAndMeasured :
    (∃ (s : State) (t : Nat),
      (s.fitted t = true) ∧
      (s.laneSt t = lnCaps) ∧
      ((s.lane t).sends < 8) ∧
      ((s.lane t).lastSend + 2000 ≤ s.now)) ∧
    (∃ (s : State) (t : Nat) (b : Bytes),
      (s.fitted t = true) ∧
      (HeardMsg s t 0x86 b) ∧
      (s.laneSt t = lnCaps) ∧
      (capsRefusal b = 0)) ∧
    (∃ (s : State) (t : Nat) (b : Bytes),
      (s.fitted t = true) ∧
      (HeardMsg s t 0x86 b) ∧
      (s.laneSt t = lnCaps) ∧
      (capsRefusal b ≠ 0)) ∧
    (∃ (s : State) (t : Nat),
      (s.fitted t = true) ∧
      (s.laneSt t = lnLatency) ∧
      ((s.lane t).probes.length < 8) ∧
      ((s.lane t).probes = [] ∨ (s.lane t).since + 10000 * (s.lane t).probes.length ≤ s.now)) ∧
    (∃ (s : State) (t : Nat) (b : Bytes) (sub p sent : Nat) (fl : List (Nat × Nat)),
      (s.fitted t = true) ∧
      (HeardMsg s t 0x87 b) ∧
      (s.laneSt t = lnLatency) ∧
      (s.now ≤ (s.lane t).since + 100000) ∧
      ((s.lane t).probes.find? (fun q => q.1 = byteAt b 1) = some (p, sent)) ∧
      (fl = (s.lane t).flights ++ [(s.ps + sub - sent, s.ps + sub - sent - beAt b 2 4)]) ∧
      ((s.lane t).flights.length < 7)) ∧
    (∃ (s : State) (t : Nat) (b : Bytes) (sub p sent : Nat) (fl : List (Nat × Nat)),
      (s.fitted t = true) ∧
      (HeardMsg s t 0x87 b) ∧
      (s.laneSt t = lnLatency) ∧
      (s.now ≤ (s.lane t).since + 100000) ∧
      ((s.lane t).probes.find? (fun q => q.1 = byteAt b 1) = some (p, sent)) ∧
      (fl = (s.lane t).flights ++ [(s.ps + sub - sent, s.ps + sub - sent - beAt b 2 4)]) ∧
      ((s.lane t).flights.length = 7) ∧
      ((sortNat (fl.map (fun q => q.2))).getLastD 0 ≤ (sortNat (fl.map (fun q => q.2))).headD 0 + 500) ∧
      (((median (fl.map (fun q => q.2)) / 2 : Nat) + signedOf 16 (s.rd (Reg.LANE_SKEW.skew_ps t))) ≤ 250000)) ∧
    (∃ (s : State) (t : Nat) (b : Bytes) (sub p sent : Nat) (fl : List (Nat × Nat)),
      (s.fitted t = true) ∧
      (HeardMsg s t 0x87 b) ∧
      (s.laneSt t = lnLatency) ∧
      (s.now ≤ (s.lane t).since + 100000) ∧
      ((s.lane t).probes.find? (fun q => q.1 = byteAt b 1) = some (p, sent)) ∧
      (fl = (s.lane t).flights ++ [(s.ps + sub - sent, s.ps + sub - sent - beAt b 2 4)]) ∧
      ((s.lane t).flights.length = 7) ∧
      ((sortNat (fl.map (fun q => q.2))).headD 0 + 500 < (sortNat (fl.map (fun q => q.2))).getLastD 0 ∨ 250000 < ((median (fl.map (fun q => q.2)) / 2 : Nat) + signedOf 16 (s.rd (Reg.LANE_SKEW.skew_ps t))))) :=
  ⟨⟨({ laneAt 5 lnCaps { Lane.init with sends := 1 } [] with now := 2000 }), (5), by decide +kernel⟩,
   ⟨(laneAt 5 lnCaps Lane.init []), (5), (orderedSet 0x86 (toBE 2 1 ++ toBE 2 64 ++ toBE 2 800 ++ toBE 2 6400 ++ toBE 2 0 ++ toBE 2 5000 ++ toBE 1 3)), by decide +kernel⟩,
   ⟨(laneAt 5 lnCaps Lane.init []), (5), (orderedSet 0x86 (toBE 2 1 ++ toBE 2 40 ++ toBE 2 800 ++ toBE 2 6400 ++ toBE 2 0 ++ toBE 2 5000 ++ toBE 1 3)), by decide +kernel⟩,
   ⟨(laneAt 5 lnLatency Lane.init []), (5), by decide +kernel⟩,
   ⟨(laneAt 5 lnLatency { Lane.init with probes := [(0, 0)] } []), (5), (orderedSet 0x87 (toBE 1 0 ++ toBE 4 100)), (5), (0), (0), ([(5, 0)]), by decide +kernel⟩,
   ⟨({ laneAt 5 lnLatency { Lane.init with probes := [(0, 0)], flights := List.replicate 7 (1000, 900) } [] with clk := 2 ^ 32 }), (5), (orderedSet 0x87 (toBE 1 0 ++ toBE 4 100)), (0), (0), (0), (List.replicate 7 (1000, 900) ++ [(1000, 900)]), by decide +kernel⟩,
   ⟨({ laneAt 5 lnLatency { Lane.init with probes := [(0, 0)], flights := List.replicate 7 (1000, 100) } [] with clk := 2 ^ 32 }), (5), (orderedSet 0x87 (toBE 1 0 ++ toBE 4 100)), (0), (0), (0), (List.replicate 7 (1000, 100) ++ [(1000, 900)]), by decide +kernel⟩⟩

/-- Clauses 1, 2, 3, 4, 5, 6, 7, 8, 9. -/
theorem wit_ActiveLanesAreWatched :
    (∃ (s : State) (t : Nat) (lock : Bool),
      (s.fitted t = true) ∧
      (s.laneSt t = lnActive) ∧
      (s.shot.tlog = [])) ∧
    (∃ (s : State) (t : Nat) (lock : Bool),
      (s.fitted t = true) ∧
      (s.laneSt t ≠ lnActive)) ∧
    (∃ (s : State) (t : Nat) (own : Nat),
      (s.fitted t = true) ∧
      (s.laneSt t = lnActive) ∧
      ((s.lane t).lastCheck + 63000 ≤ s.now) ∧
      ((s.lane t).answered = true) ∧
      (s.rd Reg.LANE_ADAPT.margin_min ≤ own)) ∧
    (∃ (s : State) (t : Nat) (b : Bytes),
      (s.fitted t = true) ∧
      (HeardMsg s t 0x88 b) ∧
      (s.laneSt t = lnActive) ∧
      ((s.lane t).answered = false) ∧
      (beAt b 1 2 = (s.lane t).checkNo) ∧
      (s.rd Reg.LANE_ADAPT.margin_min ≤ byteAt b 3)) ∧
    (∃ (s : State) (t : Nat) (b : Bytes),
      (s.fitted t = true) ∧
      (HeardMsg s t 0x88 b) ∧
      (s.laneSt t = lnActive) ∧
      ((s.lane t).answered = false) ∧
      (beAt b 1 2 = (s.lane t).checkNo) ∧
      (byteAt b 3 < s.rd Reg.LANE_ADAPT.margin_min) ∧
      ((s.lane t).lowSeen = false) ∧
      (s.jobQuiet = false)) ∧
    (∃ (s : State) (t : Nat),
      (s.fitted t = true) ∧
      (s.laneSt t = lnActive) ∧
      (s.jobQuiet = false)) ∧
    (∃ (s : State) (t : Nat),
      (s.fitted t = true) ∧
      (s.laneSt t = lnActive) ∧
      (s.jobQuiet = true) ∧
      (s.shot.tlog = [])) ∧
    (∃ (s : State) (t : Nat) (hdr : Nat) (b : Bytes),
      (s.fitted t = true) ∧
      (s.hears t = true) ∧
      (hdr ≠ 1) ∧
      (hdr ≠ 2) ∧
      (((false :: (s.txLine t).heads).take 64).countP (fun v => !v) < 16)) ∧
    (∃ (s : State) (t : Nat) (b : Bytes),
      (s.fitted t = true) ∧
      (s.hears t = true) ∧
      (setGood b = true) ∧
      (byteAt b 0 < 0x81 ∨ 0x8A < byteAt b 0) ∧
      ((s.lane t).unknown = [])) :=
  ⟨⟨(laneAt 5 lnActive Lane.init []), (5), (true), by decide +kernel⟩,
   ⟨(laneAt 5 lnLock { Lane.init with blockLock := true } []), (5), (true), by decide +kernel⟩,
   ⟨({ laneAt 5 lnActive Lane.init [] with now := 64000 }), (5), (200), by decide +kernel⟩,
   ⟨(laneAt 5 lnActive { Lane.init with answered := false, checkNo := 9 } []), (5), (orderedSet 0x88 (toBE 2 9 ++ toBE 1 150)), by decide +kernel⟩,
   ⟨(laneAt 5 lnActive { Lane.init with answered := false, checkNo := 9 } [(Reg.GLOBAL_JOB.state, jobArmed), (Reg.LANE_ADAPT.margin_min, 160)]), (5), (orderedSet 0x88 (toBE 2 9 ++ toBE 1 150)), by decide +kernel⟩,
   ⟨(laneAt 5 lnActive Lane.init [(Reg.GLOBAL_JOB.state, jobArmed)]), (5), by decide +kernel⟩,
   ⟨(laneAt 5 lnActive Lane.init []), (5), by decide +kernel⟩,
   ⟨(laneAt 5 lnActive Lane.init []), (5), (3), ([]), by decide +kernel⟩,
   ⟨(laneAt 5 lnActive Lane.init []), (5), (orderedSet 0x90 []), by decide +kernel⟩⟩

/-- Clauses 1, 2, 3, 4, 5, 6, 7. -/
theorem wit_LaneTestsAreCounted :
    (∃ (s : State) (t : Nat) (v : Bool),
      (t < 64) ∧
      (s.fitted t = true)) ∧
    (∃ (s : State) (t : Nat) (rx : List Bool) (x : LaneTest),
      (t < 64) ∧
      ((s.lane t).test = some x) ∧
      (s.rd (Reg.LANE_TEST.running t) = 1) ∧
      (x.endsAt ≤ s.now) ∧
      (x.clipped = false ∨ x.leftUs = 0) ∧
      (s.opOfKind kindBer = none)) ∧
    (∃ (s : State) (t : Nat) (b : Bytes) (x : LaneTest),
      (t < 64) ∧
      (HeardMsg s t 0x8A b) ∧
      ((s.lane t).test = some x) ∧
      (x.code = byteAt b 1) ∧
      (x.code ≤ 2) ∧
      (s.rd (Reg.LANE_TEST.running t) ≠ 1) ∧
      (x.leftUs = 0)) ∧
    (∃ (s : State) (t : Nat) (x : LaneTest),
      (t < 64) ∧
      ((s.lane t).test = some x) ∧
      (s.rd (Reg.LANE_TEST.running t) = 1) ∧
      (x.code ≠ 3)) ∧
    (∃ (s : State) (t : Nat) (x : LaneTest),
      (t < 64) ∧
      ((s.lane t).test = some x) ∧
      (s.rd (Reg.LANE_TEST.running t) = 1) ∧
      (x.code ≠ 3)) ∧
    (∃ (s : State) (t : Nat),
      (t < 64) ∧
      (s.rd (Reg.LANE_CTRL.lane_test t) = 1)) ∧
    (∃ (s : State) (t : Nat),
      (t < 64) ∧
      (s.rd (Reg.LANE_CTRL.lane_test t) ≠ 1)) :=
  ⟨⟨(up []), (5), (true), by decide +kernel⟩,
   ⟨(laneAt 5 lnTest { Lane.init with test := some ⟨3, 0, 0, 0, false, []⟩ } [(Reg.LANE_TEST.running 5, 1)]), (5), ([true]), (⟨3, 0, 0, 0, false, []⟩), by decide +kernel⟩,
   ⟨(laneAt 5 lnLock { Lane.init with test := some ⟨1, 0, 0, 0, false, []⟩ } []), (5), (orderedSet 0x8A (toBE 1 1 ++ toBE 1 1 ++ toBE 4 7 ++ toBE 6 99)), (⟨1, 0, 0, 0, false, []⟩), by decide +kernel⟩,
   ⟨(laneAt 5 lnTest { Lane.init with test := some ⟨1, 0, 0, 0, false, []⟩ } [(Reg.LANE_TEST.running 5, 1)]), (5), (⟨1, 0, 0, 0, false, []⟩), by decide +kernel⟩,
   ⟨(laneAt 5 lnTest { Lane.init with test := some ⟨1, 0, 0, 0, false, []⟩ } [(Reg.LANE_TEST.running 5, 1)]), (5), (⟨1, 0, 0, 0, false, []⟩), by decide +kernel⟩,
   ⟨(laneAt 5 lnTest Lane.init [(Reg.LANE_CTRL.lane_test 5, 1)]), (5), by decide +kernel⟩,
   ⟨(up []), (5), by decide +kernel⟩⟩

/-- Clauses 2, 3, 4, 5, 6. -/
theorem wit_StripesAreTimedArmedAndEnded :
    (∃ (s : State) (seq why : Nat),
      (s.follows = false) ∧
      (s.firstRefusal seq (s.rd Reg.TIME_TRIG0_NS.ns) ((s.rd Reg.TIME_TRIG0_SEC_HI.sec_hi * 2 ^ 32 + s.rd Reg.TIME_TRIG0_SEC_LO.sec_lo) * giga + s.rd Reg.TIME_TRIG0_NS.ns) = why) ∧
      (why ≠ 0)) ∧
    (∃ (s : State) (seq first : Nat) (x : Stripe),
      (s.follows = false) ∧
      ((s.rd Reg.TIME_TRIG0_SEC_HI.sec_hi * 2 ^ 32 + s.rd Reg.TIME_TRIG0_SEC_LO.sec_lo) * giga + s.rd Reg.TIME_TRIG0_NS.ns = first) ∧
      (s.firstRefusal seq (s.rd Reg.TIME_TRIG0_NS.ns) first = 0) ∧
      (s.stripe seq = some x)) ∧
    (∃ (s : State) (x : Stripe) (first : Nat),
      (s.pendingFirst = some (x, first)) ∧
      (s.stripe x.d.seq = some x) ∧
      (s.follows = false) ∧
      (first ≤ s.ns + 3 * x.d.tau) ∧
      (s.armReason x first = 0) ∧
      (x.latch = none)) ∧
    (∃ (s : State) (x : Stripe) (first why : Nat),
      (s.pendingFirst = some (x, first)) ∧
      (s.stripe x.d.seq = some x) ∧
      (s.follows = false) ∧
      (first ≤ s.ns + 3 * x.d.tau) ∧
      (s.armReason x first = why) ∧
      (why ≠ 0)) ∧
    (∃ (s : State) (x : Stripe),
      (s.stripeToEnd = some x) ∧
      (s.stripe x.d.seq = some x) ∧
      (s.follows = false) ∧
      (tickTime x (stripeTicks x.d.len) ≤ s.ns) ∧
      (s.rd Reg.GLOBAL_JOB.end_given = 0) ∧
      (s.jobSt = jobExposing)) :=
  ⟨⟨(up []), (5), (1), by decide +kernel⟩,
   ⟨((withStripe (stripe0 .admitted)).wr Reg.TIME_TRIG0_NS.ns 5000000), (0), (5000000), (stripe0 .admitted), by decide +kernel⟩,
   ⟨(({ withStripe ready0 with clk := 4998000 * 2 ^ 32, render := ⟨some 0, 100, [], [], [], 0⟩ }).wrs [(Reg.PAIR_STATUS.halyard_out, 1), (Reg.TIME_LOCK_STRICT.strict, 0), (Reg.GLOBAL_MODE.expose, 1), (Reg.STG_CTRL.enable, 0)]), (ready0), (5000000), by decide +kernel⟩,
   ⟨({ withStripe ready0 with clk := 4998000 * 2 ^ 32 }), (ready0), (5000000), (2), by decide +kernel⟩,
   ⟨({ running0 ended0 [] with clk := 10000000 * 2 ^ 32, job := { State.reset.job with suspendPending := true } }), (ended0), by decide +kernel⟩⟩

/-- Clauses 1, 2. -/
theorem wit_RetrainingHasItsSlot :
    (∃ (s : State),
      (s.trig.slot = 1) ∧
      (s.jobSt = jobTurnaround) ∧
      (s.trig.dwellEnd ≤ s.ns)) ∧
    (∃ (s : State),
      (s.trig.slot = 2) ∧
      (s.trig.dwellEnd + 2500000 ≤ s.ns)) :=
  ⟨⟨({ (laneAt 5 lnActive Lane.init [(Reg.LANE_STATE.retrain_pending 5, 1), (Reg.GLOBAL_JOB.state, jobTurnaround)]) with trig := { State.reset.trig with slot := 1 } }), by decide +kernel⟩,
   ⟨({ (laneAt 5 lnTrain { Lane.init with slot := true } [(Reg.GLOBAL_JOB.state, jobTurnaround)]) with trig := { State.reset.trig with slot := 2 }, clk := 2500000 * 2 ^ 32 }), by decide +kernel⟩⟩

/-- Clauses 1, 2, 3, 4, 5, 6. -/
theorem wit_CalibrationWindowsMeasureBeams :
    (∃ (s : State) (w0 : Nat),
      (s.cal.window = none) ∧
      (s.role ≠ roleStandby) ∧
      (s.trig.calStart = some w0) ∧
      (w0 ≤ s.ns) ∧
      (s.trig.slot ≠ 2) ∧
      (s.jobSt = jobTurnaround) ∧
      (s.rd Reg.CAL_CTRL.enable = 1) ∧
      (s.lockOk = true) ∧
      (s.bwNow ≠ 0) ∧
      (s.job.nextTick + s.bwNow * s.rd Reg.CAL_CTRL.shots ≤ 2 ^ 40) ∧
      (s.pendingFirst = none)) ∧
    (∃ (s : State) (o : LongOp),
      (s.cal.window = none) ∧
      (s.role ≠ roleStandby) ∧
      (s.trig.calStart = none) ∧
      (s.opOfKind kindSweep = some o) ∧
      (o.st = .running) ∧
      (s.jobRuns = false) ∧
      (s.bwNow ≠ 0) ∧
      (s.job.nextTick + s.bwNow * s.rd Reg.CAL_CTRL.shots ≤ 2 ^ 40)) ∧
    (∃ (s : State) (c : CalWindow),
      (s.cal.window = some c) ∧
      (c.fired < c.ticks) ∧
      (c.fits c.fired = true) ∧
      (c.tickAt c.fired ≤ s.ns + 2 * c.tau + s.maxFwd)) ∧
    (∃ (s : State) (t : Nat) (b : Bytes) (c : CalWindow),
      (HeardMsg s t 0x85 b) ∧
      (s.cal.window = some c) ∧
      ((∃ e ∈ s.shot.tlog, e.n = beAt b 1 5 ∧ e.cal = true ∧ ∃ q ∈ e.fired, q.2 = bitsOf (beAt b 6 3) 0 18)) ∧
      (s.job.nextTick ≤ beAt b 1 5 + c.fired) ∧
      (c.seen.contains (beAt b 1 5, bitsOf (beAt b 6 3) 0 18) = false)) ∧
    (∃ (s : State) (t : Nat) (b : Bytes),
      (HeardMsg s t 0x85 b) ∧
      (s.cal.window = none)) ∧
    (∃ (s : State) (c : CalWindow),
      (s.cal.window = some c) ∧
      (c.endsAt ≤ s.ns) ∧
      (c.fired < c.ticks → c.fits c.fired = false) ∧
      (c.sweep = false)) :=
  ⟨⟨({ up [(Reg.GLOBAL_JOB.state, jobTurnaround), (Reg.CAL_CTRL.enable, 1), (Reg.TIME_LOCK_STRICT.strict, 0), (Reg.CAL_WINDOW.window_us, 1000), (Reg.CAL_WINDOW.tau_ns, 800), (Reg.CAL_CTRL.shots, 1)] with trig := { State.reset.trig with calStart := some 0 } }), (0), by decide +kernel⟩,
   ⟨({ up [(Reg.CAL_WINDOW.window_us, 1000), (Reg.CAL_WINDOW.tau_ns, 800), (Reg.CAL_CTRL.shots, 1)] with ops := { State.reset.ops with slots := [op0 kindSweep 0 0 []] } }), (op0 kindSweep 0 0 []), by decide +kernel⟩,
   ⟨({ { up [] with cal := { State.reset.cal with window := some win0 } } with clk := 2000 * 2 ^ 32 }), (win0), by decide +kernel⟩,
   ⟨({ ({ up [] with cal := { State.reset.cal with window := some win0 } }).wr (Reg.LANE_STATE.state 5) lnActive with shot := { State.reset.shot with tlog := [{ tick0 with cal := true, fired := [(5, 20480)] }] } }), (5), (orderedSet 0x85 (toBE 5 7 ++ toBE 3 20480 ++ toBE 2 900)), (win0), by decide +kernel⟩,
   ⟨(laneAt 5 lnActive Lane.init []), (5), (orderedSet 0x85 (toBE 5 7 ++ toBE 3 20480 ++ toBE 2 900)), by decide +kernel⟩,
   ⟨({ { up [] with cal := { State.reset.cal with window := some { win0 with fired := 1 } } } with clk := 100000 * 2 ^ 32 }), ({ win0 with fired := 1 }), by decide +kernel⟩⟩

/-- Clauses 1, 2, 6, 7. -/
theorem wit_TrimsAreWrittenAndCommitted :
    (∃ (s : State) (beam v : Nat),
      (beam < beamsOf s.variant)) ∧
    (∃ (s : State) (beam v : Nat),
      (beamsOf s.variant ≤ beam)) ∧
    (∃ (s : State),
      (s.jobSt = jobArmed ∨ s.jobSt = jobExposing ∨ s.jobSt = jobTurnaround)) ∧
    (∃ (s : State),
      (s.jobQuiet = true) ∧
      (s.role = roleSolo)) :=
  ⟨⟨(up []), (9), (0x30007001), by decide +kernel⟩,
   ⟨(up []), (300000), (1), by decide +kernel⟩,
   ⟨(up [(Reg.GLOBAL_JOB.state, jobArmed)]), by decide +kernel⟩,
   ⟨(up []), by decide +kernel⟩⟩

/-- Clauses 1, 2, 3, 4, 5, 6, 7, 8, 9. -/
theorem wit_PtpFollowsItsMaster :
    (∃ (s : State) (h : PtpHdr) (t1 : PtpTime),
      (s.portUp h.iface = true) ∧
      (h.iface = s.rd Reg.TIME_CTRL.port) ∧
      (h.transport = s.rd Reg.TIME_CTRL.transport) ∧
      (h.domain = s.rd Reg.TIME_CTRL.domain) ∧
      (s.fromMaster h = true) ∧
      (-7 ≤ h.logInterval ∧ h.logInterval ≤ 1)) ∧
    (∃ (s : State) (h : PtpHdr) (t1 : PtpTime),
      (s.portUp h.iface = true) ∧
      (h.iface = s.rd Reg.TIME_CTRL.port) ∧
      (h.transport = s.rd Reg.TIME_CTRL.transport) ∧
      (h.domain = s.rd Reg.TIME_CTRL.domain) ∧
      (s.fromMaster h = true) ∧
      (-7 ≤ h.logInterval ∧ h.logInterval ≤ 1) ∧
      (s.ptp.mpd = none)) ∧
    (∃ (s : State) (h : PtpHdr) (b : Bool) (t1 : PtpTime),
      (s.portUp h.iface = true) ∧
      (h.iface ≠ s.rd Reg.TIME_CTRL.port)) ∧
    (∃ (s : State) (h : PtpHdr) (t1 : PtpTime) (a c : Int),
      (s.portUp h.iface = true) ∧
      (h.iface = s.rd Reg.TIME_CTRL.port) ∧
      (h.transport = s.rd Reg.TIME_CTRL.transport) ∧
      (h.domain = s.rd Reg.TIME_CTRL.domain) ∧
      (s.fromMaster h = true) ∧
      (s.ptp.sync = some (h.seq, a, c)) ∧
      (s.ptp.mpd = none) ∧
      (s.ptp.req.all (fun r => r.sync.isNone && r.resp.isNone) = true)) ∧
    (∃ (s : State) (h : PtpHdr) (t1 : PtpTime) (a c mpd o : Int),
      (s.portUp h.iface = true) ∧
      (h.iface = s.rd Reg.TIME_CTRL.port) ∧
      (h.transport = s.rd Reg.TIME_CTRL.transport) ∧
      (h.domain = s.rd Reg.TIME_CTRL.domain) ∧
      (s.fromMaster h = true) ∧
      (s.ptp.sync = some (h.seq, a, c)) ∧
      (s.ptp.mpd = some mpd) ∧
      (s.ptp.lastOffset = none) ∧
      (s.ptp.req.all (fun r => r.sync.isNone && r.resp.isNone) = true) ∧
      (a - time16 t1 - (c + h.corr) - mpd - signedOf 32 (s.rd (Reg.TIME_ASYM.asym_ps (s.rd Reg.TIME_CTRL.port))) * 65536 / 1000 = o) ∧
      (o.natAbs < 50 * 65536) ∧
      (s.rd Reg.TIME_STATUS.good_syncs < 15) ∧
      (50 ≤ s.rd Reg.TIME_UNLOCK.unlock_ns)) ∧
    (∃ (s : State),
      (s.ptp.lastPair ≠ none ∨ s.ptp.sync ≠ none) ∧
      (s.ptp.master ≠ none) ∧
      (s.portUp (s.rd Reg.TIME_CTRL.port) = true)) ∧
    (∃ (s : State) (h : PtpHdr) (t4 : PtpTime) (r : DelayReq) (t1 t2 cs mpd : Int),
      (s.portUp h.iface = true) ∧
      (h.iface = s.rd Reg.TIME_CTRL.port) ∧
      (h.transport = s.rd Reg.TIME_CTRL.transport) ∧
      (h.domain = s.rd Reg.TIME_CTRL.domain) ∧
      (s.fromMaster h = true) ∧
      (s.ptp.req = some r) ∧
      (r.seq = h.seq) ∧
      (r.pair = some (t1, t2, cs)) ∧
      (((t2 - r.t3) + (time16 t4 - t1) - cs - h.corr) / 2 = mpd)) ∧
    (∃ (s : State) (h : PtpHdr) (t4 : PtpTime) (r : DelayReq),
      (s.portUp h.iface = true) ∧
      (h.iface = s.rd Reg.TIME_CTRL.port) ∧
      (h.transport = s.rd Reg.TIME_CTRL.transport) ∧
      (h.domain = s.rd Reg.TIME_CTRL.domain) ∧
      (s.fromMaster h = true) ∧
      (s.ptp.req = some r) ∧
      (r.seq = h.seq) ∧
      (r.pair = none)) ∧
    (∃ (s : State) (h : PtpHdr) (t1 : PtpTime) (q : Nat) (t3 t2 cs t4 cd mpd : Int),
      (s.portUp h.iface = true) ∧
      (h.iface = s.rd Reg.TIME_CTRL.port) ∧
      (h.transport = s.rd Reg.TIME_CTRL.transport) ∧
      (h.domain = s.rd Reg.TIME_CTRL.domain) ∧
      (s.fromMaster h = true) ∧
      (s.ptp.req = some ⟨q, t3, some (h.seq, t2, cs), none, some (t4, cd)⟩) ∧
      (s.ptp.sync.all (fun x => x.1 ≠ h.seq) = true) ∧
      (((t2 - t3) + (t4 - time16 t1) - (cs + h.corr) - cd) / 2 = mpd)) :=
  ⟨⟨(slaved PtpState.init), (ptph 4), (⟨0, 0⟩), by decide +kernel⟩,
   ⟨(slaved PtpState.init), (ptph 4), (⟨0, 0⟩), by decide +kernel⟩,
   ⟨(slaved PtpState.init), ({ ptph 4 with iface := 1 }), (true), (⟨0, 0⟩), by decide +kernel⟩,
   ⟨(slaved { PtpState.init with sync := some (4, 100, 0) }), (ptph 4), (⟨0, 0⟩), (100), (0), by decide +kernel⟩,
   ⟨(slaved { PtpState.init with sync := some (4, 100, 0), mpd := some 7 }), (ptph 4), (⟨0, 0⟩), (100), (0), (7), (93), by decide +kernel⟩,
   ⟨(slaved { PtpState.init with lastPair := some (1, 2, 3) }), by decide +kernel⟩,
   ⟨(slaved { PtpState.init with req := some ⟨4, 50, none, some (10, 40, 0), none⟩ }), (ptph 4), (⟨0, 1⟩), (⟨4, 50, none, some (10, 40, 0), none⟩), (10), (40), (0), (((40 - 50) + (65536 - 10) - 0 - 0) / 2), by decide +kernel⟩,
   ⟨(slaved { PtpState.init with req := some ⟨4, 50, some (3, 40, 0), none, none⟩ }), (ptph 4), (⟨0, 1⟩), (⟨4, 50, some (3, 40, 0), none, none⟩), by decide +kernel⟩,
   ⟨(slaved { PtpState.init with req := some ⟨3, 50, some (4, 40, 0), none, some (65536, 0)⟩ }), (ptph 4), (⟨0, 0⟩), (3), (50), (40), (0), (65536), (0), (((40 - 50) + (65536 - 0) - (0 + 0) - 0) / 2), by decide +kernel⟩⟩

/-- Clauses 1, 2, 3, 4, 5, 6, 7, 8. -/
theorem wit_MastersComeAndGo :
    (∃ (s : State) (h : PtpHdr) (d : PtpData),
      (s.portUp h.iface = true) ∧
      (h.iface = s.rd Reg.TIME_CTRL.port) ∧
      (h.transport = s.rd Reg.TIME_CTRL.transport) ∧
      (h.domain = s.rd Reg.TIME_CTRL.domain)) ∧
    (∃ (s : State) (h : PtpHdr) (d : PtpData) (m : Master) (a : Nat),
      (s.portUp h.iface = true) ∧
      (h.iface = s.rd Reg.TIME_CTRL.port) ∧
      (h.transport = s.rd Reg.TIME_CTRL.transport) ∧
      (h.domain = s.rd Reg.TIME_CTRL.domain) ∧
      (s.ptp.masters = [m]) ∧
      (s.ptp.master = none) ∧
      (m.sender = senderOf h) ∧
      (m.times = [a]) ∧
      (s.now ≤ a + 4 * intervalNs h.logInterval) ∧
      (s.now ≤ a + 4 * intervalNs m.interval) ∧
      (d.steps < 255) ∧
      (s.rd Reg.TIME_STATUS.locked = 0) ∧
      (h.clock < 2 ^ 64) ∧
      (h.portNo < 65536)) ∧
    (∃ (s : State) (m : Master),
      (s.ptp.master = some m.sender) ∧
      (s.ptp.masters.find? (fun q => s.ptp.master = some q.sender) = some m) ∧
      (m.times.headD 0 + 3 * intervalNs m.interval ≤ s.now) ∧
      (bestMaster s.now (s.ptp.masters.filter (fun q => q.sender ≠ m.sender)) = none)) ∧
    (∃ (s : State) (m g : Master),
      (s.ptp.master = some m.sender) ∧
      (s.ptp.masters.find? (fun q => s.ptp.master = some q.sender) = some m) ∧
      (m.times.headD 0 + 3 * intervalNs m.interval ≤ s.now) ∧
      (bestMaster s.now (s.ptp.masters.filter (fun q => q.sender ≠ m.sender)) = some g)) ∧
    (∃ (s : State),
      (s.ptp.master ≠ none) ∧
      (s.ptp.lastSync + 4 * intervalNs s.ptp.syncLog ≤ s.now) ∧
      (s.rd Reg.TIME_STATUS.holdover = 0)) ∧
    (∃ (s : State) (p : Nat),
      (s.rd (Reg.PORT_STATUS.link_up p) = 1) ∧
      (p < 4) ∧
      (p ≠ s.rd Reg.TIME_CTRL.port)) ∧
    (∃ (s : State) (p : Nat),
      (s.rd (Reg.PORT_STATUS.link_up p) = 1) ∧
      (p < 4) ∧
      (p = s.rd Reg.TIME_CTRL.port) ∧
      (s.rd Reg.TIME_STATUS.holdover = 0)) ∧
    (∃ (s : State) (p : Nat),
      (s.rd (Reg.PORT_CTRL.enable p) = 1) ∧
      (p < 4)) :=
  ⟨⟨(slaved PtpState.init), (ptph 4), (⟨5, 1, 6, 0x21, 0, 1, 0⟩), by decide +kernel⟩,
   ⟨({ slaved PtpState.init with ptp := { PtpState.init with masters := [⟨5, 1, 6, 0x21, 0, 1, 0, 0xABCD * 65536 + 1, [0], 0⟩] } }), (ptph 4), (⟨5, 1, 6, 0x21, 0, 1, 0⟩), (⟨5, 1, 6, 0x21, 0, 1, 0, 0xABCD * 65536 + 1, [0], 0⟩), (0), by decide +kernel⟩,
   ⟨({ (slaved PtpState.init) with now := 4000000000, ptp := { PtpState.init with masters := [⟨5, 1, 6, 0x21, 0, 1, 0, 0xABCD * 65536 + 1, [0], 0⟩], master := some (0xABCD * 65536 + 1) } }), (⟨5, 1, 6, 0x21, 0, 1, 0, 0xABCD * 65536 + 1, [0], 0⟩), by decide +kernel⟩,
   ⟨({ (slaved PtpState.init) with now := 4000000000, ptp := { PtpState.init with masters := [⟨5, 1, 6, 0x21, 0, 1, 0, 0xABCD * 65536 + 1, [0], 0⟩, ⟨5, 1, 6, 0x21, 0, 1, 0, 0xABCE * 65536 + 1, [4000000000, 4000000000], 0⟩], master := some (0xABCD * 65536 + 1) } }), (⟨5, 1, 6, 0x21, 0, 1, 0, 0xABCD * 65536 + 1, [0], 0⟩), (⟨5, 1, 6, 0x21, 0, 1, 0, 0xABCE * 65536 + 1, [4000000000, 4000000000], 0⟩), by decide +kernel⟩,
   ⟨({ (slaved PtpState.init).wr Reg.TIME_STATUS.locked 1 with now := 4000000000 }), by decide +kernel⟩,
   ⟨(slaved PtpState.init), (1), by decide +kernel⟩,
   ⟨(slaved PtpState.init), (2), by decide +kernel⟩,
   ⟨(State.reset.wr (Reg.PORT_CTRL.enable 1) 1), (1), by decide +kernel⟩⟩

/-- Clauses 1, 2, 3, 4, 5, 6, 7, 8, 9. -/
theorem wit_ClockAndEdges :
    (∃ (s : State) (v : Nat),
      (s.rd Reg.TIME_CTRL.servo_en = 0)) ∧
    (∃ (s : State) (v : Nat),
      (s.rd Reg.TIME_CTRL.servo_en ≠ 0)) ∧
    (∃ (s : State) (o : Int) (at_ : Nat),
      (s.rd Reg.TIME_STATUS.step_pending = 1) ∧
      (s.rd Reg.TIME_CTRL.step_en = 1) ∧
      (s.stepWindow = true) ∧
      (s.ptp.lastOffset = some (o, at_)) ∧
      (100000 * 65536 < o.natAbs)) ∧
    (∃ (s : State) (e : TickEntry),
      (s.shot.tlog.reverse.find? (fun e => e.launched && decide (s.trig.tickOut ≤ e.n)) = some e) ∧
      (e.time + s.rd Reg.TIME_TICK_OUT.delay_ns ≤ s.ns)) ∧
    (∃ (s : State) (v : Nat) (q g : PulseUnit) (a : Nat),
      (2 ≤ v) ∧
      (s.trig.pulses[v - 2]? = some q) ∧
      (q.enable = true ∧ g = q ∨ q.enable = false ∧ g = s.pulseRegs v q.last) ∧
      (g.enable = true) ∧
      (s.edgeAt g = some a) ∧
      (∀ l, q.last = some l → l < a)) ∧
    (∃ (s : State) (c : Nat) (rising out : Bool) (fifo : List CapEdge),
      (c < 4) ∧
      ((if c = 3 ∧ s.rd (Reg.TIME_CAP_CTRL.halyard_out 3) = 1 then out else !out) = true) ∧
      (edgeWanted (s.rd (Reg.TIME_CAP_CTRL.edge c)) rising = true) ∧
      (s.trig.caps.getD c [] = fifo) ∧
      (fifo.length < 16) ∧
      (s.trig.caps.length = 4)) ∧
    (∃ (s : State) (c : Nat) (rising out : Bool),
      (c < 4) ∧
      ((if c = 3 ∧ s.rd (Reg.TIME_CAP_CTRL.halyard_out 3) = 1 then out else !out) = true) ∧
      (edgeWanted (s.rd (Reg.TIME_CAP_CTRL.edge c)) rising = true) ∧
      (16 ≤ (s.trig.caps.getD c []).length) ∧
      (s.trig.capTold.getD c none = none)) ∧
    (∃ (s : State) (who : Src) (c : Nat) (e : CapEdge) (rest : List CapEdge),
      (c < 4) ∧
      (s.trig.caps.getD c [] = e :: rest) ∧
      (s.trig.caps.length = 4)) ∧
    (∃ (s : State) (who : Src) (a : Nat),
      (groupOf a ≠ []) ∧
      (capTag a = none)) :=
  ⟨⟨(up [(Reg.TIME_CTRL.servo_en, 0)]), (5), by decide +kernel⟩,
   ⟨(up [(Reg.TIME_CTRL.servo_en, 1)]), (5), by decide +kernel⟩,
   ⟨({ up [(Reg.TIME_STATUS.step_pending, 1), (Reg.TIME_CTRL.step_en, 1)] with ptp := { PtpState.init with lastOffset := some (-200000 * 65536, 0) } }), (-200000 * 65536), (0), by decide +kernel⟩,
   ⟨((running0 (going 0 1 1 1) [{ dark0 with launched := true }]).wr Reg.TIME_TICK_OUT.enable 1), ({ dark0 with launched := true }), by decide +kernel⟩,
   ⟨({ up [(Reg.TIME_PULSE_CTRL.enable 2, 1)] with trig := { TrigState.init with pulses := [{ PulseUnit.init 2 with enable := true }] } }), (2), ({ PulseUnit.init 2 with enable := true }), ({ PulseUnit.init 2 with enable := true }), (0), by decide +kernel⟩,
   ⟨(up [(Reg.TIME_CAP_CTRL.edge 1, 1)]), (1), (true), (false), ([]), by decide +kernel⟩,
   ⟨({ up [(Reg.TIME_CAP_CTRL.edge 1, 1)] with trig := { TrigState.init with caps := [[], List.replicate 16 ⟨0, true⟩, [], []] } }), (1), (true), (false), by decide +kernel⟩,
   ⟨({ up [(Reg.TIME_CAP_CTRL.count 1, 1)] with trig := { TrigState.init with caps := [[], [⟨7, true⟩], [], []] } }), (host), (1), (⟨7, true⟩), ([]), by decide +kernel⟩,
   ⟨(up []), (host), (0x30000), by decide +kernel⟩⟩

/-- Clauses 1, 2, 3. -/
theorem wit_StageReportsAreTakenOrDiscarded :
    (∃ (s : State) (src : Src) (b : Bytes),
      (s.portUp src.iface = true) ∧
      (s.frameFits src.iface (udpFrameLen src.v6 b.length) = true) ∧
      (s.ipOn src = true) ∧
      (src.iface = 2) ∧
      (s.rd Reg.STG_CTRL.enable = 1) ∧
      (s.reportOk b (reportOf b (s.now16 - ps16 (s.rd (Reg.TIME_PHY_LAT.rx_ps 2))).toNat) = true)) ∧
    (∃ (s : State) (src : Src) (b : Bytes),
      (s.portUp src.iface = true) ∧
      (s.frameFits src.iface (udpFrameLen src.v6 b.length) = true) ∧
      (s.ipOn src = true) ∧
      (src.iface = 2) ∧
      (s.rd Reg.STG_CTRL.enable = 1) ∧
      (s.reportOk b (reportOf b (s.now16 - ps16 (s.rd (Reg.TIME_PHY_LAT.rx_ps 2))).toNat) = false) ∧
      (s.stage.lastTold.all (fun t => t + giga ≤ s.now) = true)) ∧
    (∃ (s : State) (src : Src) (b : Bytes),
      (s.portUp src.iface = true) ∧
      (s.frameFits src.iface (udpFrameLen src.v6 b.length) = true) ∧
      (s.ipOn src = true) ∧
      (src.iface < 2)) :=
  ⟨⟨(up []), (stageSrc), (rep40), by decide +kernel⟩,
   ⟨(up []), (stageSrc), (zeros 40), by decide +kernel⟩,
   ⟨(up []), (host), (rep40), by decide +kernel⟩⟩

/-- Clauses 1, 2, 3, 4, 5, 6, 7. -/
theorem wit_DramRequestsAreServed :
    (∃ (s : State) (sc : Nat) (fill : PortFill) (x : Transfer) (r : DramReq),
      (r.write = true) ∧
      (r.mask = fullMask) ∧
      (x = .good) ∧
      (reqChecked r = true → (s.rd Reg.DMC_STATUS.sc_failed).testBit sc = false) ∧
      (s.subchannels.contains sc = true) ∧
      (sc < 4) ∧
      ((s.placeOf r.line).sc = sc) ∧
      ((s.rd Reg.DMC_STATUS.sc_training).testBit sc = false) ∧
      (s.mayUse r = true) ∧
      (s.dram.queues = []) ∧
      (s.dram.ports = []) ∧
      (s.dram.ladle = []) ∧
      (s.dram.refetch = []) ∧
      (r.cls < 5) ∧
      (s.mayActivate sc r = true) ∧
      (s.panicPorts fill = 0) ∧
      (s.rd Reg.DMC_STATUS.panic = 0)) ∧
    (∃ (s : State) (sc : Nat) (fill : PortFill) (x : Transfer) (r : DramReq),
      (r.write = false) ∧
      (s.subchannels.contains sc = true) ∧
      (sc < 4) ∧
      ((s.placeOf r.line).sc = sc) ∧
      ((s.rd Reg.DMC_STATUS.sc_training).testBit sc = false) ∧
      (s.mayUse r = true) ∧
      (s.dram.queues = []) ∧
      (s.dram.ports = []) ∧
      (s.dram.ladle = []) ∧
      (s.dram.refetch = []) ∧
      (r.cls < 5) ∧
      (s.mayActivate sc r = true) ∧
      (s.panicPorts fill = 0) ∧
      (s.rd Reg.DMC_STATUS.panic = 0)) ∧
    (∃ (s : State) (sc : Nat) (fill : PortFill) (x : Transfer) (r : DramReq),
      (r.write = true) ∧
      (r.mask ≠ 0) ∧
      (r.mask ≠ fullMask) ∧
      (s.mayUse r = true) ∧
      (s.dram.ladle.find? (fun e => e.line = r.line) = none) ∧
      (s.dram.ladle.length < 32) ∧
      (s.dram.ports = []) ∧
      ((s.rd Reg.DMC_STATUS.sc_training).testBit sc = true) ∧
      (s.panicPorts fill = 0) ∧
      (s.rd Reg.DMC_STATUS.panic = 0)) ∧
    (∃ (s : State) (sc : Nat) (fill : PortFill) (x : Transfer) (r : DramReq),
      (r.write = true) ∧
      (r.mask = 0) ∧
      (s.dram.ladle.all (fun e => !ofRequester r.requester e.req) = true) ∧
      (s.dram.ports = []) ∧
      ((s.rd Reg.DMC_STATUS.sc_training).testBit sc = true) ∧
      (s.panicPorts fill = 0) ∧
      (s.rd Reg.DMC_STATUS.panic = 0)) ∧
    (∃ (s : State) (e : LadleEnt) (rest : List LadleEnt),
      (s.dram.ladle = e :: rest) ∧
      (∀ x ∈ rest, x.line ≠ e.line) ∧
      (e.since + 2000 ≤ s.now) ∧
      (s.dram.ports = []) ∧
      (s.bankQueue (bankKey (s.placeOf e.line)) = []) ∧
      (s.refetches (bankKey (s.placeOf e.line)) < 16) ∧
      (s.inFlight (s.placeOf e.line).sc < 128) ∧
      (e.req.line = e.line)) ∧
    (∃ (s : State) (q : Nat) (f : Nat × List Nat),
      (s.dram.fences.find? (fun f => f.1 = q) = some f) ∧
      (s.openWrites (fun r => f.2.contains r.tag) = [])) ∧
    (∃ (s : State) (q : Nat) (f : Nat × List Nat),
      (s.dram.fences.find? (fun f => f.1 = q) = some f) ∧
      (s.openWrites (fun r => f.2.contains r.tag) ≠ [])) :=
  ⟨⟨(dramOf DramState.init []), (0), (⟨0, 0, 0, false⟩), (.good), (req0 true fullMask), by decide +kernel⟩,
   ⟨(dramOf { DramState.init with lines := [(40, lineOf 40 5 6 0 false)] } []), (0), (⟨0, 0, 0, false⟩), (.once), (req0 false fullMask), by decide +kernel⟩,
   ⟨(dramOf DramState.init [(Reg.DMC_STATUS.sc_training, 1)]), (0), (⟨0, 0, 0, false⟩), (.good), (req0 true 1), by decide +kernel⟩,
   ⟨(dramOf DramState.init [(Reg.DMC_STATUS.sc_training, 1)]), (0), (⟨0, 0, 0, false⟩), (.good), (req0 true 0), by decide +kernel⟩,
   ⟨({ dramOf { DramState.init with ladle := [⟨40, 1, 5, 0, req0 true 1⟩] } [] with now := 2000 }), (⟨40, 1, 5, 0, req0 true 1⟩), ([]), by decide +kernel⟩,
   ⟨(dramOf { DramState.init with fences := [(2, [7])] } []), (2), ((2, [7])), by decide +kernel⟩,
   ⟨(dramOf { DramState.init with fences := [(2, [0])], ports := [req0 true 1] } []), (2), ((2, [0])), by decide +kernel⟩⟩

/-- Clauses 1, 2, 3, 4, 5, 6, 7, 8, 9, 10, 11, 12, 13, 14, 15, 16. -/
theorem wit_DramErrorsAreFollowedUp :
    (∃ (s : State) (bad : Bool) (r : DramReq),
      (s.dram.refetch.find? (fun r => !s.classWaits r.cls && !(s.rd Reg.DMC_STATUS.sc_training).testBit (s.placeOf r.line).sc) = some r) ∧
      (s.readFault r.line r.region r.gen = none) ∧
      (bad = false)) ∧
    (∃ (s : State) (bad : Bool) (r : DramReq) (k : Nat),
      (s.dram.refetch.find? (fun r => !s.classWaits r.cls && !(s.rd Reg.DMC_STATUS.sc_training).testBit (s.placeOf r.line).sc) = some r) ∧
      (s.readFault r.line r.region r.gen = some k ∨ s.readFault r.line r.region r.gen = none ∧ bad = true ∧ k = 0)) ∧
    (∃ (s : State) (line region gen : Nat),
      (s.dram.lastLine + s.whiskPeriod ≤ s.now) ∧
      (s.rd Reg.DMC_STATUS.ready ≠ 0) ∧
      (s.classWaits 3 = false) ∧
      (s.dram.scrubOp = false) ∧
      (s.rd Reg.DMC_SCRUB_POS.line = line) ∧
      (s.whiskSkips line = false) ∧
      (tabFind s.dram.allocs line = some (region, gen)) ∧
      (s.readFault line region gen = none)) ∧
    (∃ (s : State) (x : Transfer) (line region gen k : Nat),
      (s.dram.lastLine + s.whiskPeriod ≤ s.now) ∧
      (s.rd Reg.DMC_STATUS.ready ≠ 0) ∧
      (s.classWaits 3 = false) ∧
      (s.dram.scrubOp = false) ∧
      (s.rd Reg.DMC_SCRUB_POS.line = line) ∧
      (s.whiskSkips line = false) ∧
      (tabFind s.dram.allocs line = some (region, gen)) ∧
      (s.readFault line region gen = some k) ∧
      (region < 5)) ∧
    (∃ (s : State) (line : Nat),
      (s.dram.lastLine + s.whiskPeriod ≤ s.now) ∧
      (s.rd Reg.DMC_STATUS.ready ≠ 0) ∧
      (s.classWaits 3 = false) ∧
      (s.dram.scrubOp = false) ∧
      (s.rd Reg.DMC_SCRUB_POS.line = line) ∧
      (s.whiskSkips line = false) ∧
      (tabFind s.dram.allocs line = none) ∧
      ((s.rd Reg.DMC_STATUS.sc_failed).testBit (s.placeOf line).sc = false)) ∧
    (∃ (s : State) (x : Transfer) (line : Nat),
      (s.dram.lastLine + s.whiskPeriod ≤ s.now) ∧
      (s.rd Reg.DMC_STATUS.ready ≠ 0) ∧
      (s.classWaits 3 = false) ∧
      (s.dram.scrubOp = false) ∧
      (s.rd Reg.DMC_SCRUB_POS.line = line) ∧
      (s.whiskSkips line = true)) ∧
    (∃ (s : State) (mb : Bool),
      (s.cal.badGroups = []) ∧
      (s.cal.badShadow = []) ∧
      (s.dram.lastTrim + 2000 ≤ s.now)) ∧
    (∃ (s : State) (bad mb : Bool) (g : Nat),
      (s.cal.badGroups.find? (fun x => !s.cal.toldBad.contains x) = some g) ∧
      (s.mirrorWriting = false) ∧
      ((mb || s.mirrorFails g) = true)) ∧
    (∃ (s : State) (bad : Bool) (g : Nat),
      (s.cal.badGroups.find? (fun x => !s.cal.toldBad.contains x) = some g) ∧
      (s.mirrorWriting = false) ∧
      (s.mirrorFails g = false)) ∧
    (∃ (s : State) (temps : List Int) (c : Nat) (wide : Bool),
      (s.dram.train = none) ∧
      (s.rd Reg.DMC_STATUS.ready ≠ 0) ∧
      (s.jobQuiet = true ∨ s.jobSt = jobTurnaround) ∧
      (s.nextSweep temps = some (c, wide)) ∧
      (s.dram.due.contains c = false) ∧
      (c < 4)) ∧
    (∃ (s : State) (runs : List (List (Nat × Nat × Nat))) (pattern wide : Bool) (width lane c : Nat) (temp : Int),
      (s.dram.train = some ⟨c, wide, false, temp⟩) ∧
      (c < 4) ∧
      (s.dram.ports = []) ∧
      (narrowest (s.sweepRuns ⟨c, wide, false, temp⟩ runs) = (width, lane)) ∧
      (0 < width ∨ pattern = true)) ∧
    (∃ (s : State) (runs : List (List (Nat × Nat × Nat))) (wide : Bool) (c : Nat) (temp : Int),
      (s.dram.train = some ⟨c, wide, false, temp⟩) ∧
      (c < 4) ∧
      (s.dram.ports = []) ∧
      ((narrowest (s.sweepRuns ⟨c, wide, false, temp⟩ runs)).1 = 0) ∧
      ((s.rd Reg.DMC_STATUS.sc_failed).testBit c = false)) ∧
    (∃ (s : State) (bad unv rest : List Nat) (loc : Nat),
      (s.dram.repairs = loc :: rest) ∧
      (s.jobSt = jobTurnaround) ∧
      (s.dram.repaired = false) ∧
      (s.dram.train = none) ∧
      (s.dram.retired.length < 64) ∧
      (s.dram.retired.contains (locRow loc) = false)) ∧
    (∃ (s : State) (bad unv rest : List Nat) (loc : Nat),
      (s.dram.repairs = loc :: rest) ∧
      (s.jobSt = jobTurnaround) ∧
      (s.dram.repaired = false) ∧
      (s.dram.train = none)) ∧
    (∃ (s : State) (l : Location),
      (s.check.tests.contains l = true) ∧
      (l.kind = 1 → (s.rd Reg.DMC_STATUS.sc_training).testBit (bitsOf l.loc 26 2) = false)) ∧
    (∃ (s : State) (l : Location),
      (s.check.tests.contains l = true) ∧
      (l.kind = 1 → (s.rd Reg.DMC_STATUS.sc_training).testBit (bitsOf l.loc 26 2) = false)) :=
  ⟨⟨(dramOf { DramState.init with refetch := [⟨1, 2, false, 40, 1, 0, 0, 0, false, false, 0, []⟩] } []), (false), (⟨1, 2, false, 40, 1, 0, 0, 0, false, false, 0, []⟩), by decide +kernel⟩,
   ⟨(dramOf { DramState.init with refetch := [req0 false fullMask] } []), (false), (req0 false fullMask), (2), by decide +kernel⟩,
   ⟨({ dramOf { DramState.init with lines := [(40, lineOf 40 5 6 0 false)], allocs := [(40, (6, 0))] } [(Reg.DMC_SCRUB_POS.line, 40)] with now := 1000000000000 }), (40), (6), (0), by decide +kernel⟩,
   ⟨({ dramOf { DramState.init with lines := [(40, lineOf 40 5 1 0 false)], allocs := [(40, (1, 3))] } [(Reg.DMC_SCRUB_POS.line, 40)] with now := 1000000000000 }), (.good), (40), (1), (3), (1), by decide +kernel⟩,
   ⟨({ dramOf DramState.init [(Reg.DMC_SCRUB_POS.line, 40)] with now := 1000000000000 }), (40), by decide +kernel⟩,
   ⟨({ dramOf DramState.init [(Reg.DMC_SCRUB_POS.line, 40), (Reg.DMC_STATUS.sc_training, 15)] with now := 1000000000000 }), (.good), (40), by decide +kernel⟩,
   ⟨({ up [] with now := 2000 }), (true), by decide +kernel⟩,
   ⟨({ up [] with cal := { CalState.init with badGroups := [3] } }), (false), (true), (3), by decide +kernel⟩,
   ⟨({ up [] with cal := { CalState.init with badGroups := [3] } }), (false), (3), by decide +kernel⟩,
   ⟨({ dramOf DramState.init [] with now := 10000000000000 }), ([]), (0), (false), by decide +kernel⟩,
   ⟨(dramOf { DramState.init with train := some ⟨1, false, false, 40⟩ } []), ([]), (true), (false), (0), (0), (1), (40), by decide +kernel⟩,
   ⟨(dramOf { DramState.init with train := some ⟨1, false, false, 40⟩ } []), ([]), (false), (1), (40), by decide +kernel⟩,
   ⟨(dramOf { DramState.init with repairs := [16] } [(Reg.GLOBAL_JOB.state, jobTurnaround)]), ([]), ([]), ([]), (16), by decide +kernel⟩,
   ⟨(dramOf { DramState.init with repairs := [16] } [(Reg.GLOBAL_JOB.state, jobTurnaround)]), ([]), ([]), ([]), (16), by decide +kernel⟩,
   ⟨({ up [] with check := { CheckState.init with tests := [⟨3, 5⟩] } }), (⟨3, 5⟩), by decide +kernel⟩,
   ⟨({ up [] with check := { CheckState.init with tests := [⟨3, 5⟩] } }), (⟨3, 5⟩), by decide +kernel⟩⟩

/-- Clauses 1, 2, 3, 4, 5, 6. -/
theorem wit_RefreshWindowsAndRegions :
    (∃ (s : State) (sc : Nat),
      (s.rd Reg.DMC_STATUS.panic = 0 ∨ 4 ≤ tabGet 0 s.dram.debt sc)) ∧
    (∃ (s : State) (sc : Nat),
      (s.rd Reg.DMC_STATUS.panic ≠ 0) ∧
      (tabGet 0 s.dram.debt sc < 4)) ∧
    (∃ (s : State),
      (s.ns / 1000 ≠ s.dram.actWindow)) ∧
    (∃ (s : State),
      (s.dram.actClear + 32000000 ≤ s.now)) ∧
    (∃ (s : State) (r size : Nat),
      (2 ≤ r) ∧
      (r ≤ 7) ∧
      (s.jobSt = jobIdle) ∧
      (size < 256) ∧
      (size ≠ s.rd (Reg.DMC_REGION.size r)) ∧
      (([2, 3, 4, 5, 6, 7, 8].map (fun k => if k = r then size else s.rd (Reg.DMC_REGION.size k))).sum + 16 ≤ s.units)) ∧
    (∃ (s : State) (r size : Nat),
      (s.jobSt ≠ jobIdle ∨ r < 2 ∨ 7 < r ∨ s.units < ([2, 3, 4, 5, 6, 7, 8].map (fun k => if k = r then size else s.rd (Reg.DMC_REGION.size k))).sum + 16)) :=
  ⟨⟨(dramOf DramState.init []), (1), by decide +kernel⟩,
   ⟨(dramOf DramState.init [(Reg.DMC_STATUS.panic, 1)]), (1), by decide +kernel⟩,
   ⟨({ up [] with clk := 1000 * 2 ^ 32 }), by decide +kernel⟩,
   ⟨({ up [] with now := 32000000 }), by decide +kernel⟩,
   ⟨(up []), (3), (9), by decide +kernel⟩,
   ⟨(up [(Reg.GLOBAL_JOB.state, jobArmed)]), (3), (9), by decide +kernel⟩⟩

/-- Clauses 1, 2, 3. -/
theorem wit_SignaturesAndRecordChunks :
    (∃ (s : State) (x : Stripe),
      (s.stripeToSign = some x) ∧
      (s.stripe x.d.seq = some x)) ∧
    (∃ (s : State) (band seg : Nat) (x : Stripe),
      (s.recStripe = some x) ∧
      (x.lat.recMode = 1) ∧
      (x.recFallback = false) ∧
      (256 * seg < widthOf s.variant) ∧
      (256 * band < x.d.len) ∧
      ((x.d.seq, 32 * band + seg) ∉ s.check.recDone) ∧
      (s.bandDone x band seg = true) ∧
      (131104 ≤ s.recRoom) ∧
      (s.check.recs.length = 4)) ∧
    (∃ (s : State) (band seg : Nat) (x : Stripe),
      (s.recStripe = some x) ∧
      (s.stripe x.d.seq = some x) ∧
      (x.lat.recMode = 1) ∧
      (x.recFallback = false) ∧
      (256 * seg < widthOf s.variant) ∧
      (256 * band < x.d.len) ∧
      ((x.d.seq, 32 * band + seg) ∉ s.check.recDone) ∧
      (s.bandDone x band seg = true) ∧
      (s.recRoom < 32)) :=
  ⟨⟨(overState 0), (over0 0), by decide +kernel⟩,
   ⟨(overState 1), (0), (0), (over0 1), by decide +kernel⟩,
   ⟨((overState 1).wr (Reg.DMC_REGION.size 5) 1), (0), (0), (over0 1), by decide +kernel⟩⟩

/-- Clauses 1, 2, 3, 4, 5, 6. -/
theorem wit_RecordStreamsReachTheHost :
    (∃ (s : State) (src : Src) (b : Bytes) (g : DstSeg),
      (Heard s src b.length) ∧
      (parseDst jobTypes b = .seg g) ∧
      (g.stream < 4) ∧
      (g.typ = 2) ∧
      (g.ackLen = 0) ∧
      (g.window = 128) ∧
      (s.check.recs.length = 4)) ∧
    (∃ (s : State) (src : Src) (b : Bytes) (g : DstSeg),
      (Heard s src b.length) ∧
      (parseDst jobTypes b = .seg g) ∧
      (g.stream < 4) ∧
      (g.typ = 2) ∧
      (g.ackLen ≠ 0) ∧
      ((s.recStream g.stream).peer = some src) ∧
      ((s.recStream g.stream).queue = []) ∧
      (s.check.recs.length = 4)) ∧
    (∃ (s : State) (src : Src) (b : Bytes) (g : DstSeg),
      (Heard s src b.length) ∧
      (parseDst jobTypes b = .seg g) ∧
      (g.stream < 4) ∧
      (g.typ = 2) ∧
      (g.ackLen ≠ 0) ∧
      ((s.recStream g.stream).peer ≠ some src)) ∧
    (∃ (s : State) (src : Src) (b : Bytes) (g : DstSeg),
      (Heard s src b.length) ∧
      (parseDst jobTypes b = .seg g) ∧
      (g.stream < 4) ∧
      (g.typ = 3) ∧
      ((s.recStream g.stream).peer = some src) ∧
      ((s.recStream g.stream).queue = []) ∧
      (s.check.recs.length = 4)) ∧
    (∃ (s : State) (k : Nat) (dest : Src),
      ((s.recStream k).peer = some dest) ∧
      (k < 4) ∧
      (s.check.recs.length = 4)) ∧
    (∃ (s : State) (k : Nat),
      ((s.recStream k).peer ≠ none) ∧
      (∃ e ∈ (s.recStream k).sent, e.2.2.1 ≠ []) ∧
      ((s.recStream k).lastAck + 100000000 ≤ s.now) ∧
      (k < 4) ∧
      (s.check.recs.length = 4)) :=
  ⟨⟨(up []), (host), (dstBytes (recSeg 2 0 128 [])), (recSeg 2 0 128 []), by decide +kernel⟩,
   ⟨(attached2), (host), (dstBytes (recSeg 2 8 100 [])), (recSeg 2 8 100 []), by decide +kernel⟩,
   ⟨(up []), (host), (dstBytes (recSeg 2 8 100 [])), (recSeg 2 8 100 []), by decide +kernel⟩,
   ⟨(attached2), (host), (dstBytes (recSeg 3 7 100 [8])), (recSeg 3 7 100 [8]), by decide +kernel⟩,
   ⟨({ attached2 with now := 1000000 }), (2), (host), by decide +kernel⟩,
   ⟨({ attached2 with now := 100000000 }), (2), by decide +kernel⟩⟩

/-- Clauses 1, 2, 3, 4, 5, 6, 7, 8, 9, 10, 11, 12. -/
theorem wit_GrantsDecideWhoDrivesTheLanes :
    (∃ (s : State),
      (s.role = roleStandby) ∧
      (s.pair.lockout = false) ∧
      (s.healthy = true)) ∧
    (∃ (s : State),
      (s.role = roleStandby) ∧
      (s.pair.lockout = false)) ∧
    (∃ (s : State) (a : Nat),
      (s.pair.refusedAt = some a) ∧
      (a + 1000000 ≤ s.now)) ∧
    (∃ (s : State),
      (s.role = roleActive) ∧
      (s.holdsLanes = true)) ∧
    (∃ (s : State),
      (s.holdsLanes = false)) ∧
    (∃ (s : State),
      (s.role = roleActive) ∧
      (s.holdsLanes = true)) ∧
    (∃ (s : State) (seq a : Nat),
      (s.pair.handover = some (seq, a)) ∧
      (s.role = roleActive) ∧
      (s.handoverCommitted = true ∨ a + 100000 ≤ s.now)) ∧
    (∃ (s : State) (x : Stripe),
      (s.pair.takeover = some x.d.seq) ∧
      (s.stripe x.d.seq = some x) ∧
      (s.rd Reg.PAIR_TAKEOVER.ready = 0) ∧
      (s.lanesReported = true) ∧
      (s.pair.resumable = true)) ∧
    (∃ (s : State) (x : Stripe),
      (s.pair.takeover = some x.d.seq) ∧
      (s.stripe x.d.seq = some x) ∧
      (s.rd Reg.PAIR_TAKEOVER.ready = 0) ∧
      (s.lanesReported = true) ∧
      (s.pair.resumable = false) ∧
      (s.jobSt = jobExposing)) ∧
    (∃ (s : State),
      (s.healthy = true) ∧
      (s.power.hbEdge + (if s.pair.revertAsked then 1000 * s.rd Reg.PAIR_HB.half_us / 2 else 1000 * s.rd Reg.PAIR_HB.half_us) ≤ s.now)) ∧
    (∃ (s : State),
      (s.healthy = false)) ∧
    (∃ (s : State),
      (s.hkc.alive + 1000000 * s.rd Reg.PAIR_HB.hkc_ms ≤ s.now)) :=
  ⟨⟨(paired roleStandby 0 PairState.init []), by decide +kernel⟩,
   ⟨(paired roleStandby 0 PairState.init []), by decide +kernel⟩,
   ⟨({ paired roleStandby 0 { PairState.init with refusedAt := some 0 } [] with now := 1000000 }), (0), by decide +kernel⟩,
   ⟨(paired roleActive 0 PairState.init [(Reg.PAIR_STATUS.halyard_out, 1), (Reg.LANE_STATE.state 5, lnTrain)]), by decide +kernel⟩,
   ⟨(paired roleStandby 0 { PairState.init with lockout := true } []), by decide +kernel⟩,
   ⟨(paired roleActive 0 PairState.init [(Reg.PAIR_STATUS.halyard_out, 1)]), by decide +kernel⟩,
   ⟨(paired roleActive 0 { PairState.init with handover := some (3, 0) } [(Reg.PAIR_STATUS.halyard_out, 1)]), (3), (0), by decide +kernel⟩,
   ⟨({ withStripe (going 0 0 0 0) with pair := { PairState.init with takeover := some 0, resumable := true } }.wrs noLanes), (going 0 0 0 0), by decide +kernel⟩,
   ⟨({ running0 (going 0 0 0 0) [] with pair := { PairState.init with takeover := some 0 } }.wrs noLanes), (going 0 0 0 0), by decide +kernel⟩,
   ⟨({ up [] with now := 1000000000 }), by decide +kernel⟩,
   ⟨(State.reset), by decide +kernel⟩,
   ⟨({ up [] with now := 1000000000000 }), by decide +kernel⟩⟩

/-- Clauses 1, 2, 3, 4, 5, 6, 7, 8, 9, 10. -/
theorem wit_PairLinkComesAndGoes :
    (∃ (s : State),
      (s.role ≠ roleSolo) ∧
      (s.pair.lastHello + 10000 ≤ s.now)) ∧
    (∃ (s : State) (m : Bytes),
      (s.role ≠ roleSolo) ∧
      (parsePair m = none)) ∧
    (∃ (s : State) (f : PairFrame) (m : Bytes) (v fw role job lastGen : Nat) (pref healthy synced : Bool),
      (s.role ≠ roleSolo) ∧
      (parsePair m = some f) ∧
      (f.body = .hello v fw pref healthy synced role job lastGen) ∧
      (v ≠ s.variant)) ∧
    (∃ (s : State) (f : PairFrame) (m : Bytes) (v fw role job lastGen : Nat) (pref healthy synced : Bool),
      (s.role ≠ roleSolo) ∧
      (parsePair m = some f) ∧
      (f.body = .hello v fw pref healthy synced role job lastGen) ∧
      (v = s.variant) ∧
      (s.rd Reg.PAIR_STATUS.link_up = 0)) ∧
    (∃ (s : State),
      (s.rd Reg.PAIR_STATUS.link_up = 1) ∧
      (s.pair.lastGood + 50000 ≤ s.now)) ∧
    (∃ (s : State),
      (s.rd Reg.PAIR_STATUS.link_up = 1)) ∧
    (∃ (s : State) (f : PairFrame) (m : Bytes) (g : Nat),
      (s.role = roleActive) ∧
      (parsePair m = some f) ∧
      (f.body = .ack g) ∧
      (g < 2 ^ 32) ∧
      (serialBefore 32 (s.rd Reg.PAIR_GEN_ACK.gen) g = true) ∧
      (s.pair.probeAt = none)) ∧
    (∃ (s : State) (f : PairFrame) (m : Bytes),
      (s.role = roleActive) ∧
      (parsePair m = some f) ∧
      (f.body = .revertReq)) ∧
    (∃ (s : State),
      (s.role = roleActive) ∧
      (s.pair.store ≠ []) ∧
      (s.pair.mirrorDown = false) ∧
      (s.pair.progress + 2000 ≤ s.now)) ∧
    (∃ (s : State) (a : Nat),
      (s.pair.resending = some a) ∧
      (s.role = roleActive) ∧
      (a + 100000 ≤ s.now) ∧
      (s.pair.mirrorDown = false)) :=
  ⟨⟨({ paired roleActive 0 PairState.init [] with now := 10000 }), by decide +kernel⟩,
   ⟨(paired roleStandby 0 PairState.init []), ((frameBytes (frame0 0 .revertReq)).reverse), by decide +kernel⟩,
   ⟨(paired roleStandby 0 PairState.init []), (frame0 0 (.hello 1 7 true true false 2 0 0)), (frameBytes (frame0 0 (.hello 1 7 true true false 2 0 0))), (1), (7), (2), (0), (0), (true), (true), (false), by decide +kernel⟩,
   ⟨(paired roleStandby 0 PairState.init []), (frame0 0 (.hello 0 7 true true false 2 0 0)), (frameBytes (frame0 0 (.hello 0 7 true true false 2 0 0))), (0), (7), (2), (0), (0), (true), (true), (false), by decide +kernel⟩,
   ⟨({ paired roleStandby 1 PairState.init [] with now := 50000 }), by decide +kernel⟩,
   ⟨(paired roleStandby 1 PairState.init []), by decide +kernel⟩,
   ⟨(paired roleActive 1 { PairState.init with store := [(1, frame0 1 .revertReq), (2, frame0 2 .revertReq)] } []), (frame0 0 (.ack 1)), (frameBytes (frame0 0 (.ack 1))), (1), by decide +kernel⟩,
   ⟨(paired roleActive 1 PairState.init []), (frame0 0 .revertReq), (frameBytes (frame0 0 .revertReq)), by decide +kernel⟩,
   ⟨({ paired roleActive 1 { PairState.init with store := [(1, frame0 1 .revertReq)] } [] with now := 2000 }), by decide +kernel⟩,
   ⟨({ paired roleActive 1 { PairState.init with resending := some 0 } [] with now := 100000 }), (0), by decide +kernel⟩⟩

/-- Clauses 1, 2, 3, 4, 5, 6, 7, 8, 9, 10, 11, 12, 13, 14, 15. -/
theorem wit_StandbyCommitsInOrder :
    (∃ (s : State) (f : PairFrame) (m : Bytes) (b : Bytes),
      (Commits s m { f with body := .tlogFix b }) ∧
      (s.stripe (beAt b 5 3) = none)) ∧
    (∃ (s : State) (f : PairFrame) (m : Bytes) (b : Bytes) (x : Stripe),
      (Commits s m { f with body := .tlogFix b }) ∧
      ((beAt b 8 4).testBit 27 = false) ∧
      (s.stripe (beAt b 5 3) = some x) ∧
      (x.latch.isSome = true)) ∧
    (∃ (s : State) (f : PairFrame) (m : Bytes) (b : Bytes),
      (Commits s m { f with body := .tlogFinal b }) ∧
      (s.shot.tlog.find? (fun e => e.n = beAt b 0 5) = none)) ∧
    (∃ (s : State) (f : PairFrame) (m : Bytes) (b : Bytes) (old : TickEntry),
      (Commits s m { f with body := .tlogFinal b }) ∧
      (s.shot.tlog.find? (fun e => e.n = beAt b 0 5) = some old)) ∧
    (∃ (s : State) (f : PairFrame) (m : Bytes) (first : Nat) (es : List Nat),
      (Commits s m { f with body := .trim first es })) ∧
    (∃ (s : State) (f : PairFrame) (m : Bytes) (seq : Nat),
      (Commits s m { f with body := .trimCommit seq (crc32c (bankBytes s.variant s.pair.trimIn)) }) ∧
      ((s.stripe seq).any running = false)) ∧
    (∃ (s : State) (f : PairFrame) (m : Bytes) (seq : Nat),
      (Commits s m { f with body := .trimCommit seq (crc32c (bankBytes s.variant s.pair.trimIn)) }) ∧
      ((s.stripe seq).any running = true)) ∧
    (∃ (s : State) (f : PairFrame) (m : Bytes) (p : Pointers),
      (Commits s m { f with body := .pointers p }) ∧
      (p.job < 8)) ∧
    (∃ (s : State) (f : PairFrame) (m : Bytes) (p : Pointers),
      (Commits s m { f with body := .pointers p }) ∧
      (p.stripes = []) ∧
      (p.job ≠ s.jobSt) ∧
      (p.job < 8)) ∧
    (∃ (s : State) (f : PairFrame) (m : Bytes) (c : Bytes),
      (Commits s m { f with body := .ctx c })) ∧
    (∃ (s : State) (f : PairFrame) (m : Bytes) (seq tick : Nat),
      (Commits s m { f with body := .handover seq tick })) ∧
    (∃ (s : State) (f : PairFrame) (m : Bytes) (first : Nat) (es : List Nat),
      (parsePair m = some { f with body := .trim first es }) ∧
      (s.role = roleStandby) ∧
      (s.rd Reg.PAIR_STATUS.link_up = 1) ∧
      (s.rd Reg.PAIR_STATUS.epoch ≤ f.epoch) ∧
      (serialBefore 32 s.pair.committed f.gen = true) ∧
      (f.gen ≠ (s.pair.committed + 1) % 2 ^ 32) ∧
      (∀ q ∈ s.pair.waiting, q.gen ≠ f.gen)) ∧
    (∃ (s : State) (f : PairFrame) (m : Bytes) (first : Nat) (es : List Nat),
      (parsePair m = some { f with body := .trim first es }) ∧
      (s.role = roleStandby) ∧
      (serialBefore 32 s.pair.committed f.gen = false)) ∧
    (∃ (s : State) (f : PairFrame) (m : Bytes) (first : Nat) (es : List Nat),
      (parsePair m = some { f with body := .syncTrim first es }) ∧
      (s.role = roleStandby) ∧
      (first + es.length < beamsOf s.variant)) ∧
    (∃ (s : State) (f : PairFrame) (m : Bytes) (first : Nat) (es : List Nat),
      (parsePair m = some { f with body := .syncTrim first es }) ∧
      (s.role = roleStandby) ∧
      (beamsOf s.variant ≤ first + es.length) ∧
      (s.pair.trimHeld = false)) :=
  ⟨⟨(paired roleStandby 1 PairState.init []), (frame0 1 .revertReq), (frameBytes (frame0 1 (.tlogFix (toBE 5 7 ++ zeros 147)))), (toBE 5 7 ++ zeros 147), by decide +kernel⟩,
   ⟨({ withStripe (going 0 0 0 0) with pair := PairState.init }.wrs [(Reg.PAIR_STATUS.role, roleStandby), (Reg.PAIR_STATUS.link_up, 1)]), (frame0 1 .revertReq), (frameBytes (frame0 1 (.tlogFix (toBE 5 7 ++ zeros 147)))), (toBE 5 7 ++ zeros 147), (going 0 0 0 0), by decide +kernel⟩,
   ⟨(paired roleStandby 1 PairState.init []), (frame0 1 .revertReq), (frameBytes (frame0 1 (.tlogFinal (toBE 5 7 ++ zeros 283)))), (toBE 5 7 ++ zeros 283), by decide +kernel⟩,
   ⟨({ paired roleStandby 1 PairState.init [] with shot := { State.reset.shot with tlog := [tick0] } }), (frame0 1 .revertReq), (frameBytes (frame0 1 (.tlogFinal (toBE 5 7 ++ zeros 283)))), (toBE 5 7 ++ zeros 283), (tick0), by decide +kernel⟩,
   ⟨(paired roleStandby 1 PairState.init []), (frame0 1 .revertReq), (frameBytes (frame0 1 (.trim (1024) (List.replicate 1024 5)))), (1024), (List.replicate 1024 5), by decide +kernel⟩,
   ⟨(paired roleStandby 1 PairState.init []), (frame0 1 .revertReq), (frameBytes (frame0 1 (.trimCommit (3) (crc32c (bankBytes (paired roleStandby 1 PairState.init []).variant (paired roleStandby 1 PairState.init []).pair.trimIn))))), (3), ⟨parsePair_trimCommit _ _ _ _ _ _ (by decide) (by decide) (by decide) (by decide) (crc32c_lt _), by decide +kernel⟩, by decide +kernel⟩,
   ⟨(following), (frame0 1 .revertReq), (frameBytes (frame0 1 (.trimCommit (0) (crc32c (bankBytes (following).variant (following).pair.trimIn))))), (0), ⟨parsePair_trimCommit _ _ _ _ _ _ (by decide) (by decide) (by decide) (by decide) (crc32c_lt _), by decide +kernel⟩, by decide +kernel⟩,
   ⟨(paired roleStandby 1 PairState.init []), (frame0 1 .revertReq), (frameBytes (frame0 1 (.pointers (⟨2, [], []⟩)))), (⟨2, [], []⟩), by decide +kernel⟩,
   ⟨(paired roleStandby 1 PairState.init []), (frame0 1 .revertReq), (frameBytes (frame0 1 (.pointers (⟨2, [], []⟩)))), (⟨2, [], []⟩), by decide +kernel⟩,
   ⟨(paired roleStandby 1 PairState.init []), (frame0 1 .revertReq), (frameBytes (frame0 1 (.ctx (zeros 8 ++ [3#8, 7#8])))), (zeros 8 ++ [3#8, 7#8]), by decide +kernel⟩,
   ⟨(paired roleStandby 1 PairState.init []), (frame0 1 .revertReq), (frameBytes (frame0 1 (.handover (3) (9)))), (3), (9), by decide +kernel⟩,
   ⟨(paired roleStandby 1 PairState.init []), (frame0 3 .revertReq), (frameBytes (frame0 3 (.trim (1024) (List.replicate 1024 5)))), (1024), (List.replicate 1024 5), by decide +kernel⟩,
   ⟨(paired roleStandby 1 PairState.init []), (frame0 0 .revertReq), (frameBytes (frame0 0 (.trim (1024) (List.replicate 1024 5)))), (1024), (List.replicate 1024 5), by decide +kernel⟩,
   ⟨(paired roleStandby 1 PairState.init []), (frame0 0 .revertReq), (frameBytes (frame0 0 (.syncTrim (1024) ([5])))), (1024), ([5]), by decide +kernel⟩,
   ⟨(paired roleStandby 1 PairState.init []), (frame0 0 .revertReq), (frameBytes (frame0 0 (.syncTrim (300000) ([])))), (300000), ([]), by decide +kernel⟩⟩

/-- Clauses 1, 2, 3, 4, 5, 6, 8, 9, 10. -/
theorem wit_FeedsAndTemperatureAreShown :
    (∃ (s : State) (feed mv : Nat),
      (feed < 2) ∧
      (s.pgLow feed = false) ∧
      (s.rd (feedGoodFld feed) = 0) ∧
      (s.power.standby = true) ∧
      (s.power.sources.any (fun e => e.1 = 2) = false)) ∧
    (∃ (s : State) (feed mv : Nat),
      (feed < 2) ∧
      (s.pgLow feed = false) ∧
      (s.rd (feedGoodFld feed) = 0) ∧
      (s.power.standby = true) ∧
      (s.power.sources.any (fun e => e.1 = 2) = true) ∧
      (s.rd Reg.RCU_PHASE.phase = 0) ∧
      (3 ≤ s.power.deepest)) ∧
    (∃ (s : State) (feed mv : Nat),
      (feed < 2) ∧
      (s.pgLow feed = false) ∧
      (s.rd (feedGoodFld feed) = 0) ∧
      (s.power.standby = false)) ∧
    (∃ (s : State) (feed mv : Nat),
      (feed < 2) ∧
      (s.pgLow feed = true ∨ s.rd (feedGoodFld feed) = 1)) ∧
    (∃ (s : State) (feed mv : Nat),
      (feed < 2)) ∧
    (∃ (s : State) (feed : Nat),
      (feed < 2)) ∧
    (∃ (s : State) (f : Fld),
      ((fieldOfKey (fldKey f)).any (fun d => d.tok = .fused) = false) ∧
      (fldKey f ≠ fldKey Reg.PAIR_STATUS.halyard_in) ∧
      (fldKey f ≠ fldKey Reg.PAIR_STATUS.grant)) ∧
    (∃ (s : State) (tj : Int),
      (64 * (s.rd Reg.PWR_THERM.warn : Int) ≤ tj) ∧
      (s.rd Reg.PWR_THERM.warning = 0)) ∧
    (∃ (s : State) (tj : Int),
      (tj < 64 * (s.rd Reg.PWR_THERM.warn : Int) ∨ s.rd Reg.PWR_THERM.warning = 1)) :=
  ⟨⟨(ready8 [(Reg.PWR_FEED.a_losses, 1)]), (0), (12000), by decide +kernel⟩,
   ⟨(phase0 0 { PowerState.init with sources := [(2, 3)], deepest := 3 } [(Reg.PWR_FEED.a_losses, 1)]), (0), (12000), by decide +kernel⟩,
   ⟨(State.reset), (1), (12000), by decide +kernel⟩,
   ⟨(phase0 8 { PowerState.init with pgA := true } []), (0), (12000), by decide +kernel⟩,
   ⟨(ready8 [(Reg.PWR_FEED.b_good, 1)]), (1), (9000), by decide +kernel⟩,
   ⟨(ready8 [(Reg.PWR_FEED.b_good, 1)]), (1), by decide +kernel⟩,
   ⟨(ready8 []), (Reg.TIME_KP.kp), by decide +kernel⟩,
   ⟨(ready8 []), (7000), by decide +kernel⟩,
   ⟨(ready8 []), (0), by decide +kernel⟩⟩

/-- Clauses 1, 2, 3, 4, 5, 6, 7, 8, 9, 10, 11, 12, 13, 14, 15, 16. -/
theorem wit_ResetsRestartTheModule :
    (∃ (s : State) (ns : Nat),
      (1000 ≤ ns) ∧
      (s.power.standby = true) ∧
      (s.held = false)) ∧
    (∃ (s : State) (ns : Nat),
      (1000 ≤ ns) ∧
      (s.power.standby = true) ∧
      (s.held = false)) ∧
    (∃ (s : State) (ns : Nat) (b : Bool),
      (250 ≤ ns) ∧
      (ns < 1000) ∧
      (s.power.standby = true) ∧
      (s.held = false)) ∧
    (∃ (s : State) (ns : Nat) (b : Bool),
      (ns < 250)) ∧
    (∃ (s : State) (src : Nat) (tj : Int),
      (src = 3 ∨ (src = 4 ∧ tj < 95 * 64) ∨ (src = 2 ∧ (s.rd Reg.PWR_FEED.a_good = 1 ∨ s.rd Reg.PWR_FEED.b_good = 1))) ∧
      (s.power.sources.any (fun e => e.1 = src) = true) ∧
      (s.power.sources.all (fun e => e.1 = src) = true) ∧
      (3 ≤ s.power.deepest) ∧
      (s.rd Reg.RCU_PHASE.phase = 0)) ∧
    (∃ (s : State) (src : Nat) (tj : Int),
      (src = 3 ∨ (src = 4 ∧ tj < 95 * 64) ∨ (src = 2 ∧ (s.rd Reg.PWR_FEED.a_good = 1 ∨ s.rd Reg.PWR_FEED.b_good = 1))) ∧
      ((s.power.sources.filter (fun e => e.1 ≠ src)).any (fun e => levelSource e.1) = true)) ∧
    (∃ (s : State) (src : Nat) (tj : Int),
      ((src = 4 ∧ 95 * 64 ≤ tj) ∨ (src = 2 ∧ s.rd Reg.PWR_FEED.a_good = 0 ∧ s.rd Reg.PWR_FEED.b_good = 0) ∨ s.power.sources.any (fun e => e.1 = src) = false ∨ src ∉ [2, 3, 4])) ∧
    (∃ (s : State) (tj : Int),
      (115 * 64 ≤ tj) ∧
      (s.power.standby = true) ∧
      (s.held = false)) ∧
    (∃ (s : State) (tj : Int),
      (tj < 115 * 64 ∨ s.power.standby = false)) ∧
    (∃ (s : State),
      (s.rd Reg.PWR_FEED.a_good = 0) ∧
      (s.rd Reg.PWR_FEED.b_good = 0) ∧
      (s.power.standby = true) ∧
      (s.held = false)) ∧
    (∃ (s : State),
      (s.rd Reg.PWR_FEED.a_good = 1 ∨ s.rd Reg.PWR_FEED.b_good = 1 ∨ s.power.standby = false)) ∧
    (∃ (s : State),
      (s.hkcUp = true) ∧
      (s.hkc.alive + 1000000 * s.rd Reg.GLOBAL_WDOG.timeout_ms ≤ s.now)) ∧
    (∃ (s : State),
      (s.hkcUp = false ∨ s.now < s.hkc.alive + 1000000 * s.rd Reg.GLOBAL_WDOG.timeout_ms)) ∧
    (∃ (s : State),
      (s.hkcUp = true)) ∧
    (∃ (s : State),
      (s.hkcUp = true) ∧
      (s.rd Reg.RCU_PHASE.phase = 8)) ∧
    (∃ (s : State),
      (s.hkcUp = true) ∧
      (s.rd Reg.RCU_PHASE.phase = 8) ∧
      ((List.range (beamsOf s.variant / 64)).all (fun g => !s.mirrorFails g) = true)) :=
  ⟨⟨(ready8 []), (1000), by decide +kernel⟩,
   ⟨(ready8 []), (3000), by decide +kernel⟩,
   ⟨(ready8 []), (500), (false), by decide +kernel⟩,
   ⟨(ready8 []), (249), (true), by decide +kernel⟩,
   ⟨(phase0 0 { PowerState.init with sources := [(3, 4)], deepest := 4 } []), (3), (0), by decide +kernel⟩,
   ⟨(phase0 0 { PowerState.init with sources := [(3, 4), (4, 2)], deepest := 4 } []), (3), (0), by decide +kernel⟩,
   ⟨(phase0 0 { PowerState.init with sources := [(4, 4)], deepest := 4 } []), (4), (6080), by decide +kernel⟩,
   ⟨(ready8 []), (7360), by decide +kernel⟩,
   ⟨(ready8 []), (7359), by decide +kernel⟩,
   ⟨(ready8 []), by decide +kernel⟩,
   ⟨(ready8 [(Reg.PWR_FEED.b_good, 1)]), by decide +kernel⟩,
   ⟨({ ready8 [] with now := 1000000000000 }), by decide +kernel⟩,
   ⟨(ready8 []), by decide +kernel⟩,
   ⟨(ready8 []), by decide +kernel⟩,
   ⟨(ready8 []), by decide +kernel⟩,
   ⟨(ready8 []), by decide +kernel⟩⟩

/-- Clauses 1, 2, 3, 4. -/
theorem wit_ResetCommandsCarryTheKey :
    (∃ (s : State) (key : Nat),
      (s.hkcUp = true) ∧
      (key ≠ 0xA5)) ∧
    (∃ (s : State) (key : Nat),
      (s.hkcUp = true) ∧
      (key ≠ 0xA5)) ∧
    (∃ (s : State),
      (s.hkcUp = true)) ∧
    (∃ (s : State),
      (s.hkcUp = true)) :=
  ⟨⟨(ready8 []), (0x5A), by decide +kernel⟩,
   ⟨(ready8 []), (0), by decide +kernel⟩,
   ⟨(ready8 []), by decide +kernel⟩,
   ⟨(ready8 []), by decide +kernel⟩⟩

/-- Clauses 1, 2, 3, 4, 5, 6, 7, 8, 9, 10, 11, 12, 13, 14, 15, 16, 17, 18, 19, 20, 21, 22, 23, 24, 25. -/
theorem wit_StartUpGoesPhaseByPhase :
    (∃ (s : State),
      (s.inPhase 0 = true) ∧
      (3 ≤ s.power.running)) ∧
    (∃ (s : State),
      (s.inPhase 0 = false)) ∧
    (∃ (s : State) (bad : Nat),
      (s.inPhase 1 = true) ∧
      (3 ≤ s.power.running)) ∧
    (∃ (s : State) (bootsel clkmode ratio : Nat),
      (s.inPhase 2 = true) ∧
      (3 ≤ s.power.running)) ∧
    (∃ (s : State) (svc : Bytes) (i : Nat),
      (s.inPhase 3 = true) ∧
      (2 ≤ s.power.running) ∧
      (s.power.p3Begun = true) ∧
      (s.choice = .slot i) ∧
      (s.slotValid i = true) ∧
      (bodyOk (s.slotImage i) = true)) ∧
    (∃ (s : State) (svc : Bytes),
      (s.inPhase 3 = true) ∧
      (2 ≤ s.power.running) ∧
      (s.power.p3Begun = true) ∧
      (s.choice = .service) ∧
      (headerValid s.variant svc = true) ∧
      (bodyOk svc = true)) ∧
    (∃ (s : State) (svc : Bytes) (i : Nat),
      (s.inPhase 3 = true) ∧
      (s.power.p3Begun = true) ∧
      (s.choice = .slot i) ∧
      (i < 2) ∧
      ((s.slotValid i && bodyOk (s.slotImage i)) = false) ∧
      (s.rd Reg.RCU_STRAPS.boot = 2 ∨ s.marked i = false)) ∧
    (∃ (s : State) (svc : Bytes),
      (s.inPhase 3 = true) ∧
      (s.power.p3Begun = true) ∧
      (s.choice = .service) ∧
      ((headerValid s.variant svc && bodyOk svc) = false)) ∧
    (∃ (s : State) (svc : Bytes) (i : Nat),
      (s.inPhase 3 = true) ∧
      (s.power.p3Begun = true) ∧
      (s.choice = .none ∨ (s.rd Reg.RCU_STRAPS.boot = i ∧ i < 2 ∧ s.slotValid i = false ∧ s.marked i = true))) ∧
    (∃ (s : State) (svc : Bytes),
      (s.inPhase 3 = false ∨ s.power.p3Begun = false)) ∧
    (∃ (s : State) (prog : List (Nat × Bytes)),
      (s.inPhase 3 = true) ∧
      (s.power.p3Begun = false)) ∧
    (∃ (s : State) (low : Bool) (prog : List (Nat × Bytes)),
      ((low = false ∧ (s.inPhase 3 = false ∨ s.power.p3Begun = true)) ∨ (low = true ∧ s.rd Reg.NVL_STATUS.hold = 0 ∧ s.power.sources.any (fun e => e.1 = 3) = false))) ∧
    (∃ (s : State) (a : Nat) (b : Bytes),
      (s.rd Reg.NVL_STATUS.hold = 1 ∨ s.power.sources.any (fun e => e.1 = 3) = true)) ∧
    (∃ (s : State) (prog : List (Nat × Bytes)),
      (s.rd Reg.NVL_STATUS.hold = 1 ∨ s.power.sources.any (fun e => e.1 = 3) = true)) ∧
    (∃ (s : State) (id : Nat),
      (s.inPhase 4 = true)) ∧
    (∃ (s : State),
      (s.inPhase 4 = true) ∧
      (2 ≤ s.power.running)) ∧
    (∃ (s : State),
      (s.inPhase 4 = true) ∧
      (s.power.running = 1) ∧
      (s.role ≠ roleSolo)) ∧
    (∃ (s : State) (failed : Option Nat),
      (s.inPhase 4 = false)) ∧
    (∃ (s : State) (runs : List (List (Nat × Nat × Nat))) (noHppr : List Nat) (temps : List Int),
      (s.inPhase 5 = true) ∧
      (2 ≤ s.power.running)) ∧
    (∃ (s : State) (runs : List (List (Nat × Nat × Nat))) (noHppr : List Nat) (temps : List Int),
      (s.inPhase 5 = false)) ∧
    (∃ (s : State),
      (s.inPhase 6 = true) ∧
      (s.lanesUp = true) ∧
      (s.rd Reg.TIME_STATUS.locked = 0) ∧
      (s.rd Reg.TIME_LOCK_STRICT.strict = 1)) ∧
    (∃ (s : State),
      (s.inPhase 6 = true) ∧
      (s.lanesUp = true) ∧
      (s.rd Reg.TIME_STATUS.locked = 1 ∨ s.rd Reg.TIME_LOCK_STRICT.strict = 0)) ∧
    (∃ (s : State),
      (s.inPhase 6 = false ∨ s.lanesUp = false)) ∧
    (∃ (s : State) (p : Nat),
      (s.rd Reg.RCU_PHASE.phase = p) ∧
      (s.inPhase p = true) ∧
      (p < 5) ∧
      (p = 3 → s.power.p3Begun = true) ∧
      (s.power.phaseAt + phaseLimit p < s.now)) ∧
    (∃ (s : State) (p : Nat),
      (s.rd Reg.RCU_PHASE.phase = p) ∧
      (s.inPhase p = false ∨ 4 < p ∨ (p = 3 ∧ s.power.p3Begun = false) ∨ s.now ≤ s.power.phaseAt + phaseLimit p)) :=
  ⟨⟨(phase0 0 { PowerState.init with running := 4 } []), by decide +kernel⟩,
   ⟨(ready8 []), by decide +kernel⟩,
   ⟨(phase0 1 { PowerState.init with running := 4 } []), (33), by decide +kernel⟩,
   ⟨(phase0 2 { PowerState.init with running := 4 } []), (2), (1), (40000), by decide +kernel⟩,
   ⟨(boot3 [(Reg.RCU_STRAPS.boot, 1)]), ([]), (1), by decide +kernel⟩,
   ⟨(boot3 [(Reg.RCU_STRAPS.boot, 3)]), (bootImg), by decide +kernel⟩,
   ⟨(phase0 3 { PowerState.init with running := 4, p3Begun := true } [(Reg.RCU_STRAPS.boot, 1)]), ([]), (1), by decide +kernel⟩,
   ⟨(boot3 [(Reg.RCU_STRAPS.boot, 3)]), ([]), by decide +kernel⟩,
   ⟨(phase0 3 { PowerState.init with running := 4, p3Begun := true } [(Reg.RCU_STRAPS.boot, 1), (Reg.NVL_STATUS.marked, 2)]), ([]), (1), by decide +kernel⟩,
   ⟨(ready8 []), ([]), by decide +kernel⟩,
   ⟨(phase0 3 { PowerState.init with running := 4, svcLow := true } []), ([(0, [5#8])]), by decide +kernel⟩,
   ⟨(ready8 []), (true), ([(0, [5#8])]), by decide +kernel⟩,
   ⟨(phase0 3 PowerState.init [(Reg.NVL_STATUS.hold, 1)]), (64), ([3#8, 255#8]), by decide +kernel⟩,
   ⟨(phase0 3 PowerState.init [(Reg.NVL_STATUS.hold, 1)]), ([(64, [3#8]), (65, [4#8])]), by decide +kernel⟩,
   ⟨(phase0 4 { PowerState.init with running := 4 } []), (7), by decide +kernel⟩,
   ⟨(phase0 4 { PowerState.init with running := 4 } []), by decide +kernel⟩,
   ⟨(phase0 4 { PowerState.init with running := 1 } [(Reg.PAIR_STATUS.role, 1)]), by decide +kernel⟩,
   ⟨(ready8 []), (some 3), by decide +kernel⟩,
   ⟨(phase0 5 { PowerState.init with running := 4 } [(Reg.PAIR_STATUS.role, 1)]), (List.replicate 30 [(3, 10, 12), (4, 8, 20)]), ([]), ([55]), by decide +kernel⟩,
   ⟨(ready8 []), ([]), ([]), ([]), by decide +kernel⟩,
   ⟨(phase0 6 { PowerState.init with running := 4 } [(Reg.PAIR_STATUS.role, 1)]), by decide +kernel⟩,
   ⟨(phase0 6 { PowerState.init with running := 4 } [(Reg.PAIR_STATUS.role, 1), (Reg.TIME_LOCK_STRICT.strict, 0)]), by decide +kernel⟩,
   ⟨(ready8 []), by decide +kernel⟩,
   ⟨({ phase0 2 { PowerState.init with running := 4 } [] with now := 3000000 }), (2), by decide +kernel⟩,
   ⟨(ready8 []), (8), by decide +kernel⟩⟩

theorem wit_BlockResetsBeforeP6AreRefused :
    ∃ (s : State) (blk lane : Nat),
      (s.hkcUp = true) ∧
      (s.rd Reg.RCU_PHASE.phase < 6) :=
  ⟨(phase0 5 PowerState.init []), (12), (0), by decide +kernel⟩

/-- Clauses 1, 2, 3, 4, 5, 6, 7, 8, 9. -/
theorem wit_BlockResetsClearTheirBlock :
    (∃ (s : State) (blk lane : Nat),
      (s.hkcUp = true) ∧
      (6 ≤ s.rd Reg.RCU_PHASE.phase) ∧
      (resettable blk = false ∨ s.blockIdle blk lane = false) ∧
      (blk < 256) ∧
      (lane < 64)) ∧
    (∃ (s : State) (blk lane : Nat) (f : Fld),
      (s.hkcUp = true) ∧
      (6 ≤ s.rd Reg.RCU_PHASE.phase) ∧
      (resettable blk = true) ∧
      (s.blockIdle blk lane = true) ∧
      (blk ≠ 0x18) ∧
      (fldKey f ≠ fldKey Reg.CHECK_HIST_FILL.entries) ∧
      (inBlock blk lane (fldKey f) = true) ∧
      (keptInBlock (fldKey f) = false)) ∧
    (∃ (s : State) (blk lane : Nat) (f : Fld),
      (s.hkcUp = true) ∧
      (6 ≤ s.rd Reg.RCU_PHASE.phase) ∧
      (blk ∈ [0x0A, 0x0E, 0x10, 0x12, 0x14, 0x06, 0x26]) ∧
      (s.blockIdle blk lane = true) ∧
      (inBlock blk lane (fldKey f) = false ∨ keptInBlock (fldKey f) = true) ∧
      (fldKey f ∉ [Reg.RCU_BLOCK_RST.block, Reg.RCU_BLOCK_RST.lane, Reg.RCU_BLOCK_RST.result].map fldKey)) ∧
    (∃ (s : State) (lane : Nat) (f : Fld),
      (s.hkcUp = true) ∧
      (6 ≤ s.rd Reg.RCU_PHASE.phase) ∧
      (s.blockIdle 0x0C lane = true) ∧
      (inBlock 0x0C lane (fldKey f) = false ∨ keptInBlock (fldKey f) = true) ∧
      (fldKey f ∉ ([Reg.RENDER_STATUS.active, Reg.RENDER_STATUS.prerolled, Reg.PEC_STATUS.busy] ++ [Reg.RCU_BLOCK_RST.block, Reg.RCU_BLOCK_RST.lane, Reg.RCU_BLOCK_RST.result]).map fldKey)) ∧
    (∃ (s : State) (lane : Nat),
      (s.hkcUp = true) ∧
      (6 ≤ s.rd Reg.RCU_PHASE.phase) ∧
      (s.blockIdle 0x0A lane = true)) ∧
    (∃ (s : State) (blk lane : Nat),
      (s.hkcUp = true) ∧
      (6 ≤ s.rd Reg.RCU_PHASE.phase) ∧
      (blk ∈ [0x0E, 0x10, 0x12, 0x14, 0x06, 0x26]) ∧
      (s.blockIdle blk lane = true)) ∧
    (∃ (s : State) (lane : Nat),
      (s.hkcUp = true) ∧
      (6 ≤ s.rd Reg.RCU_PHASE.phase) ∧
      (s.blockIdle 0x1C lane = true)) ∧
    (∃ (s : State) (lane : Nat) (f : Fld),
      (s.hkcUp = true) ∧
      (6 ≤ s.rd Reg.RCU_PHASE.phase) ∧
      (s.laneSt lane ≠ lnActive)) ∧
    (∃ (s : State) (lane : Nat),
      (s.hkcUp = true) ∧
      (6 ≤ s.rd Reg.RCU_PHASE.phase) ∧
      (s.laneSt lane = lnActive) ∧
      (s.rd (Reg.LANE_CTRL.lane_test lane) = 1) ∧
      (s.fitted lane = true) ∧
      (s.holdsLanes = true)) :=
  ⟨⟨(ready8 []), (0x20), (0), by decide +kernel⟩,
   ⟨(ready8 []), (0x10), (0), (Reg.PEC_ROW.rows), by decide +kernel⟩,
   ⟨(ready8 []), (0x12), (0), (Reg.PEC_ROW.rows), by decide +kernel⟩,
   ⟨(ready8 []), (0), (Reg.PEC_ROW.rows), by decide +kernel⟩,
   ⟨(ready8 []), (0), by decide +kernel⟩,
   ⟨(ready8 []), (0x14), (0), by decide +kernel⟩,
   ⟨(ready8 []), (0), by decide +kernel⟩,
   ⟨(ready8 [(Reg.PAIR_STATUS.halyard_out, 1)]), (5), (Reg.LANE_CTRL.enable 5), by decide +kernel⟩,
   ⟨(ready8 [(Reg.PAIR_STATUS.halyard_out, 1), (Reg.LANE_CTRL.lane_test 5, 1), (Reg.LANE_STATE.state 5, 6)]), (5), by decide +kernel⟩⟩

/-- Clauses 1, 2, 3, 4, 5, 6, 7, 8, 9, 10, 11, 12, 13, 14, 15, 16, 17, 18. -/
theorem wit_DmpReadsAndWritesRegisters :
    (∃ (s : State) (src : Src) (b : Bytes) (q : DmpReq) (a n : Nat),
      (Asks s src b q) ∧
      (q.op = 1) ∧
      (q.payload = toBE 4 a ++ toBE 4 n) ∧
      (1 ≤ n) ∧
      (n ≤ 256) ∧
      (a < 2 ^ 32) ∧
      (rangeStatus a n = 0)) ∧
    (∃ (s : State) (src : Src) (b : Bytes) (q : DmpReq) (a n i : Nat),
      (Asks s src b q) ∧
      (q.op = 1) ∧
      (q.payload = toBE 4 a ++ toBE 4 n) ∧
      (1 ≤ n) ∧
      (n ≤ 256) ∧
      (a < 2 ^ 32) ∧
      (a % 4 = 0) ∧
      (i < n) ∧
      (assigned (a + 4 * i) = false)) ∧
    (∃ (s : State) (src : Src) (b : Bytes) (q : DmpReq) (a v : Nat) (d : RegDesc),
      (Asks s src b q) ∧
      (q.op = 2) ∧
      (q.payload = toBE 4 a ++ toBE 4 v) ∧
      (a < 2 ^ 32) ∧
      (v < 2 ^ 32) ∧
      (a % 4 = 0) ∧
      (descAt a = some d) ∧
      (PlainWrite a)) ∧
    (∃ (s : State) (src : Src) (b : Bytes) (q : DmpReq) (p r : Bytes) (a v : Nat),
      (Asks s src b q) ∧
      (q.op = 2) ∧
      (q.payload = p ++ (toBE 4 a ++ toBE 4 v) ++ r) ∧
      (p.length % 8 = 0) ∧
      (r.length % 8 = 0) ∧
      (a < 2 ^ 32) ∧
      (a % 4 = 0) ∧
      (assigned a = false) ∧
      (∀ e ∈ pairsOf q.payload (q.payload.length / 8), e.1 % 4 = 0)) ∧
    (∃ (s : State) (src : Src) (b : Bytes) (q : DmpReq) (k : Nat × Bytes),
      (Heard s src b.length) ∧
      (s.hkcUp = true) ∧
      (parseDmp b = some q) ∧
      ((s.keptOf src).find? (fun k => k.1 = q.seq) = some k)) ∧
    (∃ (s : State) (src : Src) (b : Bytes) (q : DmpReq),
      (Heard s src b.length) ∧
      (s.hkcUp = true) ∧
      (parseDmp b = some q) ∧
      (s.keptOf src ≠ []) ∧
      (∀ k ∈ s.keptOf src, serialBefore 32 q.seq k.1 = true ∧ k.1 ≠ q.seq)) ∧
    (∃ (s : State) (src : Src) (b : Bytes),
      (Heard s src b.length) ∧
      (s.hkcUp = true) ∧
      (parseDmp b = none)) ∧
    (∃ (s : State) (src : Src) (b : Bytes) (q : DmpReq) (a n : Nat),
      (Asks s src b q) ∧
      (q.op = 1) ∧
      (q.payload = toBE 4 a ++ toBE 4 n) ∧
      (1 ≤ n) ∧
      (n ≤ 256) ∧
      (a < 2 ^ 32) ∧
      (rangeStatus a n ≠ 0)) ∧
    (∃ (s : State) (src : Src) (b : Bytes) (q : DmpReq),
      (Asks s src b q) ∧
      (q.op = 1) ∧
      (q.payload.length ≠ 8 ∨ beAt q.payload 4 4 = 0 ∨ 256 < beAt q.payload 4 4)) ∧
    (∃ (s : State) (src : Src) (b : Bytes) (q : DmpReq) (x : State),
      (Asks s src b q) ∧
      (q.op = 2) ∧
      (q.payload.length % 8 = 0) ∧
      (1 ≤ q.payload.length) ∧
      ((checkPairs (pairsOf q.payload (q.payload.length / 8))).1 = 0) ∧
      (x = (s.asked src).applyPairs (pairsOf q.payload (q.payload.length / 8)))) ∧
    (∃ (s : State) (src : Src) (b : Bytes) (q : DmpReq),
      (Asks s src b q) ∧
      (q.op = 2) ∧
      (q.payload.length % 8 ≠ 0 ∨ q.payload = [])) ∧
    (∃ (s : State) (src : Src) (b : Bytes) (q : DmpReq) (a n : Nat) (refetched bad : List Nat),
      (Asks s src b q) ∧
      (q.op = 3) ∧
      (q.payload = toBE 1 0 ++ zeros 3 ++ toBE 8 a ++ toBE 4 (4 * n)) ∧
      (1 ≤ n) ∧
      (n ≤ 2048) ∧
      (a < 2 ^ 32) ∧
      (rangeStatus a n = 0)) ∧
    (∃ (s : State) (src : Src) (b : Bytes) (q : DmpReq) (a n c : Nat) (refetched bad : List Nat),
      (Asks s src b q) ∧
      (q.op = 3) ∧
      (q.payload = toBE 1 1 ++ zeros 3 ++ toBE 8 a ++ toBE 4 n) ∧
      (a < 2 ^ 64) ∧
      (a % 4 = 0) ∧
      (n % 4 = 0) ∧
      (4 ≤ n) ∧
      (n ≤ 8192) ∧
      (a + n ≤ 64 * s.lineCount) ∧
      (s.rd Reg.DMC_STATUS.ready = 1) ∧
      ((a + n - 1) / 64 - a / 64 + 1 = c) ∧
      (((s.asked src).blockLines refetched bad ((List.range c).map (fun k => a / 64 + k))).2 = true)) ∧
    (∃ (s : State) (src : Src) (b : Bytes) (q : DmpReq) (k : Nat) (refetched bad : List Nat),
      (Asks s src b q) ∧
      (q.op = 3) ∧
      (q.payload = toBE 1 1 ++ zeros 3 ++ toBE 8 (64 * k) ++ toBE 4 64) ∧
      (k < s.lineCount) ∧
      (s.rd Reg.DMC_STATUS.ready = 1) ∧
      (s.readFault k (s.expected k).1 (s.expected k).2 = none) ∧
      (k ∉ refetched) ∧
      (k ∉ bad)) ∧
    (∃ (s : State) (src : Src) (b : Bytes) (q : DmpReq) (k : Nat) (refetched bad : List Nat),
      (Asks s src b q) ∧
      (q.op = 3) ∧
      (q.payload = toBE 1 1 ++ zeros 3 ++ toBE 8 (64 * k) ++ toBE 4 64) ∧
      (k < s.lineCount) ∧
      (s.rd Reg.DMC_STATUS.ready = 1) ∧
      (s.readFault k (s.expected k).1 (s.expected k).2 = none) ∧
      (k ∈ refetched) ∧
      (k ∉ bad)) ∧
    (∃ (s : State) (src : Src) (b : Bytes) (q : DmpReq) (k : Nat) (refetched bad : List Nat),
      (Asks s src b q) ∧
      (q.op = 3) ∧
      (q.payload = toBE 1 1 ++ zeros 3 ++ toBE 8 (64 * k) ++ toBE 4 64) ∧
      (k < s.lineCount) ∧
      (s.rd Reg.DMC_STATUS.ready = 1) ∧
      (s.readFault k (s.expected k).1 (s.expected k).2 ≠ none ∨ k ∈ bad)) ∧
    (∃ (s : State) (src : Src) (b : Bytes) (q : DmpReq) (a n : Nat) (refetched bad : List Nat),
      (Asks s src b q) ∧
      (q.op = 3) ∧
      (q.payload = toBE 1 1 ++ zeros 3 ++ toBE 8 a ++ toBE 4 n) ∧
      (a < 2 ^ 64) ∧
      (a % 4 = 0) ∧
      (n % 4 = 0) ∧
      (4 ≤ n) ∧
      (n ≤ 8192) ∧
      (64 * s.lineCount < a + n ∨ s.rd Reg.DMC_STATUS.ready = 0)) ∧
    (∃ (s : State) (src : Src) (b : Bytes) (q : DmpReq) (refetched bad : List Nat),
      (Asks s src b q) ∧
      (q.op = 3) ∧
      (q.payload.length ≠ 16 ∨ beAt q.payload 1 3 ≠ 0 ∨ beAt q.payload 12 4 % 4 ≠ 0 ∨ beAt q.payload 12 4 = 0 ∨ 8192 < beAt q.payload 12 4 ∨ beAt q.payload 4 8 % 4 ≠ 0)) :=
  ⟨⟨(up []), (host), (ask 1 7 0 (toBE 4 0x10000 ++ toBE 4 2)), (askq 1 7 0 (toBE 4 0x10000 ++ toBE 4 2)), (0x10000), (2), by decide +kernel⟩,
   ⟨(up []), (host), (ask 1 7 0 (toBE 4 0x20 ++ toBE 4 2)), (askq 1 7 0 (toBE 4 0x20 ++ toBE 4 2)), (0x20), (2), (1), by decide +kernel⟩,
   ⟨(up []), (host), (ask 2 7 0 (toBE 4 0x100004 ++ toBE 4 5)), (askq 2 7 0 (toBE 4 0x100004 ++ toBE 4 5)), (0x100004), (5), (⟨"PEC_F_BASE", 0x100004, [], [⟨15, 0, .rwc, .plain, 0x1000⟩]⟩), by decide +kernel⟩,
   ⟨(up []), (host), (ask 2 7 0 ((toBE 4 0x100010 ++ toBE 4 5) ++ (toBE 4 0x24 ++ toBE 4 1) ++ [])), (askq 2 7 0 ((toBE 4 0x100010 ++ toBE 4 5) ++ (toBE 4 0x24 ++ toBE 4 1) ++ [])), (toBE 4 0x100010 ++ toBE 4 5), ([]), (0x24), (1), by decide +kernel⟩,
   ⟨({ up [] with dmp := [⟨host, [(7, [9#8])]⟩] }), (host), (ask 2 7 0 (toBE 4 0x100010 ++ toBE 4 5)), (askq 2 7 0 (toBE 4 0x100010 ++ toBE 4 5)), ((7, [9#8])), by decide +kernel⟩,
   ⟨({ up [] with dmp := [⟨host, [(9, [9#8])]⟩] }), (host), (ask 2 7 0 (toBE 4 0x100010 ++ toBE 4 5)), (askq 2 7 0 (toBE 4 0x100010 ++ toBE 4 5)), by decide +kernel⟩,
   ⟨(up []), (host), (zeros 30), by decide +kernel⟩,
   ⟨(up []), (host), (ask 1 7 0 (toBE 4 0x21 ++ toBE 4 2)), (askq 1 7 0 (toBE 4 0x21 ++ toBE 4 2)), (0x21), (2), by decide +kernel⟩,
   ⟨(up []), (host), (ask 1 7 0 (toBE 4 0x20 ++ toBE 4 257)), (askq 1 7 0 (toBE 4 0x20 ++ toBE 4 257)), by decide +kernel⟩,
   ⟨(up []), (host), (ask 2 7 0 ((toBE 4 0x100010 ++ toBE 4 5) ++ (toBE 4 0x100004 ++ toBE 4 1))), (askq 2 7 0 ((toBE 4 0x100010 ++ toBE 4 5) ++ (toBE 4 0x100004 ++ toBE 4 1))), (((up []).asked host).applyPairs [(0x100010, 5), (0x100004, 1)]), by decide +kernel⟩,
   ⟨(up []), (host), (ask 2 7 0 (zeros 7)), (askq 2 7 0 (zeros 7)), by decide +kernel⟩,
   ⟨(up []), (host), (ask 3 7 0 (toBE 1 0 ++ zeros 3 ++ toBE 8 0x10000 ++ toBE 4 (4 * 2))), (askq 3 7 0 (toBE 1 0 ++ zeros 3 ++ toBE 8 0x10000 ++ toBE 4 (4 * 2))), (0x10000), (2), ([]), ([3]), by decide +kernel⟩,
   ⟨(up [(Reg.DMC_STATUS.ready, 1)]), (host), (ask 3 7 0 (toBE 1 1 ++ zeros 3 ++ toBE 8 188 ++ toBE 4 72)), (askq 3 7 0 (toBE 1 1 ++ zeros 3 ++ toBE 8 188 ++ toBE 4 72)), (188), (72), (3), ([3]), ([]), by decide +kernel⟩,
   ⟨(up [(Reg.DMC_STATUS.ready, 1)]), (host), (ask 3 7 0 (toBE 1 1 ++ zeros 3 ++ toBE 8 (64 * 3) ++ toBE 4 64)), (askq 3 7 0 (toBE 1 1 ++ zeros 3 ++ toBE 8 (64 * 3) ++ toBE 4 64)), (3), ([4]), ([]), by decide +kernel⟩,
   ⟨(up [(Reg.DMC_STATUS.ready, 1)]), (host), (ask 3 7 0 (toBE 1 1 ++ zeros 3 ++ toBE 8 (64 * 3) ++ toBE 4 64)), (askq 3 7 0 (toBE 1 1 ++ zeros 3 ++ toBE 8 (64 * 3) ++ toBE 4 64)), (3), ([3]), ([]), by decide +kernel⟩,
   ⟨(up [(Reg.DMC_STATUS.ready, 1)]), (host), (ask 3 7 0 (toBE 1 1 ++ zeros 3 ++ toBE 8 (64 * 3) ++ toBE 4 64)), (askq 3 7 0 (toBE 1 1 ++ zeros 3 ++ toBE 8 (64 * 3) ++ toBE 4 64)), (3), ([]), ([3]), by decide +kernel⟩,
   ⟨(up []), (host), (ask 3 7 0 (toBE 1 1 ++ zeros 3 ++ toBE 8 64 ++ toBE 4 64)), (askq 3 7 0 (toBE 1 1 ++ zeros 3 ++ toBE 8 64 ++ toBE 4 64)), (64), (64), ([]), ([]), by decide +kernel⟩,
   ⟨(up []), (host), (ask 3 7 0 (toBE 1 1 ++ zeros 3 ++ toBE 8 64 ++ toBE 4 63)), (askq 3 7 0 (toBE 1 1 ++ zeros 3 ++ toBE 8 64 ++ toBE 4 63)), ([]), ([]), by decide +kernel⟩⟩

/-- Clauses 1, 2, 3, 4, 5, 6, 7, 8, 9, 10, 11, 12, 13, 14. -/
theorem wit_JobCommandsMoveTheJob :
    (∃ (s : State) (src : Src) (b : Bytes) (q : DmpReq) (job : Nat),
      (Asks s src b q) ∧
      (q.op = 4) ∧
      (q.payload = toBE 2 1 ++ toBE 2 0 ++ toBE 4 job) ∧
      (job < 2 ^ 32) ∧
      (s.jobSt = jobIdle) ∧
      (s.rd Reg.DMC_STATUS.ready = 1) ∧
      (∀ e ∈ ((s.asked src).closeJob).hkc.late, e.1 ≠ 0x0A09)) ∧
    (∃ (s : State) (src : Src) (b : Bytes) (q : DmpReq) (job : Nat),
      (Asks s src b q) ∧
      (q.op = 4) ∧
      (q.payload = toBE 2 1 ++ toBE 2 0 ++ toBE 4 job) ∧
      (job < 2 ^ 32) ∧
      (s.jobSt = jobIdle) ∧
      (s.rd Reg.DMC_STATUS.ready = 1) ∧
      (∀ e ∈ s.hkc.late, e.1 ≠ 0x0A09) ∧
      ((s.asked src).closeJob = s.asked src)) ∧
    (∃ (s : State) (src : Src) (b : Bytes) (q : DmpReq) (job : Nat),
      (Asks s src b q) ∧
      (q.op = 4) ∧
      (q.payload = toBE 2 1 ++ toBE 2 0 ++ toBE 4 job) ∧
      (s.jobSt ≠ jobIdle ∨ s.rd Reg.DMC_STATUS.ready = 0)) ∧
    (∃ (s : State) (src : Src) (b : Bytes) (q : DmpReq) (code : Nat) (arg : Bytes),
      (Asks s src b q) ∧
      (q.op = 4) ∧
      (q.payload = toBE 2 code ++ toBE 2 0 ++ arg) ∧
      (arg.length ≤ 16) ∧
      ((code = 1 ∧ arg.length ≠ 4) ∨ (code = 2 ∧ (arg.length ≠ 4 ∨ byteAt arg 3 ≠ 0)) ∨ ((code = 3 ∨ code = 4 ∨ code = 5) ∧ arg ≠ []))) ∧
    (∃ (s : State) (src : Src) (b : Bytes) (q : DmpReq) (last : Nat),
      (Asks s src b q) ∧
      (q.op = 4) ∧
      (q.payload = toBE 2 2 ++ toBE 2 0 ++ toBE 3 last ++ toBE 1 0) ∧
      (last < 2 ^ 24) ∧
      (s.jobSt = jobLoading ∨ s.jobRuns = true)) ∧
    (∃ (s : State) (src : Src) (b : Bytes) (q : DmpReq) (last : Nat),
      (Asks s src b q) ∧
      (q.op = 4) ∧
      (q.payload = toBE 2 2 ++ toBE 2 0 ++ toBE 3 last ++ toBE 1 0) ∧
      (last < 2 ^ 24) ∧
      (s.jobSt = jobLoading)) ∧
    (∃ (s : State) (src : Src) (b : Bytes) (q : DmpReq) (last : Nat) (o : LongOp),
      (Asks s src b q) ∧
      (q.op = 4) ∧
      (q.payload = toBE 2 2 ++ toBE 2 0 ++ toBE 3 last ++ toBE 1 0) ∧
      (last < 2 ^ 24) ∧
      (s.jobSt = jobArmed) ∧
      (last < s.job.nextSeq) ∧
      (∀ x ∈ s.queue, last < x.d.seq) ∧
      (s.opOfKind kindJob = some o) ∧
      (s.ops.slots.find? (fun x => x.handle = o.handle) = some o)) ∧
    (∃ (s : State) (src : Src) (b : Bytes) (q : DmpReq) (last : Nat),
      (Asks s src b q) ∧
      (q.op = 4) ∧
      (q.payload = toBE 2 2 ++ toBE 2 0 ++ toBE 3 last ++ toBE 1 0) ∧
      (s.jobSt = jobIdle ∨ s.jobSt = jobDone ∨ s.jobSt = jobFault)) ∧
    (∃ (s : State) (src : Src) (b : Bytes) (q : DmpReq),
      (Asks s src b q) ∧
      (q.op = 4) ∧
      (q.payload = toBE 2 3 ++ toBE 2 0) ∧
      (s.jobSt = jobLoading ∨ s.jobSt = jobDone ∨ s.jobSt = jobFault) ∧
      (∀ e ∈ s.hkc.late, e.1 ≠ 0x0A09)) ∧
    (∃ (s : State) (src : Src) (b : Bytes) (q : DmpReq),
      (Asks s src b q) ∧
      (q.op = 4) ∧
      (q.payload = toBE 2 3 ++ toBE 2 0) ∧
      (s.jobSt = jobIdle ∨ s.jobRuns = true)) ∧
    (∃ (s : State) (src : Src) (b : Bytes) (q : DmpReq),
      (Asks s src b q) ∧
      (q.op = 4) ∧
      (q.payload = toBE 2 4 ++ toBE 2 0) ∧
      (∃ u ∈ s.evt.subs, sameSub u.src src = true)) ∧
    (∃ (s : State) (src : Src) (b : Bytes) (q : DmpReq),
      (Asks s src b q) ∧
      (q.op = 4) ∧
      (q.payload = toBE 2 4 ++ toBE 2 0) ∧
      (s.evt.subs.length < 2) ∧
      (∀ u ∈ s.evt.subs, sameSub u.src src = false)) ∧
    (∃ (s : State) (src : Src) (b : Bytes) (q : DmpReq),
      (Asks s src b q) ∧
      (q.op = 4) ∧
      (q.payload = toBE 2 4 ++ toBE 2 0) ∧
      (2 ≤ s.evt.subs.length) ∧
      (∀ u ∈ s.evt.subs, sameSub u.src src = false)) ∧
    (∃ (s : State) (src : Src) (b : Bytes) (q : DmpReq),
      (Asks s src b q) ∧
      (q.op = 4) ∧
      (q.payload = toBE 2 5 ++ toBE 2 0)) :=
  ⟨⟨(up [(Reg.DMC_STATUS.ready, 1)]), (host), (ask 4 7 0 (toBE 2 1 ++ toBE 2 0 ++ toBE 4 9)), (askq 4 7 0 (toBE 2 1 ++ toBE 2 0 ++ toBE 4 9)), (9), by decide +kernel⟩,
   ⟨(up [(Reg.DMC_STATUS.ready, 1)]), (host), (ask 4 7 0 (toBE 2 1 ++ toBE 2 0 ++ toBE 4 9)), (askq 4 7 0 (toBE 2 1 ++ toBE 2 0 ++ toBE 4 9)), (9), by decide +kernel⟩,
   ⟨(up [(Reg.GLOBAL_JOB.state, 3)]), (host), (ask 4 7 0 (toBE 2 1 ++ toBE 2 0 ++ toBE 4 9)), (askq 4 7 0 (toBE 2 1 ++ toBE 2 0 ++ toBE 4 9)), (9), by decide +kernel⟩,
   ⟨(up []), (host), (ask 4 7 0 (toBE 2 1 ++ toBE 2 0 ++ [7#8])), (askq 4 7 0 (toBE 2 1 ++ toBE 2 0 ++ [7#8])), (1), ([7#8]), by decide +kernel⟩,
   ⟨(up [(Reg.GLOBAL_JOB.state, 3)]), (host), (ask 4 7 0 (toBE 2 2 ++ toBE 2 0 ++ toBE 3 812 ++ toBE 1 0)), (askq 4 7 0 (toBE 2 2 ++ toBE 2 0 ++ toBE 3 812 ++ toBE 1 0)), (812), by decide +kernel⟩,
   ⟨(up [(Reg.GLOBAL_JOB.state, 1)]), (host), (ask 4 7 0 (toBE 2 2 ++ toBE 2 0 ++ toBE 3 812 ++ toBE 1 0)), (askq 4 7 0 (toBE 2 2 ++ toBE 2 0 ++ toBE 3 812 ++ toBE 1 0)), (812), by decide +kernel⟩,
   ⟨({ up [(Reg.GLOBAL_JOB.state, 2)] with job := { JobState.init with nextSeq := 813 }, ops := { State.reset.ops with slots := [op0 kindJob 0 0 []] } }), (host), (ask 4 7 0 (toBE 2 2 ++ toBE 2 0 ++ toBE 3 812 ++ toBE 1 0)), (askq 4 7 0 (toBE 2 2 ++ toBE 2 0 ++ toBE 3 812 ++ toBE 1 0)), (812), (op0 kindJob 0 0 []), by decide +kernel⟩,
   ⟨(up []), (host), (ask 4 7 0 (toBE 2 2 ++ toBE 2 0 ++ toBE 3 812 ++ toBE 1 0)), (askq 4 7 0 (toBE 2 2 ++ toBE 2 0 ++ toBE 3 812 ++ toBE 1 0)), (812), by decide +kernel⟩,
   ⟨((up [(Reg.GLOBAL_JOB.state, 6)]).setStream 3 open3), (host), (ask 4 7 0 (toBE 2 3 ++ toBE 2 0)), (askq 4 7 0 (toBE 2 3 ++ toBE 2 0)), by decide +kernel⟩,
   ⟨(up [(Reg.GLOBAL_JOB.state, 3)]), (host), (ask 4 7 0 (toBE 2 3 ++ toBE 2 0)), (askq 4 7 0 (toBE 2 3 ++ toBE 2 0)), by decide +kernel⟩,
   ⟨({ up [] with evt := { EvtState.init with subs := [⟨host, 0, 0, 0⟩] } }), (host), (ask 4 7 0 (toBE 2 4 ++ toBE 2 0)), (askq 4 7 0 (toBE 2 4 ++ toBE 2 0)), by decide +kernel⟩,
   ⟨(up []), (host), (ask 4 7 0 (toBE 2 4 ++ toBE 2 0)), (askq 4 7 0 (toBE 2 4 ++ toBE 2 0)), by decide +kernel⟩,
   ⟨({ up [] with evt := { EvtState.init with subs := [⟨{ host with udp := 1 }, 0, 0, 0⟩, ⟨{ host with udp := 2 }, 0, 0, 0⟩] } }), (host), (ask 4 7 0 (toBE 2 4 ++ toBE 2 0)), (askq 4 7 0 (toBE 2 4 ++ toBE 2 0)), by decide +kernel⟩,
   ⟨({ up [] with evt := { EvtState.init with subs := [⟨host, 0, 0, 0⟩] } }), (host), (ask 4 7 0 (toBE 2 5 ++ toBE 2 0)), (askq 4 7 0 (toBE 2 5 ++ toBE 2 0)), by decide +kernel⟩⟩

/-- Clauses 1, 2, 3, 4, 5, 6, 7, 8, 9, 10, 11, 12, 13, 14, 15, 16, 17, 18, 19. -/
theorem wit_OperationsStart :
    (∃ (s : State) (src : Src) (b : Bytes) (q : DmpReq) (kind : Nat) (arg : Bytes) (c : Instr),
      (Asks s src b q) ∧
      (q.op = 5) ∧
      (q.payload = toBE 1 kind ++ zeros 3 ++ arg) ∧
      (c ∈ [.opJobExposure src b, .opCalibrationSweep src b, .opNvmSnapshot src b, .opFullScrub src b, .opDramRetrain src b, .opLaneBerTest src b, .opSelfTest src b, .opCheckpoint src b, .opSaveOut src b, .opRestore src b, .opFirmwareUpdate src b]) ∧
      (1 ≤ kind) ∧
      (kind ≤ 9) ∧
      (arg.length = opOperands kind) ∧
      (s.startStatus kind arg = 0) ∧
      (s.mayStart kind = true)) ∧
    (∃ (s : State) (src : Src) (b : Bytes) (q : DmpReq) (kind : Nat) (arg : Bytes) (c : Instr),
      (Asks s src b q) ∧
      (q.op = 5) ∧
      (q.payload = toBE 1 kind ++ zeros 3 ++ arg) ∧
      (kind < 256) ∧
      (arg.length ≤ 8000) ∧
      (c ∈ [.opJobExposure src b, .opCalibrationSweep src b, .opNvmSnapshot src b, .opFullScrub src b, .opDramRetrain src b, .opLaneBerTest src b, .opSelfTest src b, .opCheckpoint src b, .opSaveOut src b, .opRestore src b, .opFirmwareUpdate src b]) ∧
      (kind = 0 ∨ 9 < kind ∨ arg.length ≠ opOperands kind ∨ s.startStatus kind arg = 1 ∨ (s.startStatus kind arg = 0 ∧ s.mayStart kind = false))) ∧
    (∃ (s : State) (src : Src) (b : Bytes) (q : DmpReq) (kind : Nat) (arg : Bytes) (c : Instr),
      (Asks s src b q) ∧
      (q.op = 5) ∧
      (q.payload = toBE 1 kind ++ zeros 3 ++ arg) ∧
      (c ∈ [.opJobExposure src b, .opCalibrationSweep src b, .opNvmSnapshot src b, .opFullScrub src b, .opDramRetrain src b, .opLaneBerTest src b, .opSelfTest src b, .opCheckpoint src b, .opSaveOut src b, .opRestore src b, .opFirmwareUpdate src b]) ∧
      (1 ≤ kind) ∧
      (kind ≤ 9) ∧
      (arg.length = opOperands kind) ∧
      (s.startStatus kind arg = 3)) ∧
    (∃ (s : State) (src : Src) (b : Bytes) (q : DmpReq),
      (Asks s src b q) ∧
      (q.op = 5) ∧
      (s.mayStart kindJob = true) ∧
      (∀ e ∈ s.hkc.late, e.1 ≠ 0x0A09) ∧
      (q.payload = toBE 1 kindJob ++ zeros 3) ∧
      (s.jobSt = jobLoading) ∧
      (s.role = roleSolo) ∧
      (s.sessionOpen = false) ∧
      (s.rd Reg.GLOBAL_JOB.end_given = 0) ∧
      (s.rd Reg.DMC_STATUS.sc_failed = 0)) ∧
    (∃ (s : State) (src : Src) (b : Bytes) (q : DmpReq),
      (Asks s src b q) ∧
      (q.op = 5) ∧
      (s.mayStart kindJob = true) ∧
      (q.payload = toBE 1 kindJob ++ zeros 3) ∧
      (s.jobSt = jobLoading)) ∧
    (∃ (s : State) (src : Src) (b : Bytes) (q : DmpReq),
      (Asks s src b q) ∧
      (q.op = 5) ∧
      (q.payload = toBE 1 kindJob ++ zeros 3) ∧
      (s.jobSt ≠ jobLoading)) ∧
    (∃ (s : State) (src : Src) (b : Bytes) (q : DmpReq),
      (Asks s src b q) ∧
      (q.op = 5) ∧
      (s.mayStart kindSweep = true) ∧
      (∀ e ∈ s.hkc.late, e.1 ≠ 0x0A09) ∧
      (q.payload = toBE 1 kindSweep ++ zeros 3) ∧
      (s.jobRuns = false) ∧
      (s.bwNow ≠ 0)) ∧
    (∃ (s : State) (src : Src) (b : Bytes) (q : DmpReq),
      (Asks s src b q) ∧
      (q.op = 5) ∧
      (q.payload = toBE 1 kindSweep ++ zeros 3) ∧
      (s.bwNow = 0)) ∧
    (∃ (s : State) (src : Src) (b : Bytes) (q : DmpReq),
      (Asks s src b q) ∧
      (q.op = 5) ∧
      (s.mayStart kindSnapshot = true) ∧
      (∀ e ∈ s.hkc.late, e.1 ≠ 0x0A09) ∧
      (q.payload = toBE 1 kindSnapshot ++ zeros 3) ∧
      (s.opOfKind kindFirmware = none)) ∧
    (∃ (s : State) (src : Src) (b : Bytes) (q : DmpReq),
      (Asks s src b q) ∧
      (q.op = 5) ∧
      (s.mayStart kindScrub = true) ∧
      (∀ e ∈ s.hkc.late, e.1 ≠ 0x0A09) ∧
      (q.payload = toBE 1 kindScrub ++ zeros 3)) ∧
    (∃ (s : State) (src : Src) (b : Bytes) (q : DmpReq),
      (Asks s src b q) ∧
      (q.op = 5) ∧
      (q.payload = toBE 1 kindScrub ++ zeros 3) ∧
      (s.mayStart kindScrub = false)) ∧
    (∃ (s : State) (src : Src) (b : Bytes) (q : DmpReq) (mask : Nat),
      (Asks s src b q) ∧
      (q.op = 5) ∧
      (s.mayStart kindRetrain = true) ∧
      (∀ e ∈ s.hkc.late, e.1 ≠ 0x0A09) ∧
      (q.payload = toBE 1 kindRetrain ++ zeros 3 ++ toBE 1 mask) ∧
      (0 < mask) ∧
      (mask < 16) ∧
      (s.rd Reg.DMC_STATUS.sc_failed = 0) ∧
      (s.dram.layout = none) ∧
      (s.jobQuiet = true)) ∧
    (∃ (s : State) (src : Src) (b : Bytes) (q : DmpReq) (mask : Nat),
      (Asks s src b q) ∧
      (q.op = 5) ∧
      (q.payload = toBE 1 kindRetrain ++ zeros 3 ++ toBE 1 mask) ∧
      (mask < 16) ∧
      (mask &&& s.rd Reg.DMC_STATUS.sc_failed ≠ 0) ∧
      (s.dram.layout = none)) ∧
    (∃ (s : State) (src : Src) (b : Bytes) (q : DmpReq) (k : Nat),
      (Asks s src b q) ∧
      (q.op = 5) ∧
      (s.mayStart kindBer = true) ∧
      (∀ e ∈ s.hkc.late, e.1 ≠ 0x0A09) ∧
      (q.payload = toBE 1 kindBer ++ zeros 3 ++ toBE 8 (2 ^ k)) ∧
      (k < 64) ∧
      (s.berRefused (2 ^ k) = []) ∧
      (4 ≤ s.rd (Reg.LANE_TEST.test k)) ∧
      (s.laneSt k = lnFailed)) ∧
    (∃ (s : State) (src : Src) (b : Bytes) (q : DmpReq) (mask : Nat),
      (Asks s src b q) ∧
      (q.op = 5) ∧
      (q.payload = toBE 1 kindBer ++ zeros 3 ++ toBE 8 mask) ∧
      (mask < 2 ^ 64) ∧
      (s.berRefused mask ≠ [])) ∧
    (∃ (s : State) (src : Src) (b : Bytes) (q : DmpReq) (mask : Nat),
      (Asks s src b q) ∧
      (q.op = 5) ∧
      (s.mayStart kindSelfTest = true) ∧
      (∀ e ∈ s.hkc.late, e.1 ≠ 0x0A09) ∧
      (q.payload = toBE 1 kindSelfTest ++ zeros 3 ++ toBE 4 mask) ∧
      (mask < 4096) ∧
      (s.jobSt = jobIdle ∨ s.jobSt = jobDone ∨ s.jobSt = jobFault)) ∧
    (∃ (s : State) (src : Src) (b : Bytes) (q : DmpReq) (i : Nat),
      (Asks s src b q) ∧
      (q.op = 5) ∧
      (s.mayStart kindFirmware = true) ∧
      (∀ e ∈ s.hkc.late, e.1 ≠ 0x0A09) ∧
      (q.payload = toBE 1 kindFirmware ++ zeros 3 ++ toBE 1 i) ∧
      (i < 16) ∧
      (s.opOfKind kindSnapshot = none) ∧
      (s.codec.fwFull.contains i = true) ∧
      (fwFault s.variant (tabGet [] s.codec.fwStage i) = 0)) ∧
    (∃ (s : State) (src : Src) (b : Bytes) (q : DmpReq) (i : Nat),
      (Asks s src b q) ∧
      (q.op = 5) ∧
      (s.mayStart kindFirmware = true) ∧
      (∀ e ∈ s.hkc.late, e.1 ≠ 0x0A09) ∧
      (q.payload = toBE 1 kindFirmware ++ zeros 3 ++ toBE 1 i) ∧
      (i < 16) ∧
      (s.opOfKind kindSnapshot = none) ∧
      (s.codec.fwFull.contains i = true) ∧
      (fwFault s.variant (tabGet [] s.codec.fwStage i) ≠ 0) ∧
      (s.ops.slots = [])) ∧
    (∃ (s : State) (src : Src) (b : Bytes) (q : DmpReq) (i : Nat),
      (Asks s src b q) ∧
      (q.op = 5) ∧
      (q.payload = toBE 1 kindFirmware ++ zeros 3 ++ toBE 1 i) ∧
      (i < 16) ∧
      (s.codec.fwFull.contains i = false)) :=
  ⟨⟨(up [(Reg.CAL_WINDOW.window_us, 1000), (Reg.CAL_WINDOW.tau_ns, 800), (Reg.CAL_CTRL.shots, 1)]), (host), (ask 5 7 0 (toBE 1 2 ++ zeros 3 ++ [])), (askq 5 7 0 (toBE 1 2 ++ zeros 3 ++ [])), (2), ([]), (.opCalibrationSweep host (ask 5 7 0 (toBE 1 2 ++ zeros 3 ++ []))), by decide +kernel⟩,
   ⟨(up []), (host), (ask 5 7 0 (toBE 1 7 ++ zeros 3 ++ toBE 4 4096)), (askq 5 7 0 (toBE 1 7 ++ zeros 3 ++ toBE 4 4096)), (7), (toBE 4 4096), (.opSelfTest host (ask 5 7 0 (toBE 1 7 ++ zeros 3 ++ toBE 4 4096))), by decide +kernel⟩,
   ⟨(up []), (host), (ask 5 7 0 (toBE 1 9 ++ zeros 3 ++ toBE 1 2)), (askq 5 7 0 (toBE 1 9 ++ zeros 3 ++ toBE 1 2)), (9), (toBE 1 2), (.opFirmwareUpdate host (ask 5 7 0 (toBE 1 9 ++ zeros 3 ++ toBE 1 2))), by decide +kernel⟩,
   ⟨(up [(Reg.GLOBAL_JOB.state, 1)]), (host), (ask 5 7 0 (toBE 1 kindJob ++ zeros 3)), (askq 5 7 0 (toBE 1 kindJob ++ zeros 3)), by decide +kernel⟩,
   ⟨(up [(Reg.GLOBAL_JOB.state, 1), (Reg.PAIR_STATUS.role, 2), (Reg.PAIR_STATUS.link_up, 1)]), (host), (ask 5 7 0 (toBE 1 kindJob ++ zeros 3)), (askq 5 7 0 (toBE 1 kindJob ++ zeros 3)), by decide +kernel⟩,
   ⟨(up []), (host), (ask 5 7 0 (toBE 1 kindJob ++ zeros 3)), (askq 5 7 0 (toBE 1 kindJob ++ zeros 3)), by decide +kernel⟩,
   ⟨(up [(Reg.CAL_WINDOW.window_us, 1000), (Reg.CAL_WINDOW.tau_ns, 800), (Reg.CAL_CTRL.shots, 1)]), (host), (ask 5 7 0 (toBE 1 kindSweep ++ zeros 3)), (askq 5 7 0 (toBE 1 kindSweep ++ zeros 3)), by decide +kernel⟩,
   ⟨(up [(Reg.CAL_WINDOW.window_us, 0)]), (host), (ask 5 7 0 (toBE 1 kindSweep ++ zeros 3)), (askq 5 7 0 (toBE 1 kindSweep ++ zeros 3)), by decide +kernel⟩,
   ⟨(up []), (host), (ask 5 7 0 (toBE 1 kindSnapshot ++ zeros 3)), (askq 5 7 0 (toBE 1 kindSnapshot ++ zeros 3)), by decide +kernel⟩,
   ⟨(up []), (host), (ask 5 7 0 (toBE 1 kindScrub ++ zeros 3)), (askq 5 7 0 (toBE 1 kindScrub ++ zeros 3)), by decide +kernel⟩,
   ⟨({ (up []) with ops := { State.reset.ops with slots := [op0 kindScrub 0 0 []] } }), (host), (ask 5 7 0 (toBE 1 kindScrub ++ zeros 3)), (askq 5 7 0 (toBE 1 kindScrub ++ zeros 3)), by decide +kernel⟩,
   ⟨(up []), (host), (ask 5 7 0 (toBE 1 kindRetrain ++ zeros 3 ++ toBE 1 3)), (askq 5 7 0 (toBE 1 kindRetrain ++ zeros 3 ++ toBE 1 3)), (3), by decide +kernel⟩,
   ⟨(up [(Reg.DMC_STATUS.sc_failed, 2)]), (host), (ask 5 7 0 (toBE 1 kindRetrain ++ zeros 3 ++ toBE 1 3)), (askq 5 7 0 (toBE 1 kindRetrain ++ zeros 3 ++ toBE 1 3)), (3), by decide +kernel⟩,
   ⟨(up [(Reg.LANE_STATE.state 5, lnFailed), (Reg.LANE_TEST.test 5, 5), (Reg.PAIR_STATUS.halyard_out, 1)]), (host), (ask 5 7 0 (toBE 1 kindBer ++ zeros 3 ++ toBE 8 (2 ^ 5))), (askq 5 7 0 (toBE 1 kindBer ++ zeros 3 ++ toBE 8 (2 ^ 5))), (5), by decide +kernel⟩,
   ⟨(up []), (host), (ask 5 7 0 (toBE 1 kindBer ++ zeros 3 ++ toBE 8 3)), (askq 5 7 0 (toBE 1 kindBer ++ zeros 3 ++ toBE 8 3)), (3), by decide +kernel⟩,
   ⟨(up []), (host), (ask 5 7 0 (toBE 1 kindSelfTest ++ zeros 3 ++ toBE 4 4095)), (askq 5 7 0 (toBE 1 kindSelfTest ++ zeros 3 ++ toBE 4 4095)), (4095), by decide +kernel⟩,
   ⟨({ up [] with codec := { State.reset.codec with fwStage := [(2, fwImage)], fwFull := [2] } }), (host), (ask 5 7 0 (toBE 1 kindFirmware ++ zeros 3 ++ toBE 1 2)), (askq 5 7 0 (toBE 1 kindFirmware ++ zeros 3 ++ toBE 1 2)), (2), by decide +kernel⟩,
   ⟨({ up [] with codec := { State.reset.codec with fwStage := [(2, [1#8])], fwFull := [2] } }), (host), (ask 5 7 0 (toBE 1 kindFirmware ++ zeros 3 ++ toBE 1 2)), (askq 5 7 0 (toBE 1 kindFirmware ++ zeros 3 ++ toBE 1 2)), (2), by decide +kernel⟩,
   ⟨(up []), (host), (ask 5 7 0 (toBE 1 kindFirmware ++ zeros 3 ++ toBE 1 2)), (askq 5 7 0 (toBE 1 kindFirmware ++ zeros 3 ++ toBE 1 2)), (2), by decide +kernel⟩⟩

theorem wit_OperationsStopAndEnd_4 : ∃ (s : State) (src : Src) (b : Bytes) (q : DmpReq) (i : Nat), (Asks s src b q) ∧ (q.op = 5) ∧
    (s.mayStart kindCtx = true) ∧ (∀ e ∈ s.hkc.late, e.1 ≠ 0x0A09) ∧ (q.payload = toBE 1 kindCtx ++ zeros 3 ++ toBE 1 3 ++ toBE 2 (2 ^ i)) ∧ (i < 16) ∧
    ((s.restorable i).isSome = true) := by
  obtain ⟨c, h⟩ := chunk3_good
  refine ⟨(up []).setStream 3 saved3, host, ask 5 7 0 (toBE 1 kindCtx ++ zeros 3 ++ toBE 1 3 ++ toBE 2 (2 ^ 3)),
    askq 5 7 0 (toBE 1 kindCtx ++ zeros 3 ++ toBE 1 3 ++ toBE 2 (2 ^ 3)), 3, ?_, rfl, ?_, by decide, rfl, by decide, ?_⟩
  · decide +kernel
  · decide +kernel
  · rw [restorable_of _ 3 saved3 ⟨chunk3, [], true⟩ c rfl rfl rfl rfl h]; rfl

/-- Clauses 1, 2, 3, 5, 6, 7, 8, 9, 10, 11, 12, 13, 14, 15, 16, 17, 18, 19, 20, 21, 22, 23, 24, 25, 26, 27, 28, 29, 30, 31, 32, 33, 34, 35, 36, 37, 38, 39, 40. -/
theorem wit_OperationsStopAndEnd :
    (∃ (s : State) (src : Src) (b : Bytes) (q : DmpReq) (i mask : Nat),
      (Asks s src b q) ∧
      (q.op = 5) ∧
      (s.mayStart kindCtx = true) ∧
      (∀ e ∈ s.hkc.late, e.1 ≠ 0x0A09) ∧
      (q.payload = toBE 1 kindCtx ++ zeros 3 ++ toBE 1 1 ++ toBE 2 mask) ∧
      (mask < 65536) ∧
      (i < 16) ∧
      (mask.testBit i = true) ∧
      (∀ j ∈ List.range i, mask.testBit j = false) ∧
      ((s.stream i).inChunk = false)) ∧
    (∃ (s : State) (src : Src) (b : Bytes) (q : DmpReq) (i mask : Nat),
      (Asks s src b q) ∧
      (q.op = 5) ∧
      (s.mayStart kindCtx = true) ∧
      (∀ e ∈ s.hkc.late, e.1 ≠ 0x0A09) ∧
      (q.payload = toBE 1 kindCtx ++ zeros 3 ++ toBE 1 2 ++ toBE 2 mask) ∧
      (mask < 65536) ∧
      (i < 16) ∧
      (mask.testBit i = true) ∧
      (∀ j ∈ List.range i, mask.testBit j = false) ∧
      (s.codec.streams.length = 16)) ∧
    (∃ (s : State) (src : Src) (b : Bytes) (q : DmpReq) (i mask : Nat),
      (Asks s src b q) ∧
      (q.op = 5) ∧
      (q.payload = toBE 1 kindCtx ++ zeros 3 ++ toBE 1 3 ++ toBE 2 mask) ∧
      (mask < 65536) ∧
      (i < 16) ∧
      (mask.testBit i = true) ∧
      (s.restorable i = none)) ∧
    (∃ (s : State) (src : Src) (b : Bytes) (q : DmpReq) (o : LongOp),
      (Asks s src b q) ∧
      (q.op = 6) ∧
      (q.payload = []) ∧
      (s.ops.slots.find? (fun x => x.handle = q.handle) = some o) ∧
      (opFinished o = false) ∧
      (o.kind = kindScrub) ∧
      (o.st = .running) ∧
      (∀ e ∈ s.hkc.late, e.1 ≠ 0x0A09)) ∧
    (∃ (s : State) (src : Src) (b : Bytes) (q : DmpReq) (o : LongOp),
      (Asks s src b q) ∧
      (q.op = 6) ∧
      (q.payload = []) ∧
      (s.ops.slots.find? (fun x => x.handle = q.handle) = some o) ∧
      (opFinished o = false) ∧
      (o.kind = kindSweep) ∧
      (o.st = .running) ∧
      (s.cal.window = none) ∧
      (∀ e ∈ s.hkc.late, e.1 ≠ 0x0A09)) ∧
    (∃ (s : State) (src : Src) (b : Bytes) (q : DmpReq) (o : LongOp),
      (Asks s src b q) ∧
      (q.op = 6) ∧
      (q.payload = []) ∧
      (s.ops.slots.find? (fun x => x.handle = q.handle) = some o) ∧
      (opFinished o = false) ∧
      (o.kind = kindJob) ∧
      (o.st = .running) ∧
      (s.jobSt = jobExposing) ∧
      (s.role ≠ roleStandby) ∧
      (∀ e ∈ s.hkc.late, e.1 ≠ 0x0A09)) ∧
    (∃ (s : State) (src : Src) (b : Bytes) (q : DmpReq) (o : LongOp),
      (Asks s src b q) ∧
      (q.op = 6) ∧
      (q.payload = []) ∧
      (s.ops.slots.find? (fun x => x.handle = q.handle) = some o) ∧
      (opFinished o = false) ∧
      (o.kind = kindJob) ∧
      (o.st = .running) ∧
      (s.jobSt = jobArmed) ∧
      (s.current = none) ∧
      (s.role ≠ roleStandby) ∧
      (s.opOfKind kindJob = some o) ∧
      (∀ e ∈ s.hkc.late, e.1 ≠ 0x0A09)) ∧
    (∃ (s : State) (src : Src) (b : Bytes) (q : DmpReq) (o : LongOp),
      (Asks s src b q) ∧
      (q.op = 6) ∧
      (q.payload = []) ∧
      (s.ops.slots.find? (fun x => x.handle = q.handle) = some o) ∧
      (opFinished o = false) ∧
      (o.kind ≠ kindJob) ∧
      (o.st = .suspended)) ∧
    (∃ (s : State) (src : Src) (b : Bytes) (q : DmpReq) (o : LongOp),
      (Asks s src b q) ∧
      (q.op = 6) ∧
      (q.payload = []) ∧
      (s.findOp q.handle = some o) ∧
      (opFinished o = true)) ∧
    (∃ (s : State) (src : Src) (b : Bytes) (q : DmpReq),
      (Asks s src b q) ∧
      (q.op = 6) ∧
      (q.payload = []) ∧
      (s.findOp q.handle = none)) ∧
    (∃ (s : State) (src : Src) (b : Bytes) (q : DmpReq) (o : LongOp),
      (Asks s src b q) ∧
      (q.op = 7) ∧
      (q.payload = []) ∧
      (s.ops.slots.find? (fun x => x.handle = q.handle) = some o) ∧
      (opFinished o = false) ∧
      (o.kind = kindScrub) ∧
      (o.st = .suspended) ∧
      (o.cancelling = false) ∧
      (∀ e ∈ s.hkc.late, e.1 ≠ 0x0A09)) ∧
    (∃ (s : State) (src : Src) (b : Bytes) (q : DmpReq) (o : LongOp),
      (Asks s src b q) ∧
      (q.op = 7) ∧
      (q.payload = []) ∧
      (s.ops.slots.find? (fun x => x.handle = q.handle) = some o) ∧
      (opFinished o = false) ∧
      (o.kind = kindJob) ∧
      (o.st = .suspended) ∧
      (o.cancelling = false) ∧
      (s.role ≠ roleStandby) ∧
      (s.rd Reg.DMC_STATUS.sc_failed ≠ 0 ∨ s.rd Reg.PWR_THERM.warning = 1)) ∧
    (∃ (s : State) (src : Src) (b : Bytes) (q : DmpReq) (o : LongOp),
      (Asks s src b q) ∧
      (q.op = 7) ∧
      (q.payload = []) ∧
      (s.ops.slots.find? (fun x => x.handle = q.handle) = some o) ∧
      (opFinished o = false) ∧
      (o.kind = kindJob) ∧
      (o.st = .suspended) ∧
      (o.cancelling = false) ∧
      (s.role = roleSolo) ∧
      (s.jobSt = jobSuspended) ∧
      (s.rd Reg.DMC_STATUS.sc_failed = 0) ∧
      (s.rd Reg.PWR_THERM.warning = 0) ∧
      (s.rd Reg.GLOBAL_JOB.end_given = 0)) ∧
    (∃ (s : State) (src : Src) (b : Bytes) (q : DmpReq) (o : LongOp),
      (Asks s src b q) ∧
      (q.op = 7) ∧
      (q.payload = []) ∧
      (s.ops.slots.find? (fun x => x.handle = q.handle) = some o) ∧
      (opFinished o = false) ∧
      (o.kind ≠ kindJob) ∧
      (o.st = .running)) ∧
    (∃ (s : State) (src : Src) (b : Bytes) (q : DmpReq) (o : LongOp),
      (Asks s src b q) ∧
      (q.op = 8) ∧
      (q.payload = toBE 4 0) ∧
      (s.ops.slots.find? (fun x => x.handle = q.handle) = some o) ∧
      (opFinished o = false) ∧
      (o.kind = kindScrub) ∧
      (o.st = .running) ∧
      (∀ e ∈ s.hkc.late, e.1 ≠ 0x0A09)) ∧
    (∃ (s : State) (src : Src) (b : Bytes) (q : DmpReq) (o : LongOp),
      (Asks s src b q) ∧
      (q.op = 8) ∧
      (q.payload = toBE 4 0) ∧
      (s.ops.slots.find? (fun x => x.handle = q.handle) = some o) ∧
      (opFinished o = false) ∧
      (o.kind = kindSweep) ∧
      (o.st = .suspended) ∧
      (∀ e ∈ s.hkc.late, e.1 ≠ 0x0A09)) ∧
    (∃ (s : State) (src : Src) (b : Bytes) (q : DmpReq) (o : LongOp),
      (Asks s src b q) ∧
      (q.op = 8) ∧
      (q.payload = toBE 4 0) ∧
      (s.ops.slots.find? (fun x => x.handle = q.handle) = some o) ∧
      (opFinished o = false) ∧
      (o.kind = kindJob) ∧
      (o.st = .running) ∧
      (s.jobSt = jobExposing) ∧
      (s.role ≠ roleStandby) ∧
      (∀ e ∈ s.hkc.late, e.1 ≠ 0x0A09)) ∧
    (∃ (s : State) (src : Src) (b : Bytes) (q : DmpReq) (o : LongOp) (x : Stripe),
      (Asks s src b q) ∧
      (q.op = 8) ∧
      (q.payload = toBE 4 1) ∧
      (s.ops.slots.find? (fun x => x.handle = q.handle) = some o) ∧
      (opFinished o = false) ∧
      (o.kind = kindJob) ∧
      (s.role ≠ roleStandby) ∧
      (s.current = some x) ∧
      (s.stripe x.d.seq = some x) ∧
      (x.launched < x.computed) ∧
      (∀ e ∈ s.hkc.late, e.1 ≠ 0x0A09)) ∧
    (∃ (s : State) (src : Src) (b : Bytes) (q : DmpReq) (o : LongOp) (x : Stripe),
      (Asks s src b q) ∧
      (q.op = 8) ∧
      (q.payload = toBE 4 1) ∧
      (s.ops.slots.find? (fun x => x.handle = q.handle) = some o) ∧
      (opFinished o = false) ∧
      (o.kind = kindJob) ∧
      (s.opOfKind kindJob = some o) ∧
      (s.role ≠ roleStandby) ∧
      (s.current = some x) ∧
      (s.stripe x.d.seq = some x) ∧
      (x.computed = x.launched) ∧
      (s.jobSt = jobExposing)) ∧
    (∃ (s : State) (src : Src) (b : Bytes) (q : DmpReq) (o : LongOp) (c : Instr),
      (Asks s src b q) ∧
      (((q.op = 6 ∨ q.op = 7) ∧ q.payload = []) ∨ (q.op = 8 ∧ (q.payload = toBE 4 0 ∨ q.payload = toBE 4 1))) ∧
      (c ∈ [.opSuspend src b, .opResume src b, .opCancel src b, .opCancelAbandon src b]) ∧
      (s.ops.slots.find? (fun x => x.handle = q.handle) = some o) ∧
      (opFinished o = false) ∧
      (o.kind = kindJob) ∧
      (s.role = roleStandby)) ∧
    (∃ (s : State) (src : Src) (b : Bytes) (q : DmpReq) (o : LongOp) (c : Instr),
      (Asks s src b q) ∧
      (((q.op = 6 ∨ q.op = 7) ∧ q.payload = []) ∨ (q.op = 8 ∧ (q.payload = toBE 4 0 ∨ q.payload = toBE 4 1))) ∧
      (c ∈ [.opSuspend src b, .opResume src b, .opCancel src b, .opCancelAbandon src b]) ∧
      (s.findOp q.handle = some o) ∧
      (opFinished o = true)) ∧
    (∃ (s : State) (src : Src) (b : Bytes) (q : DmpReq) (c : Instr),
      (Asks s src b q) ∧
      (((q.op = 6 ∨ q.op = 7) ∧ q.payload = []) ∨ (q.op = 8 ∧ (q.payload = toBE 4 0 ∨ q.payload = toBE 4 1))) ∧
      (c ∈ [.opSuspend src b, .opResume src b, .opCancel src b, .opCancelAbandon src b]) ∧
      (s.findOp q.handle = none)) ∧
    (∃ (s : State) (src : Src) (b : Bytes) (q : DmpReq) (o : LongOp),
      (Asks s src b q) ∧
      (q.op = 6) ∧
      (q.payload = []) ∧
      (s.ops.slots.find? (fun x => x.handle = q.handle) = some o) ∧
      (opFinished o = false) ∧
      (o.st = .running ∨ o.st = .waiting) ∧
      (o.kind = kindJob → s.role ≠ roleStandby ∧ s.opOfKind kindJob = some o)) ∧
    (∃ (s : State) (src : Src) (b : Bytes) (q : DmpReq) (o : LongOp),
      (Asks s src b q) ∧
      (q.op = 7) ∧
      (q.payload = []) ∧
      (s.ops.slots.find? (fun x => x.handle = q.handle) = some o) ∧
      (opFinished o = false) ∧
      (o.st = .suspended) ∧
      (o.cancelling = false) ∧
      (o.kind ≠ kindJob) ∧
      (o.kind = kindSweep → s.jobRuns = false)) ∧
    (∃ (s : State) (src : Src) (b : Bytes) (q : DmpReq) (o : LongOp),
      (Asks s src b q) ∧
      (q.op = 7) ∧
      (q.payload = []) ∧
      (s.ops.slots.find? (fun x => x.handle = q.handle) = some o) ∧
      (opFinished o = false) ∧
      (o.st = .suspending) ∧
      (o.cancelling = false) ∧
      (o.kind = kindJob → s.role ≠ roleStandby ∧ s.rd Reg.DMC_STATUS.sc_failed = 0 ∧ s.rd Reg.PWR_THERM.warning = 0) ∧
      (o.kind = kindSweep → s.jobRuns = false) ∧
      (∀ e ∈ s.hkc.late, e.1 ≠ 0x0A09)) ∧
    (∃ (s : State) (src : Src) (b : Bytes) (q : DmpReq) (o : LongOp),
      (Asks s src b q) ∧
      (q.op = 7) ∧
      (q.payload = []) ∧
      (s.ops.slots.find? (fun x => x.handle = q.handle) = some o) ∧
      (opFinished o = false) ∧
      (o.st = .suspended ∨ o.st = .suspending) ∧
      (o.cancelling = true ∨ (o.kind = kindSweep ∧ s.jobRuns = true) ∨ (o.kind = kindJob ∧ (s.rd Reg.DMC_STATUS.sc_failed ≠ 0 ∨ s.rd Reg.PWR_THERM.warning = 1)))) ∧
    (∃ (s : State) (src : Src) (b : Bytes) (q : DmpReq) (o : LongOp) (c : Instr),
      (Asks s src b q) ∧
      (q.op = 8) ∧
      ((q.payload = toBE 4 0 ∧ c = .opCancel src b) ∨ (q.payload = toBE 4 1 ∧ c = .opCancelAbandon src b)) ∧
      (s.ops.slots.find? (fun x => x.handle = q.handle) = some o) ∧
      (opFinished o = false) ∧
      (o.st ≠ .suspending) ∧
      (o.kind = kindJob → s.role ≠ roleStandby)) ∧
    (∃ (s : State) (src : Src) (b : Bytes) (q : DmpReq) (o : LongOp) (c : Instr),
      (Asks s src b q) ∧
      (q.op = 8) ∧
      ((q.payload = toBE 4 0 ∧ c = .opCancel src b) ∨ (q.payload = toBE 4 1 ∧ c = .opCancelAbandon src b)) ∧
      (s.ops.slots.find? (fun x => x.handle = q.handle) = some o) ∧
      (opFinished o = false) ∧
      (o.kind ≠ kindJob) ∧
      (o.st = .running ∨ o.st = .waiting) ∧
      (s.atPoint o = false) ∧
      (∀ e ∈ s.hkc.late, e.1 ≠ 0x0A09)) ∧
    (∃ (s : State) (src : Src) (b : Bytes) (q : DmpReq) (o : LongOp) (c : Instr),
      (Asks s src b q) ∧
      (q.op = 8) ∧
      ((q.payload = toBE 4 0 ∧ c = .opCancel src b) ∨ (q.payload = toBE 4 1 ∧ c = .opCancelAbandon src b)) ∧
      (s.ops.slots.find? (fun x => x.handle = q.handle) = some o) ∧
      (opFinished o = false) ∧
      (o.kind = kindJob) ∧
      (s.opOfKind kindJob = some o) ∧
      (s.role ≠ roleStandby) ∧
      (s.current = none) ∧
      (s.jobSt = jobArmed ∨ s.jobSt = jobTurnaround ∨ s.jobSt = jobSuspended)) ∧
    (∃ (s : State) (src : Src) (b : Bytes) (q : DmpReq),
      (Asks s src b q) ∧
      (q.op = 9) ∧
      (q.payload = []) ∧
      (s.findOp q.handle = none)) ∧
    (∃ (s : State) (src : Src) (b : Bytes) (q : DmpReq) (o : LongOp),
      (Asks s src b q) ∧
      (q.op = 9) ∧
      (q.payload = []) ∧
      (s.findOp q.handle = some o)) ∧
    (∃ (s : State) (c : Instr) (k n : Nat) (l : List Nat) (ok : Bool) (o : LongOp),
      (((c = .snapshotDone ok ∧ k = kindSnapshot) ∨ (c = .firmwareUpdateDone ok ∧ k = kindFirmware) ∨ (c = .selfTestDone n l ∧ k = kindSelfTest))) ∧
      (s.opOfKind k = none ∨ (s.opOfKind k = some o ∧ o.cancelling = false ∧ (o.st = .suspended ∨ o.st = .waiting)))) ∧
    (∃ (s : State) (c : Instr) (k n : Nat) (l : List Nat) (ok : Bool) (o : LongOp),
      (((c = .snapshotDone ok ∧ k = kindSnapshot) ∨ (c = .firmwareUpdateDone ok ∧ k = kindFirmware) ∨ (c = .selfTestDone n l ∧ k = kindSelfTest))) ∧
      (s.opOfKind k = some o) ∧
      (s.ops.slots.find? (fun x => x.handle = o.handle) = some o) ∧
      (o.st = .suspending) ∧
      (o.cancelling = false)) ∧
    (∃ (s : State) (c : Instr) (k n : Nat) (l : List Nat) (ok : Bool) (o : LongOp),
      (((c = .snapshotDone ok ∧ k = kindSnapshot) ∨ (c = .firmwareUpdateDone ok ∧ k = kindFirmware) ∨ (c = .selfTestDone n l ∧ k = kindSelfTest))) ∧
      (s.opOfKind k = some o) ∧
      (s.ops.slots.find? (fun x => x.handle = o.handle) = some o) ∧
      (o.cancelling = true)) ∧
    (∃ (s : State) (o : LongOp),
      (s.opOfKind kindSnapshot = some o) ∧
      (s.ops.slots.find? (fun x => x.handle = o.handle) = some o) ∧
      (o.st = .running) ∧
      (o.cancelling = false)) ∧
    (∃ (s : State) (o : LongOp),
      (s.opOfKind kindSnapshot = some o) ∧
      (s.ops.slots.find? (fun x => x.handle = o.handle) = some o) ∧
      (o.st = .running) ∧
      (o.cancelling = false)) ∧
    (∃ (s : State) (o : LongOp),
      (s.opOfKind kindFirmware = some o) ∧
      (s.ops.slots.find? (fun x => x.handle = o.handle) = some o) ∧
      (o.st = .running) ∧
      (o.cancelling = false)) ∧
    (∃ (s : State) (o : LongOp),
      (s.opOfKind kindFirmware = some o) ∧
      (s.ops.slots.find? (fun x => x.handle = o.handle) = some o) ∧
      (o.st = .running) ∧
      (o.cancelling = false)) ∧
    (∃ (s : State) (tested : Nat) (failed : List Nat) (o : LongOp),
      (s.opOfKind kindSelfTest = some o) ∧
      (s.ops.slots.find? (fun x => x.handle = o.handle) = some o) ∧
      (o.st = .running) ∧
      (o.cancelling = false)) :=
  ⟨⟨(up []), (host), (ask 5 7 0 (toBE 1 kindCtx ++ zeros 3 ++ toBE 1 1 ++ toBE 2 40)), (askq 5 7 0 (toBE 1 kindCtx ++ zeros 3 ++ toBE 1 1 ++ toBE 2 40)), (3), (40), by decide +kernel⟩,
   ⟨((up []).setStream 3 open3), (host), (ask 5 7 0 (toBE 1 kindCtx ++ zeros 3 ++ toBE 1 2 ++ toBE 2 40)), (askq 5 7 0 (toBE 1 kindCtx ++ zeros 3 ++ toBE 1 2 ++ toBE 2 40)), (3), (40), by decide +kernel⟩,
   ⟨(up []), (host), (ask 5 7 0 (toBE 1 kindCtx ++ zeros 3 ++ toBE 1 3 ++ toBE 2 40)), (askq 5 7 0 (toBE 1 kindCtx ++ zeros 3 ++ toBE 1 3 ++ toBE 2 40)), (5), (40), by decide +kernel⟩,
   ⟨({ (up []) with ops := { State.reset.ops with slots := [op0 kindScrub 0 0 []] } }), (host), (ask 6 7 1 ([])), (askq 6 7 1 ([])), (op0 kindScrub 0 0 []), by decide +kernel⟩,
   ⟨({ (up []) with ops := { State.reset.ops with slots := [op0 kindSweep 0 0 []] } }), (host), (ask 6 7 1 ([])), (askq 6 7 1 ([])), (op0 kindSweep 0 0 []), by decide +kernel⟩,
   ⟨({ running0 (going 0 0 0 0) [] with ops := { State.reset.ops with slots := [op0 kindJob 0 0 []] } }), (host), (ask 6 7 1 ([])), (askq 6 7 1 ([])), (op0 kindJob 0 0 []), by decide +kernel⟩,
   ⟨({ (up [(Reg.GLOBAL_JOB.state, 2)]) with ops := { State.reset.ops with slots := [op0 kindJob 0 0 []] } }), (host), (ask 6 7 1 ([])), (askq 6 7 1 ([])), (op0 kindJob 0 0 []), by decide +kernel⟩,
   ⟨({ (up []) with ops := { State.reset.ops with slots := [{ op0 kindScrub 0 0 [] with st := .suspended }] } }), (host), (ask 6 7 1 ([])), (askq 6 7 1 ([])), ({ op0 kindScrub 0 0 [] with st := .suspended }), by decide +kernel⟩,
   ⟨({ up [] with ops := { State.reset.ops with done := [{ op0 kindScrub 0 0 [] with st := .done }] } }), (host), (ask 6 7 1 ([])), (askq 6 7 1 ([])), ({ op0 kindScrub 0 0 [] with st := .done }), by decide +kernel⟩,
   ⟨(up []), (host), (ask 6 7 1 ([])), (askq 6 7 1 ([])), by decide +kernel⟩,
   ⟨({ (up []) with ops := { State.reset.ops with slots := [{ op0 kindScrub 0 0 [] with st := .suspended }] } }), (host), (ask 7 7 1 ([])), (askq 7 7 1 ([])), ({ op0 kindScrub 0 0 [] with st := .suspended }), by decide +kernel⟩,
   ⟨({ (up [(Reg.GLOBAL_JOB.state, 5), (Reg.PWR_THERM.warning, 1)]) with ops := { State.reset.ops with slots := [{ op0 kindJob 0 0 [] with st := .suspended }] } }), (host), (ask 7 7 1 ([])), (askq 7 7 1 ([])), ({ op0 kindJob 0 0 [] with st := .suspended }), by decide +kernel⟩,
   ⟨({ (up [(Reg.GLOBAL_JOB.state, 5)]) with ops := { State.reset.ops with slots := [{ op0 kindJob 0 0 [] with st := .suspended }] } }), (host), (ask 7 7 1 ([])), (askq 7 7 1 ([])), ({ op0 kindJob 0 0 [] with st := .suspended }), by decide +kernel⟩,
   ⟨({ (up []) with ops := { State.reset.ops with slots := [op0 kindScrub 0 0 []] } }), (host), (ask 7 7 1 ([])), (askq 7 7 1 ([])), (op0 kindScrub 0 0 []), by decide +kernel⟩,
   ⟨({ (up []) with ops := { State.reset.ops with slots := [op0 kindScrub 0 0 []] } }), (host), (ask 8 7 1 (toBE 4 0)), (askq 8 7 1 (toBE 4 0)), (op0 kindScrub 0 0 []), by decide +kernel⟩,
   ⟨({ (up []) with ops := { State.reset.ops with slots := [{ op0 kindSweep 0 0 [] with st := .suspended }] } }), (host), (ask 8 7 1 (toBE 4 0)), (askq 8 7 1 (toBE 4 0)), ({ op0 kindSweep 0 0 [] with st := .suspended }), by decide +kernel⟩,
   ⟨({ running0 (going 0 0 0 0) [] with ops := { State.reset.ops with slots := [op0 kindJob 0 0 []] } }), (host), (ask 8 7 1 (toBE 4 0)), (askq 8 7 1 (toBE 4 0)), (op0 kindJob 0 0 []), by decide +kernel⟩,
   ⟨({ running0 (going 0 5 5 2) [] with ops := { State.reset.ops with slots := [op0 kindJob 0 0 []] } }), (host), (ask 8 7 1 (toBE 4 1)), (askq 8 7 1 (toBE 4 1)), (op0 kindJob 0 0 []), (going 0 5 5 2), by decide +kernel⟩,
   ⟨({ running0 (going 0 5 5 5) [] with ops := { State.reset.ops with slots := [op0 kindJob 0 0 []] } }), (host), (ask 8 7 1 (toBE 4 1)), (askq 8 7 1 (toBE 4 1)), (op0 kindJob 0 0 []), (going 0 5 5 5), by decide +kernel⟩,
   ⟨({ (up [(Reg.PAIR_STATUS.role, 1)]) with ops := { State.reset.ops with slots := [op0 kindJob 0 0 []] } }), (host), (ask 7 7 1 ([])), (askq 7 7 1 ([])), (op0 kindJob 0 0 []), (.opResume host (ask 7 7 1 [])), by decide +kernel⟩,
   ⟨({ up [] with ops := { State.reset.ops with done := [{ op0 kindScrub 0 0 [] with st := .done }] } }), (host), (ask 8 7 1 (toBE 4 1)), (askq 8 7 1 (toBE 4 1)), ({ op0 kindScrub 0 0 [] with st := .done }), (.opCancelAbandon host (ask 8 7 1 (toBE 4 1))), by decide +kernel⟩,
   ⟨(up []), (host), (ask 8 7 1 (toBE 4 0)), (askq 8 7 1 (toBE 4 0)), (.opCancel host (ask 8 7 1 (toBE 4 0))), by decide +kernel⟩,
   ⟨({ (up []) with ops := { State.reset.ops with slots := [op0 kindBer 32 6 []] } }), (host), (ask 6 7 1 ([])), (askq 6 7 1 ([])), (op0 kindBer 32 6 []), by decide +kernel⟩,
   ⟨({ (up []) with ops := { State.reset.ops with slots := [{ op0 kindSnapshot 0 0 [] with st := .suspended }] } }), (host), (ask 7 7 1 ([])), (askq 7 7 1 ([])), ({ op0 kindSnapshot 0 0 [] with st := .suspended }), by decide +kernel⟩,
   ⟨({ (up []) with ops := { State.reset.ops with slots := [{ op0 kindScrub 0 0 [] with st := .suspending }] } }), (host), (ask 7 7 1 ([])), (askq 7 7 1 ([])), ({ op0 kindScrub 0 0 [] with st := .suspending }), by decide +kernel⟩,
   ⟨({ (up []) with ops := { State.reset.ops with slots := [{ op0 kindScrub 0 0 [] with st := .suspending, cancelling := true }] } }), (host), (ask 7 7 1 ([])), (askq 7 7 1 ([])), ({ op0 kindScrub 0 0 [] with st := .suspending, cancelling := true }), by decide +kernel⟩,
   ⟨({ (up []) with ops := { State.reset.ops with slots := [op0 kindSnapshot 0 0 []] } }), (host), (ask 8 7 1 (toBE 4 1)), (askq 8 7 1 (toBE 4 1)), (op0 kindSnapshot 0 0 []), (.opCancelAbandon host (ask 8 7 1 (toBE 4 1))), by decide +kernel⟩,
   ⟨({ (up []) with ops := { State.reset.ops with slots := [op0 kindSnapshot 0 0 []] } }), (host), (ask 8 7 1 (toBE 4 1)), (askq 8 7 1 (toBE 4 1)), (op0 kindSnapshot 0 0 []), (.opCancelAbandon host (ask 8 7 1 (toBE 4 1))), by decide +kernel⟩,
   ⟨({ (up [(Reg.GLOBAL_JOB.state, 2)]) with ops := { State.reset.ops with slots := [op0 kindJob 0 0 []] } }), (host), (ask 8 7 1 (toBE 4 0)), (askq 8 7 1 (toBE 4 0)), (op0 kindJob 0 0 []), (.opCancel host (ask 8 7 1 (toBE 4 0))), by decide +kernel⟩,
   ⟨(up []), (host), (ask 9 7 1 ([])), (askq 9 7 1 ([])), by decide +kernel⟩,
   ⟨({ (up []) with ops := { State.reset.ops with slots := [op0 kindScrub 0 0 []] } }), (host), (ask 9 7 1 ([])), (askq 9 7 1 ([])), (op0 kindScrub 0 0 []), by decide +kernel⟩,
   ⟨(up []), (.snapshotDone true), (kindSnapshot), (0), ([]), (true), (op0 0 0 0 []), by decide +kernel⟩,
   ⟨({ (up []) with ops := { State.reset.ops with slots := [{ op0 kindFirmware 0 0 [] with st := .suspending }] } }), (.firmwareUpdateDone true), (kindFirmware), (0), ([]), (true), ({ op0 kindFirmware 0 0 [] with st := .suspending }), by decide +kernel⟩,
   ⟨({ (up []) with ops := { State.reset.ops with slots := [{ op0 kindFirmware 0 0 [] with st := .suspending, cancelling := true }] } }), (.firmwareUpdateDone true), (kindFirmware), (0), ([]), (true), ({ op0 kindFirmware 0 0 [] with st := .suspending, cancelling := true }), by decide +kernel⟩,
   ⟨({ (up []) with ops := { State.reset.ops with slots := [op0 kindSnapshot 1 0 [1#8, 2#8, 3#8, 4#8, 0#8, 0#8, 0#8, 9#8]] } }), (op0 kindSnapshot 1 0 [1#8, 2#8, 3#8, 4#8, 0#8, 0#8, 0#8, 9#8]), by decide +kernel⟩,
   ⟨({ (up []) with ops := { State.reset.ops with slots := [op0 kindSnapshot 1 0 [1#8]] } }), (op0 kindSnapshot 1 0 [1#8]), by decide +kernel⟩,
   ⟨({ (up []) with ops := { State.reset.ops with slots := [op0 kindFirmware 2 0 fwImage] } }), (op0 kindFirmware 2 0 fwImage), by decide +kernel⟩,
   ⟨({ (up []) with ops := { State.reset.ops with slots := [op0 kindFirmware 2 0 fwImage] } }), (op0 kindFirmware 2 0 fwImage), by decide +kernel⟩,
   ⟨({ (up []) with ops := { State.reset.ops with slots := [op0 kindSelfTest 4095 0 []] } }), (300), ([17, 40]), (op0 kindSelfTest 4095 0 []), by decide +kernel⟩⟩

/-- Clauses 1, 2, 5, 6, 7, 8, 9, 10, 11, 12, 13. -/
theorem wit_EventsAreAcknowledgedAndResent :
    (∃ (s : State) (src : Src) (b : Bytes) (q : DmpReq) (i : Nat),
      (Asks s src b q) ∧
      (q.op = 0x0B) ∧
      (q.payload = toBE 4 i) ∧
      (i < 2 ^ 32)) ∧
    (∃ (s : State) (src : Src) (b : Bytes) (q : DmpReq),
      (Asks s src b q) ∧
      (q.op = 0x0B) ∧
      (q.payload.length ≠ 4)) ∧
    (∃ (s : State) (u : Subscriber) (es : List EvtEntry),
      (s.evt.lastSend + 1000000 * s.rd Reg.EVT_CTRL.resend_ms ≤ s.now) ∧
      (s.evt.subs = [u]) ∧
      ((s.evt.ring.filter (fun e => evtPending s.evt e && decide (u.acked ≤ e.index))).reverse = es)) ∧
    (∃ (s : State) (u : Subscriber) (es : List EvtEntry),
      (s.evt.lastSend + 1000000 * s.rd Reg.EVT_CTRL.resend_ms ≤ s.now) ∧
      (u ∈ s.evt.subs) ∧
      ((s.evt.ring.filter (fun e => evtPending s.evt e && decide (u.acked ≤ e.index))).reverse = es) ∧
      (0 < es.length) ∧
      (es.length ≤ 16)) ∧
    (∃ (s : State),
      (s.now < s.evt.lastSend + 1000000 * s.rd Reg.EVT_CTRL.resend_ms)) ∧
    (∃ (s : State) (u : Subscriber) (k : Nat),
      (s.evt.subs.findIdx? (fun x => s.silent x) = some k) ∧
      (s.evt.subs[k]? = some u)) ∧
    (∃ (s : State),
      (∀ u ∈ s.evt.subs, s.now < u.lastAck + 1000000000 ∨ s.rd Reg.EVT_INDEX.next ≤ u.acked)) ∧
    (∃ (s : State),
      (s.hkcUp = true) ∧
      (∀ e ∈ s.hkc.late, e.1 ≠ 0x0A09)) ∧
    (∃ (s : State),
      (s.hkcUp = false)) ∧
    (∃ (s : State) (target reg v : Nat),
      (s.hkcUp = true) ∧
      (target = 0x50 + s.columnId) ∧
      (v = if reg ∈ smbusRegs then s.readReg reg else 0xFFFFFFFF)) ∧
    (∃ (s : State) (target cmd reg : Nat),
      (s.hkcUp = false ∨ target ≠ 0x50 + s.columnId ∨ cmd ≠ 1)) :=
  ⟨⟨(told [sub0 0] [evt0 1 5, evt0 0 5] [(Reg.EVT_INDEX.next, 2)]), (host), (ask 11 7 0 (toBE 4 0)), (askq 11 7 0 (toBE 4 0)), (0), by decide +kernel⟩,
   ⟨(up []), (host), (ask 11 7 0 (toBE 3 0)), (askq 11 7 0 (toBE 3 0)), by decide +kernel⟩,
   ⟨({ told [sub0 1] [evt0 2 5, evt0 1 5, evt0 0 5] [] with now := 1000000000000 }), (sub0 1), ([evt0 1 5, evt0 2 5]), by decide +kernel⟩,
   ⟨({ told [sub0 1, ⟨{ host with udp := 2 }, 0, 0, 0⟩] [evt0 2 5, evt0 1 5, evt0 0 5] [] with now := 1000000000000 }), (⟨{ host with udp := 2 }, 0, 0, 0⟩), ([evt0 0 5, evt0 1 5, evt0 2 5]), by decide +kernel⟩,
   ⟨(told [sub0 1] [evt0 2 5] []), by decide +kernel⟩,
   ⟨({ told [⟨{ host with udp := 2 }, 0, 5, 0⟩, sub0 0] [evt0 0 5] [(Reg.EVT_INDEX.next, 1)] with now := 1000000000 }), (sub0 0), (1), by decide +kernel⟩,
   ⟨(told [sub0 0] [evt0 0 5] [(Reg.EVT_INDEX.next, 1)]), by decide +kernel⟩,
   ⟨(let s := up [(Reg.GLOBAL_JOB.state, 5)]; { s with hkc := { s.hkc with late := [(0x0A02, [w 3, w 5])] } }), by decide +kernel⟩,
   ⟨(State.reset), by decide +kernel⟩,
   ⟨(up []), (0x50), (0x220004), ((up []).readReg 0x220004), by decide +kernel⟩,
   ⟨(up []), (0x51), (1), (0), by decide +kernel⟩⟩

/-- Clauses 1, 2, 3, 4, 5, 6, 7, 8, 9, 10, 11, 12, 13, 14, 15, 16, 17, 18, 19. -/
theorem wit_PortsAnswerAndDiscard :
    (∃ (s : State) (p mac ip target : Nat),
      (s.portUp p = true) ∧
      (s.ownsV4 p target = true)) ∧
    (∃ (s : State) (p mac ip target : Nat),
      (s.portUp p = true) ∧
      (s.ownsV4 p target = false)) ∧
    (∃ (s : State) (p mac src target : Nat),
      (s.portUp p = true) ∧
      (s.ownsV6 p target = true)) ∧
    (∃ (s : State) (p mac src target : Nat),
      (s.portUp p = true) ∧
      (s.ownsV6 p target = false)) ∧
    (∃ (s : State) (src : Src) (dst : Nat) (b m : Bytes),
      (s.portUp src.iface = true) ∧
      ((if src.v6 then s.ownsV6 src.iface dst else s.ownsV4 src.iface dst) = true) ∧
      (s.frameFits src.iface (b.length + (if src.v6 then 58 else 38)) = true) ∧
      (m = toBE 1 (if src.v6 then 129 else 0) ++ toBE 1 0 ++ b.drop 2)) ∧
    (∃ (s : State) (src : Src) (dst : Nat) (b : Bytes),
      (s.portUp src.iface = true) ∧
      ((if src.v6 then s.ownsV6 src.iface dst else s.ownsV4 src.iface dst) = false ∨ s.frameFits src.iface (b.length + (if src.v6 then 58 else 38)) = false)) ∧
    (∃ (s : State) (p g own : Nat) (v6 : Bool),
      (s.portUp p = true) ∧
      (own = (if v6 then s.net.group6 else s.net.group4).getD p 0) ∧
      (own ≠ 0) ∧
      (g = 0 ∨ g = own)) ∧
    (∃ (s : State) (p g own : Nat) (v6 : Bool),
      (s.portUp p = true) ∧
      (own = (if v6 then s.net.group6 else s.net.group4).getD p 0) ∧
      (own = 0 ∨ (g ≠ 0 ∧ g ≠ own))) ∧
    (∃ (s : State) (p g : Nat),
      (g < 2 ^ 32) ∧
      (p < s.net.group4.length)) ∧
    (∃ (s : State) (p g : Nat) (cs : List (Nat × Nat)),
      (g < 2 ^ 128) ∧
      (p < s.net.group6.length) ∧
      (cs = groupChange (s.net.group6.getD p 0) g)) ∧
    (∃ (s : State) (c : Instr) (p x y z : Nat) (v6 : Bool),
      (c ∈ [.arpRequest p x y z, .neighbourSolicitation p x y z, .multicastQuery p v6 x, .otherFrame p, .badFcsFrame p]) ∧
      (s.portUp p = false)) ∧
    (∃ (s : State) (src : Src) (dst : Nat) (b : Bytes),
      (s.portUp src.iface = false)) ∧
    (∃ (s : State) (p : Nat),
      (s.portUp p = true)) ∧
    (∃ (s : State) (p : Nat),
      (s.portUp p = true)) ∧
    (∃ (s : State) (target loc : Nat),
      (target < 16) ∧
      (loc < 2 ^ 32) ∧
      ((s.wrs [(Reg.TEST_INJECT_LOC.loc, loc), (Reg.TEST_INJECT.target, target)]).inject? target loc = none)) ∧
    (∃ (s : State) (loc : Nat),
      (loc < 2 ^ 30) ∧
      (s.mayInject = true) ∧
      (loc < s.lineCount) ∧
      (s.dram.injected.contains loc = false)) ∧
    (∃ (s : State) (g : Nat),
      (s.mayInject = true) ∧
      (g < beamsOf s.variant / 64) ∧
      (s.cal.badGroups.contains g = false)) ∧
    (∃ (s : State) (target loc key : Nat) (g : WinSeg),
      (target = 1 ∨ target = 2) ∧
      (loc < 2 ^ 29) ∧
      (s.mayInject = true) ∧
      (bitsOf loc 24 5 < segsOf s.variant) ∧
      ((s.holdsLine (loc % 2 ^ 24) (target - 1) (bitsOf loc 24 5)).isSome = true) ∧
      (key = winKey (slotOf (loc % 2 ^ 24)) (target - 1) (bitsOf loc 24 5)) ∧
      (s.win.injected.contains key = false) ∧
      (tabFind s.win.segs key = some g)) ∧
    (∃ (s : State) (target loc : Nat),
      (target < 16) ∧
      (loc < 2 ^ 32)) :=
  ⟨⟨(up [(Reg.PORT_IPV4.addr 0, 9)]), (0), (7), (8), (9), by decide +kernel⟩,
   ⟨(up []), (0), (7), (8), (9), by decide +kernel⟩,
   ⟨(up []), (0), (7), (8), ((up []).linkLocal 0), by decide +kernel⟩,
   ⟨(up []), (0), (7), (8), (9), by decide +kernel⟩,
   ⟨(up [(Reg.PORT_IPV4.addr 0, 9)]), (host), (9), (zeros 12), (toBE 1 0 ++ toBE 1 0 ++ zeros 10), by decide +kernel⟩,
   ⟨(up []), ({ host with v6 := true }), (9), (zeros 12), by decide +kernel⟩,
   ⟨({ up [] with net := { State.reset.net with group6 := [5, 0, 0] } }), (0), (0), (5), (true), by decide +kernel⟩,
   ⟨(up []), (0), (0), (0), (true), by decide +kernel⟩,
   ⟨({ up [] with net := { State.reset.net with group4 := [5, 0, 0] } }), (0), (0xEF000001), by decide +kernel⟩,
   ⟨(up []), (0), (0xFF020000000000000000000000000005), ([(recJoin, 0xFF020000000000000000000000000005)]), by decide +kernel⟩,
   ⟨(State.reset), (.arpRequest 0 1 2 3), (0), (1), (2), (3), (true), by decide +kernel⟩,
   ⟨(State.reset), (host), (9), (zeros 12), by decide +kernel⟩,
   ⟨(up []), (1), by decide +kernel⟩,
   ⟨(up []), (1), by decide +kernel⟩,
   ⟨(up [(Reg.GLOBAL_JOB.state, 3)]), (3), (5), by decide +kernel⟩,
   ⟨(up []), (5), by decide +kernel⟩,
   ⟨(up []), (5), by decide +kernel⟩,
   ⟨({ up [(Reg.GLOBAL_JOB.state, 1)] with render := { RenderState.init with stripe := some (going 0 0 0 0).d.seq }, sieve := { State.reset.sieve with stripes := [going 0 0 0 0] }, win := { (up []).win with segs := [(0, injSeg)] } }), (1), (0), (0), (injSeg), by decide +kernel⟩,
   ⟨(up []), (3), (5), by decide +kernel⟩⟩

theorem wit_StepRunsTheFrontCommand_1 : ∃ (c : Instr) (rest : List Instr) (s : State), s.pending = c :: rest :=
  ⟨.evtAckAll true, [], { State.reset with pending := [.evtAckAll true] }, rfl⟩

theorem wit_StepRunsTheFrontCommand_2 : ∃ s : State, s.pending = [] := ⟨State.reset, rfl⟩

theorem wit_EventsAreEnteredOnceAndSent_1 : ∃ s : State, s.overwritten = none := ⟨State.reset, rfl⟩

theorem full_ring (e : EvtEntry) (s : State) (hr : s.evt.ring = List.replicate 4096 e) (hp : evtPending s.evt e = true) :
    s.overwritten = some e := by
  have hl : (List.replicate 4096 e).getLast? = some e := by
    rw [List.getLast?_replicate]; rfl
  unfold State.overwritten
  rw [hr, List.length_replicate, hl]
  simp [hp]

theorem wit_EventsAreEnteredOnceAndSent_2 : ∃ (s : State) (old : EvtEntry), s.overwritten = some old :=
  ⟨told [sub0 0] (List.replicate 4096 (evt0 0 5)) [], evt0 0 5, full_ring _ _ rfl (by decide)⟩

theorem reset_inv : Inv State.reset := by constructor <;> decide

theorem wit_EveryStepKeepsTheInvariant : ∃ s t : State, Inv s ∧ step s = .next t := ⟨State.reset, State.reset.cycle, reset_inv, rfl⟩

end Sys2Proof.Tests
end

section
/-! Shots and passes (R10, R16, R17, R20). -/

namespace Sys2Proof.Machine

/-- R20 undoes R17 on the rows: a row fires the pass that its shot is, in the pixel column of the shot. -/
theorem passRow_passOf (dir c : Nat) {r : Nat} (hr : r < 512) : passRow dir (pixelX r c) (passOf dir r) = r := by
  unfold passRow passOf pixelX
  split <;> omega

/-- R20 undoes R17 on the ticks: a shot inside the stripe is fired at the tick of its pass. -/
theorem passTick_of_nominalY {dir len s r y : Nat} (c : Nat) (hr : r < 512) (hy : y < len) (h : nominalY dir len s r = (y : Int)) :
    passTick dir len (pixelX r c) y (passOf dir r) = s := by
  unfold nominalY frontOf at h
  unfold passTick passOf pixelX
  split at h <;> simp only [*, if_true, if_false] <;> omega

/-- R17 undoes R20: the row of a pass of a pixel exposes the pixel's line at the tick of the pass. -/
theorem nominalY_passTick (dir x : Nat) {len y k : Nat} (hy : y < len) (hk : k < 32) :
    nominalY dir len (passTick dir len x y k) (passRow dir x k) = (y : Int) := by
  unfold nominalY frontOf passTick passRow
  split <;> omega

theorem passOf_passRow (dir x : Nat) {k : Nat} (hk : k < 32) : passOf dir (passRow dir x k) = k := by
  unfold passOf passRow
  split <;> omega

/-- R10: the beams of a column of the array expose 16 neighbouring pixel columns. -/
theorem pixelX_div (r c : Nat) : pixelX r c / 16 = c := by
  unfold pixelX
  omega

/-- R10: the rows of a pixel's passes expose its own column. -/
theorem pixelX_passRow (dir x k : Nat) : pixelX (passRow dir x k) (x / 16) = x := by
  unfold pixelX passRow
  split <;> omega

theorem passTick_lt_stripeTicks (dir x : Nat) {len y k : Nat} (hy : y < len) (hk : k < 32) :
    passTick dir len x y k < stripeTicks len := by
  unfold passTick stripeTicks
  split <;> omega

/-- Settles O12: R17 is read off the definitions, and R20 inverts it by row and by tick in both directions. -/
theorem everyShotIsOnePassOfItsPixel : Obligations.EveryShotIsOnePassOfItsPixel := by
  refine ⟨fun _ => rfl, fun _ _ _ _ => ⟨rfl, rfl, rfl, rfl⟩, ?_, ?_⟩
  · intro dir len s r c y _ hr hy h
    exact ⟨passTick_of_nominalY c hr hy h, passRow_passOf dir c hr, pixelX_div r c⟩
  · intro dir len x y k _ hy hk
    exact ⟨nominalY_passTick dir x hy hk, passOf_passRow dir x hk, pixelX_passRow dir x k, passTick_lt_stripeTicks dir x hy hk⟩

end Sys2Proof.Machine
end

section
/-! What completing pixels and final tick log entries can touch (R170 to R173, R267, R322, R323). -/

namespace Sys2Proof

open Sys2Proof.Machine

/-- A frame may list more. -/
theorem Frame.widen {l m : List Part} {s t : State} (h : Frame m s t) (hs : ∀ p ∈ m, p ∈ l := by decide) : Frame l s t := h.mono hs

/-- A frame goes on over a change that touches no more. -/
theorem Frame.andThen {l m : List Part} {s t u : State} (h : Frame l s t) (h' : Frame m t u)
    (hs : ∀ p ∈ m, p ∈ l := by decide) : Frame l s u :=
  h.trans (h'.mono hs)

namespace Machine

variable (s : State)

theorem State.set_shot_check_frame (x : ShotState) (c : CheckState) : Frame [.shot, .check] s { s with shot := x, check := c } :=
  (Frame.widen (State.set_shot_frame s x)).andThen (State.set_check_frame { s with shot := x } c)

/-! ### Chunks of the record streams -/

theorem State.pumpRec_frame (i fuel : Nat) : Frame [.regs, .out, .check] s (s.pumpRec i fuel) := by
  induction fuel generalizing s with
  | zero => exact Frame.refl _ _
  | succ fuel ih =>
    unfold State.pumpRec
    dsimp only
    split
    · refine Frame.ite (Frame.trans ?_ (ih _)) (Frame.refl _ _)
      exact (Frame.widen (State.sendUdp_frame s _ _ _)).andThen (State.setRecStream_frame _ _ _)
    · exact Frame.refl _ _

/-- R322: a chunk goes to the spool of its stream, and out as far as the window admits. -/
theorem State.spool_frame (i : Nat) (raw fixed dyn : Bool) (band : Nat) (b payload : Bytes) (seg at_ : Nat) (keys : List Nat) :
    Frame [.regs, .out, .check] s (s.spool i raw fixed dyn band b payload seg at_ keys) :=
  (Frame.widen (State.setRecStream_frame s _ _)).andThen (State.pumpRec_frame _ _ _)

theorem State.flushReports_frame (seq : Nat) : Frame [.regs, .out, .check] s (s.flushReports seq) := by
  unfold State.flushReports
  exact Frame.ite (Frame.refl _ _) ((State.spool_frame s _ _ _ _ _ _ _ _ _ _).andThen (State.set_check_frame _ _))

theorem State.flushTlog_frame (seq : Nat) : Frame [.regs, .out, .check] s (s.flushTlog seq) := by
  unfold State.flushTlog
  exact Frame.ite (Frame.refl _ _) ((State.spool_frame s _ _ _ _ _ _ _ _ _ _).andThen (State.set_check_frame _ _))

/-! ### Completion (R170 to R173) -/

theorem State.report_frame (seq : Nat) (b : Bytes) : Frame [.regs, .out, .shot, .check] s (s.report seq b) := by
  unfold State.report
  extract_lets counted _ _ issued
  have hi : Frame [.regs, .out, .shot, .check] s issued :=
    (Frame.widen (State.inc_frame s _)).andThen (State.set_shot_check_frame counted _ _)
  exact Frame.ite (hi.andThen (State.flushReports_frame _ _)) hi

theorem State.earlyReport_frame (x : Stripe) (px y : Nat) (lam : Int) (reasons : Nat) :
    Frame [.regs, .out, .evt, .sieve, .shot, .check] s (s.earlyReport x px y lam reasons) :=
  ((Frame.widen (State.set_shot_frame s _)).andThen (State.report_frame _ _ _)).andThen (State.raiseFor_frame _ _ _ _)

/-- The parts of the state that the completion of a pixel may change: a failing loss table entry is judged, a full table is told, and
the report goes to the spool. -/
def completionParts : List Part := [.regs, .out, .evt, .sieve, .win, .shot, .check, .dram, .power]

theorem State.addLoss_frame (x : Stripe) (px y : Nat) (lam : Int) (reasons : Nat) :
    Frame completionParts s (s.addLoss x px y lam reasons) := by
  unfold State.addLoss
  refine Frame.ite (Frame.refl _ _) ?_
  split
  · refine Frame.andThen (Frame.ite ?_ (Frame.refl _ _)) (State.set_shot_frame _ _)
    exact Frame.widen (State.failAt_frame s _)
  · refine Frame.ite ?_ (Frame.widen (State.earlyReport_frame s _ _ _ _ _))
    exact (Frame.widen (State.set_shot_frame s _)).andThen (State.wr_frame _ _ _)

theorem State.completePixel_frame (x : Stripe) (bad : List BadRead) (px y : Nat) :
    Frame completionParts s (s.completePixel x bad px y) := by
  unfold State.completePixel
  extract_lets key _ valued c counted why failed lossy ent early _ erased
  have hv : Frame completionParts s valued := Frame.ite (Frame.refl _ _) (Frame.widen (State.set_shot_frame s _))
  have hf : Frame completionParts s failed :=
    (hv.andThen (State.incBy_frame _ _ _)).trans
      (Frame.ite (Frame.widen (State.failAt_frame counted _)) (Frame.refl _ _))
  have hl : Frame completionParts s lossy :=
    hf.trans (Frame.ite (Frame.widen (State.addReasons_frame failed _ _ _)) (State.addLoss_frame _ _ _ _ _ _))
  have he : Frame completionParts s erased := hl.andThen (State.set_shot_frame _ _)
  exact Frame.ite he (Frame.ite (he.andThen (State.report_frame _ _ _)) he)

theorem State.completePixels_frame (x : Stripe) (bad : List BadRead) (ps : List (Nat × Nat)) :
    Frame completionParts s (ps.foldl (fun s p => s.completePixel x bad p.1 p.2) s) := by
  refine Frame.foldl _ ?_ ps s
  intro t p
  exact State.completePixel_frame t x bad p.1 p.2

/-! ### Final entries (R267) -/

theorem State.spoolTlog_frame (mode : Nat) (e : TickEntry) : Frame [.regs, .out, .check] s (s.spoolTlog mode e) := by
  -- Opened under a name of its own, the body is not evaluated by the kernel, which would count out the ring's capacity.
  obtain ⟨spoolTlog, hdef⟩ : ∃ f, f = @State.spoolTlog := ⟨_, rfl⟩
  rw [← hdef]
  delta State.spoolTlog at hdef
  subst hdef
  dsimp -zeta -iota -proj only
  split
  extract_lets _ _ noted _ gathered
  have hn : Frame [.regs, .out, .check] s noted := Frame.widen (State.set_check_frame s _)
  have hg : Frame [.regs, .out, .check] s gathered := hn.andThen (State.set_check_frame _ _)
  exact Frame.ite (Frame.ite (hg.trans (State.flushTlog_frame _ _)) hg) hn

theorem State.closeReports_frame (seq : Nat) : Frame [.regs, .out, .evt, .sieve, .check] s (s.closeReports seq) := by
  unfold State.closeReports
  split
  · exact Frame.refl _ _
  · refine Frame.ite (Frame.andThen (Frame.ite (Frame.refl _ _) ?_) (State.flushReports_frame _ _)) (Frame.refl _ _)
    exact Frame.widen (State.raiseFor_frame s _ _ _)

theorem State.finalise_frame (e : TickEntry) : Frame [.regs, .out, .evt, .sieve, .shot, .check, .pair] s (s.finalise e) := by
  unfold State.finalise
  extract_lets fin logged
  have hl : Frame [.regs, .out, .evt, .sieve, .shot, .check, .pair] s logged :=
    (Frame.widen (State.updTick_frame s _ _)).andThen (State.mirror_frame _ _ _)
  split
  · exact hl.andThen (State.spoolTlog_frame _ _ _)
  · exact (hl.andThen (State.spoolTlog_frame _ _ _)).andThen (State.closeReports_frame _ _)

end Machine

end Sys2Proof
end

section
/-! What is told of P segments that fail while pixels complete (R122, R166, R170). -/

namespace Sys2Proof.Machine

variable (s : State)

theorem State.lastingAction_toldP (l : Location) : (s.lastingAction l).win.toldP = s.win.toldP := by
  unfold State.lastingAction
  split
  · exact congrArg Window.toldP (State.queueRepair_frame s l.loc .win (by decide))
  · split <;> rfl

/-- R308: a failure that is noted or judged takes back nothing that has been told of P segments. -/
theorem State.failAt_toldP (l : Location) : (s.failAt l).win.toldP = s.win.toldP := by
  have hist : ∀ (t : State) h, (t.setHist h).win = t.win := fun t h => State.setHist_frame t h .win (by decide)
  have judged : (s.judge l).win.toldP = s.win.toldP := by
    unfold State.judge
    simp [State.lastingAction_toldP, hist]
  unfold State.failAt
  extract_lets now entered
  split
  · rw [hist]
  · split
    · split
      · exact judged
      · rw [hist]
    · rw [hist]

theorem State.requestRerender_frame (y seg : Nat) : Frame [.regs, .render] s (s.requestRerender y seg) := by
  refine Frame.ite (Frame.refl _ _) (Frame.ite ?_ ?_)
  · exact Frame.widen (State.inc_frame s _)
  · exact Frame.widen (State.set_render_frame s _)

/-- R122: a P segment that fails its check is told once. -/
theorem State.pFailed_toldP (x : Stripe) (y seg : Nat) :
    (s.pFailed x y seg).win.toldP =
      if s.win.toldP.contains (x.d.seq, y, seg) then s.win.toldP else (x.d.seq, y, seg) :: s.win.toldP := by
  unfold State.pFailed
  extract_lets counted judged _ told
  have hj : judged.win.toldP = s.win.toldP := by
    simp only [judged]
    split
    · simp [counted]
    · simp [counted, State.failAt_toldP]
  rw [State.requestRerender_frame told y seg .win (by decide)]
  simp only [told, hj]
  split <;> simp [*]

theorem State.pLate_win (x : Stripe) (y seg : Nat) (again : Bool) : (s.pLate x y seg again).win = s.win := by
  have rerender : ∀ t : State, (t.requestRerender y seg).win = t.win :=
    fun t => State.requestRerender_frame t y seg .win (by decide)
  unfold State.pLate
  extract_lets _ told
  have ht : told.win = s.win := by
    simp only [told]
    split <;> simp
  split <;> simp [rerender, ht]

/-- Answering a failed P segment takes back nothing that has been told. -/
theorem State.toldP_subset_applyCause (x : Stripe) (e : TickEntry) (y seg : Nat) :
    s.win.toldP ⊆ (s.applyCause x e (.pSeg y seg)).win.toldP := by
  unfold State.applyCause
  dsimp only
  split
  · rw [State.pLate_win]; exact List.Subset.refl _
  · split
    · rw [State.pFailed_toldP]; split <;> simp
    · rw [State.pLate_win]; exact List.Subset.refl _

/-- R122, R170: of the P segments that fail, the first to be answered is told when its line is rendered. -/
theorem State.mem_toldP_answerReads {x : Stripe} {e : TickEntry} {cs : List Cause} {y seg : Nat} {rest : List (Nat × Nat)}
    (hs : s.render.stripe = some x.d.seq) (hm : s.render.missing.contains (y, seg) = false) (hl : s.lineRendered x y = true)
    (hcs : cs.eraseDups = .pSeg y seg :: rest.map (fun g => .pSeg g.1 g.2)) :
    (x.d.seq, y, seg) ∈ (s.answerReads x e cs).win.toldP := by
  have first : (x.d.seq, y, seg) ∈ (s.applyCause x e (.pSeg y seg)).win.toldP := by
    simp only [State.applyCause, hm, hl, Bool.false_eq_true, if_false, if_true, State.pFailed_toldP]
    split <;> simp_all
  have others : ∀ (l : List (Nat × Nat)) (t : State),
      t.win.toldP ⊆ ((l.map (fun g => Cause.pSeg g.1 g.2)).foldl (fun t c => t.applyCause x e c) t).win.toldP := by
    intro l
    induction l with
    | nil => exact fun t => List.Subset.refl _
    | cons g l ih => exact fun t => List.Subset.trans (t.toldP_subset_applyCause x e g.1 g.2) (ih _)
  unfold State.answerReads
  rw [if_neg (by simp [hs]), hcs]
  exact others rest _ first

/-- R122, R170: pixels complete on a lane, and the first failed segment that they read is told. -/
theorem State.mem_toldP_completeLane {x : Stripe} {e : TickEntry} {bad : List BadRead} {lane y seg : Nat} {rest : List (Nat × Nat)}
    (hs : s.render.stripe = some x.d.seq) (hm : s.render.missing.contains (y, seg) = false) (hl : s.lineRendered x y = true)
    (hcs : ((completing s.variant x e.s lane).flatMap (fun p => s.completionCauses x bad p.1 p.2)).eraseDups =
      .pSeg y seg :: rest.map (fun g => .pSeg g.1 g.2)) :
    (x.d.seq, y, seg) ∈ (s.completeLane x e bad lane).win.toldP := by
  have kept := fun ps => State.completePixels_frame s x bad ps .render (by decide)
  unfold State.completeLane
  refine State.mem_toldP_answerReads _ ?_ ?_ ?_ hcs
  · rw [kept]; exact hs
  · rw [kept]; exact hm
  · rw [State.lineRendered, kept]; exact hl

/-- R166, R267: of what the resolution of a tick on a lane does, only the completion of the lane's pixels reaches the dose window. -/
theorem State.resolve_win {n lane : Nat} {bad : List BadRead} {e : TickEntry} {x : Stripe}
    (he : s.shot.tlog.find? (fun e => e.n = n) = some e) (hr : e.resolved.testBit lane = false)
    (hx : s.stripe e.seq = some x) (hc : e.cal = false) :
    (s.resolve n lane bad).win =
      ((s.updTick n (fun e => { e with resolved := withBit e.resolved lane })).completeLane x e bad lane).win := by
  have hx' : (s.updTick n (fun e => { e with resolved := withBit e.resolved lane })).stripe e.seq = some x := hx
  unfold State.resolve
  simp only [he, hr, hx', hc, Bool.false_eq_true, if_false]
  split
  · rfl
  · split
    · exact State.finalise_frame _ _ .win (by decide)
    · rfl

end Sys2Proof.Machine
end

section
/-! The computation of a tick whose every block is blanked (R36, R165), and one that reads the dose window all the same. -/

namespace Sys2Proof.Machine

/-- Changing an entry into itself changes nothing. -/
theorem State.updTick_self {s : State} {n : Nat} {f : TickEntry → TickEntry} (h : ∀ e ∈ s.shot.tlog, e.n = n → f e = e) :
    s.updTick n f = s := by
  have same : updWhere (fun e => decide (e.n = n)) f s.shot.tlog = s.shot.tlog := by
    refine (List.map_congr_left fun e he => ?_).trans (List.map_id _)
    by_cases hn : e.n = n <;> simp [hn, h e he]
  unfold State.updTick
  rw [same]

/-- R36: TICK_COMPUTE computes the next tick that is fixed, from T − 3τ on. -/
theorem exec_tickCompute {s : State} {x : Stripe} {e : TickEntry} {bad : List BadRead} (hc : s.current = some x)
    (ht : x.truncated = false) (hf : x.computed < x.fixed) (hd : tickTime x x.computed ≤ s.ns + 3 * x.d.tau)
    (he : s.tickAt x.d.seq x.computed = some e) : exec (.tickCompute bad) s = .next (s.computeTick x e bad) := by
  have due : ¬ (x.truncated ∨ x.fixed ≤ x.computed ∨ s.ns + 3 * x.d.tau < tickTime x x.computed) := by
    simp [ht]; omega
  change execTickCompute bad s = _
  simp only [execTickCompute, hc, if_neg due, he]

/-- R36, R165: the computation of a tick that is blanked whole reads nothing for its blocks: each is entered as blanked, and the tick is
resolved where it is not sent. -/
theorem State.computeTick_blanked {s : State} {x : Stripe} {e : TickEntry} (hj : s.judgeLead x.d.seq e.s = s)
    (hb : ∀ b < blocksOf s.variant, e.dk1.testBit b = true) :
    s.computeTick x e [] =
      ((((((List.range (blocksOf s.variant)).foldl (fun s b => s.blankBlock x e b) s).updTick e.n
        (fun e => { e with computed := true })).updStripe x.d.seq (fun x => { x with computed := x.computed + 1 })).spoil e []).dropStale
          { x with computed := e.s + 1 }).resolveComputed x [] e.n := by
  have hout : ∀ b < blocksOf s.variant,
      (if s.follows then e.dk1 else e.dk1 ||| s.outBlocks x.dry x.d.tau).testBit b = true := by
    intro b hlt
    split <;> simp [hb b hlt]
  have results : ∀ out : Nat, (∀ b < blocksOf s.variant, out.testBit b = true) →
      (List.range (blocksOf s.variant)).map (fun b => (b, s.blockRes x e [] (out.testBit b) b)) =
        (List.range (blocksOf s.variant)).map (fun b => (b, BlockRes.blank [])) := by
    intro out h
    refine List.map_congr_left fun b hm => ?_
    simp [State.blockRes, h b (List.mem_range.1 hm)]
  have uncaused : (List.range (blocksOf s.variant)).flatMap (fun _ => ([] : List Cause)) = [] :=
    List.flatMap_eq_nil_iff.2 fun _ _ => rfl
  unfold State.computeTick
  simp only [List.foldl_nil, hj, results _ hout, List.foldl_map, List.flatMap_map, BlockRes.causes, uncaused, List.eraseDups_nil,
    State.applyBlock]

/-! ### The last tick of a stripe of one line -/

/-- A stripe of one line in dry-run, without live pass in any column; its last tick is fixed and not computed. -/
def lastTickStripe : Stripe :=
  { newStripe ⟨0, 0, 0, 0, 0, 0, 0, 800, 64, false, false, false⟩ .exposing 0 4096 with
    latch := some ⟨2, 200, true, 1, 0, 0, 0, [], []⟩, fixed := 8177, computed := 8176, launched := 8176 }

/-- The entry of that tick: every block is blanked, and every lane but the last has resolved it. -/
def lastTickEntry : TickEntry := { newTick 8176 0 8176 6540800 800 with dk1 := 2 ^ 512 - 1, resolved := 2 ^ 31 - 1 }

/-- A DK1-131 at the instant of that tick. Line 0 is rendered, and no segment of it passes its check. -/
def lastTickState : State :=
  { State.reset.wr Reg.GLOBAL_VARIANT.variant 1 with
    clk := 6540800 * 2 ^ 32
    sieve := ⟨[lastTickStripe], [], [], []⟩
    shot := { State.reset.shot with tlog := [lastTickEntry] }
    render := { RenderState.init with stripe := some 0, lines := 1 } }

/-- The stripe with the tick computed. -/
def lastTickStripeComputed : Stripe := { lastTickStripe with computed := 8177 }

/-- The entry with the tick computed. -/
def lastTickEntryComputed : TickEntry := { lastTickEntry with computed := true }

/-- The state with the tick computed, before the last lane resolves it. -/
def lastTickComputed : State :=
  { lastTickState with
    sieve := ⟨[lastTickStripeComputed], [], [], []⟩
    shot := { State.reset.shot with tlog := [lastTickEntryComputed] } }

theorem lastTickEntry_blanked : ∀ b < blocksOf lastTickState.variant, lastTickEntry.dk1.testBit b = true := by
  decide +kernel

/-- The blocks are blanked already and hold no live pass: blanking them again changes nothing. -/
theorem blankBlock_lastTick : ∀ b ∈ List.range (blocksOf lastTickState.variant),
    lastTickState.blankBlock lastTickStripe lastTickEntry b = lastTickState := by
  have marked : ∀ b ∈ List.range (blocksOf lastTickState.variant), withBit lastTickEntry.dk1 b = lastTickEntry.dk1 := by decide +kernel
  have dead : ∀ b ∈ List.range (blocksOf lastTickState.variant),
      (livePixels lastTickState.variant lastTickStripe lastTickEntry.s b).length = 0 := by decide +kernel
  have counted : lastTickState.incBy Reg.SHOT_MISSED.missed 0 = lastTickState := by decide +kernel
  intro b hb
  unfold State.blankBlock
  rw [State.updTick_self, State.countMissed, dead b hb, counted]
  intro e he _
  obtain rfl : e = lastTickEntry := List.mem_singleton.1 he
  rw [marked b hb]

theorem resolve_lastTickComputed : ∀ t ∈ List.range 31, lastTickComputed.resolve lastTickEntry.n t [] = lastTickComputed := by
  decide +kernel

/-- The computation of the tick ends with its resolution on the last lane. -/
theorem computeTick_lastTick :
    lastTickState.computeTick lastTickStripe lastTickEntry [] = lastTickComputed.resolve lastTickEntry.n 31 [] := by
  have blocks : (List.range (blocksOf lastTickState.variant)).foldl (fun s b => s.blankBlock lastTickStripe lastTickEntry b)
      lastTickState = lastTickState :=
    List.foldlRecOn (motive := (· = lastTickState)) _ _ rfl (fun s hs b hb => by rw [hs, blankBlock_lastTick b hb])
  have computed : (((lastTickState.updTick lastTickEntry.n (fun e => { e with computed := true })).updStripe lastTickStripe.d.seq
      (fun x => { x with computed := x.computed + 1 })).spoil lastTickEntry []).dropStale
        { lastTickStripe with computed := lastTickEntry.s + 1 } = lastTickComputed := by decide +kernel
  have follows : lastTickComputed.follows = false := by decide +kernel
  have unsent : lastTickComputed.lanesWhere (fun t => lastTickStripe.dry || !lastTickComputed.laneServes t lastTickStripe.d.tau) =
      List.range 31 ++ [31] := by decide +kernel
  have lanes : (List.range 31).foldl (fun s t => s.resolve lastTickEntry.n t []) lastTickComputed = lastTickComputed :=
    List.foldlRecOn (motive := (· = lastTickComputed)) _ _ rfl (fun s hs t ht => by rw [hs, resolve_lastTickComputed t ht])
  rw [State.computeTick_blanked (by decide +kernel) lastTickEntry_blanked, blocks, computed, State.resolveComputed, follows, unsent,
    if_neg (by decide), List.foldl_append, lanes, List.foldl_cons, List.foldl_nil]

/-- The pixels that the last lane carries complete, and the first segment of line 0 that they read is told. -/
theorem told_lastTick : (0, 0, 0) ∈ (lastTickComputed.resolve lastTickEntry.n 31 []).win.toldP := by
  rw [State.resolve_win lastTickComputed (e := lastTickEntryComputed) (x := lastTickStripeComputed) (by decide +kernel)
    (by decide +kernel) (by decide +kernel) (by decide +kernel)]
  exact State.mem_toldP_completeLane _ (x := lastTickStripeComputed) (rest := (List.range 15).map (fun i => (0, i + 1)))
    (by decide +kernel) (by decide +kernel) (by decide +kernel) (by decide +kernel)

/-- Refutes O17 in its last clause: as the computation of a wholly blanked tick resolves it, the pixels whose pass 31 it carries
complete (R170); a pixel that needs its target reads P, and a segment that fails its check is told with the dose window (R122). -/
theorem not_ticksAreFixedAndComputed : ¬ Obligations.TicksAreFixedAndComputed := by
  intro h
  have hcurrent : lastTickState.current = some lastTickStripe := by decide +kernel
  have hdue : tickTime lastTickStripe lastTickStripe.computed ≤ lastTickState.ns + 3 * lastTickStripe.d.tau := by decide +kernel
  have hentry : lastTickState.tickAt lastTickStripe.d.seq lastTickStripe.computed = some lastTickEntry := by decide +kernel
  obtain ⟨_, hcompute⟩ := h lastTickState lastTickStripe hcurrent (by decide +kernel) rfl
  obtain ⟨t, ht, _, _, _, _, _, _, hwin, _⟩ := hcompute lastTickEntry [] (by decide) hdue hentry
  obtain rfl := Host.Outcome.next.inj ((exec_tickCompute hcurrent rfl (by decide) hdue hentry).symm.trans ht)
  have told := told_lastTick
  rw [← computeTick_lastTick, hwin lastTickEntry_blanked] at told
  exact absurd told (by decide +kernel)

end Sys2Proof.Machine
end

section
/-! A first_tick accepted while a lane test waits to go on (R227, R237, R252). -/

namespace Sys2Proof.Machine

/-- A stripe whose last tick has been launched. -/
def overStripe : Stripe := newStripe ⟨0, 0, 0, 0, 0, 0, 0, 800, 64, false, false, false⟩ .done 0 4096

/-- An open entry of it: computed, every block blanked, resolved on every lane but lane 0. -/
def openEntry : TickEntry := { newTick 0 0 0 0 800 with dk1 := 2 ^ 1024 - 1, computed := true, resolved := 2 ^ 64 - 2 }

/-- The takeover names the stripe, TIME_TRIG0 holds 5 ms, one pixel report of the stripe has been issued, and the ACTIVE lane 0 has 10 µs
of a clipped pattern test before it. -/
def openEntryState : State :=
  { State.reset.wrs [(Reg.PAIR_TAKEOVER.ready, 1), (Reg.LANE_STATE.state 0, lnActive), (Reg.TIME_TRIG0_NS.ns, 5000000)] with
    sieve := ⟨[overStripe], [], [], []⟩
    shot := { State.reset.shot with tlog := [openEntry], reportNo := 1 }
    lanes := [(0, { Lane.init with test := some ⟨1, 0, 0, 10, true, []⟩ })] }

/-- The first_tick of stripe 0 is accepted and the test of lane 0 goes on. The lane leaves ACTIVE for it, so the entry is resolved there
and final (R227, R267), and the stripe's reports are announced: 0x0507 is noted with the stripe (R171). -/
theorem firstTickWrite_told : (match exec (.firstTickWrite 0 true) openEntryState with
    | .next u => (u.stripe 0).map Stripe.told
    | _ => none) = some [0x0507] := by
  decide +kernel

/-- Refutes O28 in the clause of the accepted first_tick: in a state with an open entry of the stripe, the lane tests that go on then
change more of the stripe than its first_tick. -/
theorem not_stripesAreTimedArmedAndEnded : ¬ Obligations.StripesAreTimedArmedAndEnded := by
  intro h
  obtain ⟨_, _, haccept, _⟩ := h openEntryState
  obtain ⟨u, hu, hstripe, _⟩ :=
    haccept 0 5000000 overStripe (by decide +kernel) (by decide +kernel) (by decide +kernel) (by decide +kernel)
  have told := firstTickWrite_told
  rw [hu] at told
  change (u.stripe 0).map Stripe.told = _ at told
  rw [hstripe] at told
  exact absurd told (by decide)

end Sys2Proof.Machine
end

section
/-! A re-render request that names no segment of its line (R112, R123). -/

namespace Sys2Proof.Machine

/-- R25, R112: the values that P segment seg of the slot of line y holds, whatever its check. -/
def State.heldP (s : State) (y seg : Nat) : Option (List Int) := (tabFind s.win.segs (winKey (slotOf y) 0 seg)).map WinSeg.data

/-- The P segments of a line in another slot than the one that changes hold what they held. -/
theorem State.heldP_of_windowBut {s t : State} {slot y seg : Nat} (h : WindowBut slot s t) (hseg : seg < 32) (hy : slotOf y ≠ slot) :
    t.heldP y seg = s.heldP y seg := by
  have hkey : winKey (slotOf y) 0 seg / 64 = slotOf y := by
    unfold winKey
    omega
  unfold State.heldP
  rw [h _ (by rwa [hkey])]

/-- An admitted stripe of 100 lines. -/
def hundredLines : Stripe := newStripe ⟨0, 0, 0, 0, 0, 0, 99, 800, 64, false, false, false⟩ .admitted 0 4096

/-- The slices have gone over its lines 0 to 4, P segment 0 of line 4 holds 7 in every pixel, and a re-render waits for a segment 64 of
line 3. A line has at most 32 segments (R112), so there is none of that number; a slot has 64 keys, 32 for each plane. -/
def strayRerenderState : State :=
  { State.reset with
    sieve := ⟨[hundredLines], [], [], []⟩
    render := { RenderState.init with stripe := some 0, lines := 5, rerender := [(3, 64, 5)] } }.winWrite 0 4 0 0 (List.replicate 256 7)

/-- The re-render lands one slot further on: P segment 0 of line 4 is overwritten. -/
theorem rerenderDone_stray : (match exec (.rerenderDone 32 true) strayRerenderState with
    | .next t => t.heldP 4 0
    | _ => none) = some (List.replicate 256 0) := by
  decide +kernel

/-- Refutes O9 in the clause of the re-render that succeeds: the state is any state and the clause bounds no segment by the width of a
line, so that with a segment of 64 or more the window changes outside the slot of the line. -/
theorem not_renderFollowsTheScan : ¬ Obligations.RenderFollowsTheScan := by
  intro h
  obtain ⟨_, _, _, hrerender, _⟩ := h strayRerenderState hundredLines
  obtain ⟨t, ht, _, _, _, hwindow, _⟩ :=
    hrerender 32 3 64 5 (by decide +kernel) (by decide +kernel) (by decide +kernel) (by decide +kernel)
  have overwritten := rerenderDone_stray
  rw [ht] at overwritten
  change t.heldP 4 0 = _ at overwritten
  rw [State.heldP_of_windowBut hwindow (by decide) (by decide)] at overwritten
  exact absurd overwritten (by decide +kernel)

end Sys2Proof.Machine
end

section
/-! Interpolation between the four cells around a pixel (R148). -/

namespace Sys2Proof.Machine

/-- R148: the four weights of a position add up to 128 by 128. -/
theorem interpF_weights {fx fy : Nat} (f : Nat) (hx : fx ≤ 128) (hy : fy ≤ 128) :
    f * (128 - fx) * (128 - fy) + f * fx * (128 - fy) + f * (128 - fx) * fy + f * fx * fy = f * 2 ^ 14 := by
  have factored : f * (128 - fx) * (128 - fy) + f * fx * (128 - fy) + f * (128 - fx) * fy + f * fx * fy =
      f * ((128 - fx) + fx) * ((128 - fy) + fy) := by
    simp only [Nat.mul_add, Nat.add_mul, Nat.add_assoc]
  calc _ = f * ((128 - fx) + fx) * ((128 - fy) + fy) := factored
    _ = f * 128 * 128 := by rw [Nat.sub_add_cancel hx, Nat.sub_add_cancel hy]
    _ = f * 2 ^ 14 := Nat.mul_assoc f 128 128

/-- Settles O11: the weights add up to 2^14, and the half added before the shift is lost in it. -/
theorem interpolationOfAFlatMapIsFlat : Obligations.InterpolationOfAFlatMapIsFlat := by
  intro fx fy f hx hy
  rw [interpF, interpF_weights f hx hy, Nat.shiftRight_eq_div_pow]
  omega

end Sys2Proof.Machine
end

section
/-! Stripes, event rings and tables over simple updates. -/

namespace Sys2Proof

open Sys2Proof.Machine

theorem StripesBut.of_sieve {q : Nat} {s t : State} (h : t.sieve = s.sieve) : StripesBut q s t := by
  intro _ _
  unfold State.stripe
  rw [h]

theorem StripesBut.trans {q : Nat} {s t u : State} (h : StripesBut q s t) (h' : StripesBut q t u) : StripesBut q s u :=
  fun r hr => (h' r hr).trans (h r hr)

/-- What has been told stays told while only other events follow. -/
theorem Tells.raise {code c : Nat} {data d : List EvWord} {s t : State} (h : Tells code data s t) (hc : c ≠ 0x0A09) :
    Tells code data s (t.raise c d) := by
  obtain ⟨new, hring, e, he, hdata⟩ := h
  obtain ⟨later, hlater, _⟩ := Raises.raise t c d hc
  refine ⟨later ++ new, ?_, e, List.mem_append_right _ he, hdata⟩
  rw [hlater, hring, List.append_assoc, take_append_take _ _ (Nat.le_refl _)]

theorem Tells.of_raises {code : Nat} {data : List EvWord} {s t : State} (h : Raises [(code, data)] s t) :
    Tells code data s t := by
  obtain ⟨new, hring, hnew⟩ := h
  have hmem : (code, data) ∈ (new.filter (fun e => decide (e.code ≠ 0x0A09))).reverse.map (fun e => (e.code, e.data)) := by
    rw [hnew]
    exact List.mem_singleton_self _
  obtain ⟨e, he, hdata⟩ := List.mem_map.1 hmem
  rw [Prod.mk.injEq] at hdata
  exact ⟨new, hring, e, (List.mem_filter.1 (List.mem_reverse.1 he)).1, hdata⟩

namespace Machine

theorem State.stripe_congr {s t : State} (h : t.sieve = s.sieve) (q : Nat) : t.stripe q = s.stripe q := by
  unfold State.stripe
  rw [h]

/-- An update that keeps the numbers of stripes finds each under its number. -/
theorem State.stripe_updStripe (s : State) (seq q : Nat) {f : Stripe → Stripe} (hf : ∀ y, (f y).d.seq = y.d.seq) :
    (s.updStripe seq f).stripe q = if q = seq then (s.stripe q).map f else s.stripe q := by
  have keeps : ((fun x => decide (x.d.seq = q)) ∘ fun x => if decide (x.d.seq = seq) = true then f x else x) =
      fun x : Stripe => decide (x.d.seq = q) := by
    funext y
    simp only [Function.comp]
    split <;> simp [hf]
  change (s.sieve.stripes.map _).find? _ = _
  rw [List.find?_map, keeps]
  change Option.map _ (s.stripe q) = _
  cases h : s.stripe q with
  | none => simp
  | some y =>
    have hy : y.d.seq = q := by simpa using List.find?_some h
    by_cases hq : q = seq <;> simp [hy, hq]

theorem State.stripe_updStripe_same {s : State} {seq : Nat} {x : Stripe} {f : Stripe → Stripe}
    (hf : ∀ y, (f y).d.seq = y.d.seq) (h : s.stripe seq = some x) : (s.updStripe seq f).stripe seq = some (f x) := by
  rw [State.stripe_updStripe s seq seq hf, if_pos rfl, h, Option.map_some]

theorem State.updStripe_stripesBut (s : State) (seq : Nat) {f : Stripe → Stripe} (hf : ∀ y, (f y).d.seq = y.d.seq) :
    StripesBut seq s (s.updStripe seq f) := by
  intro q hq
  rw [State.stripe_updStripe s seq q hf, if_neg hq]

/-- A counter that goes up reads up to its limit. -/
theorem State.rd_inc_saturates (s : State) (f : Fld) : (s.inc f).rd f = Nat.min (s.rd f + 1) (2 ^ f.width - 1) := by
  have hpos : 0 < 2 ^ f.width := Nat.two_pow_pos _
  have hle : Nat.min (s.rd f + 1) (2 ^ f.width - 1) ≤ 2 ^ f.width - 1 := Nat.min_le_right _ _
  rw [State.rd_inc_same, Nat.mod_eq_of_lt (by omega)]

/-- Of the keys that a fold writes, each reads as the value written for it. -/
theorem tabGet_foldl_tabSet {ι α : Type} [DecidableEq α] (d : α) (key : ι → Nat) (val : ι → α) {l : List ι} {i : ι} (t : Tab α)
    (hi : i ∈ l ∨ tabGet d t (key i) = val i) (hkey : ∀ j ∈ l, key j = key i → val j = val i) :
    tabGet d (l.foldl (fun t j => tabSet d t (key j) (val j)) t) (key i) = val i := by
  induction l generalizing t with
  | nil => exact hi.resolve_left List.not_mem_nil
  | cons j l ih =>
    refine ih _ ?_ (fun k hk => hkey k (List.mem_cons_of_mem _ hk))
    by_cases hj : key j = key i
    · right
      dsimp only
      rw [hj, tabGet_set_same, hkey j List.mem_cons_self hj]
    · refine hi.imp (fun hmem => ?_) (fun ht => ?_)
      · exact (List.mem_cons.1 hmem).resolve_left (fun e => hj (e ▸ rfl))
      · rw [tabGet_set_ne d t _ (Ne.symm hj), ht]

end Machine

end Sys2Proof
end

section
/-! The PEC engine: maps started, rows completed, cells substituted, parameters committed (R144, R146, R151). -/

namespace Sys2Proof.Machine

/-! ### Maps started -/

/-- R144, R146: the live set is latched for stripe x, and the registers name the stripe. -/
def State.latchMap (s : State) (x : Stripe) : State :=
  (s.updStripe x.d.seq (fun x => { x with fParams := some s.pec.live })).wrs
    [(Reg.PEC_STATUS.seq, x.d.seq), (Reg.PEC_STATUS.first_ready, 0), (Reg.PEC_STATUS.substituted, 0), (Reg.PEC_ROW.rows, 0)]

/-- R146: the engine is busy with the map of stripe seq, at its first row. -/
def State.beginMap (s : State) (seq : Nat) : State :=
  { s with pec := { s.pec with stripe := some seq, rows := 0 } }.wrs
    [(Reg.PEC_STATUS.busy, 1), (Reg.PEC_CLAMP.clamp_hi, 0), (Reg.PEC_CLAMP.clamp_lo, 0)]

/-- The register fields that the engine writes as it begins a map. -/
def beginFlds : List Fld := [Reg.PEC_STATUS.busy, Reg.PEC_CLAMP.clamp_hi, Reg.PEC_CLAMP.clamp_lo]

/-- The register fields that the start of a map writes. -/
def startFlds : List Fld :=
  [Reg.PEC_STATUS.seq, Reg.PEC_STATUS.first_ready, Reg.PEC_STATUS.substituted, Reg.PEC_STATUS.busy, Reg.PEC_ROW.rows,
   Reg.PEC_CLAMP.clamp_hi, Reg.PEC_CLAMP.clamp_lo]

variable {s : State} {x : Stripe} {p : PecParams}

/-- R143, R146: the map of stripe x is started; in mode off its parameters are latched and nothing runs. -/
def State.startMap (s : State) (x : Stripe) : State :=
  if s.pec.live.mode = 0 then s.latchMap x else (s.latchMap x).beginMap x.d.seq

theorem State.latchMap_frame : Frame [.regs, .sieve] s (s.latchMap x) :=
  (Frame.widen (State.updStripe_frame s _ _)).andThen (State.wrs_frame _ _)

theorem State.latchMap_pec : (s.latchMap x).pec = s.pec := State.latchMap_frame .pec (by decide)

/-- R146: the free engine starts the map of the first stripe that waits for one. -/
theorem exec_fMapStart (hfree : s.pec.stripe = none)
    (hnext : s.sieve.stripes.find? (fun y => y.fParams.isNone && (y.st = .admitted || y.st = .armed || y.st = .exposing)) = some x) :
    exec .fMapStart s = .next (s.startMap x) := by
  change execFMapStart s = _
  unfold execFMapStart State.startMap
  rw [hfree, if_neg (by decide)]
  simp only [hnext]
  change (if (s.latchMap x).pec.live.mode = 0 then _ else _) = _
  rw [State.latchMap_pec]
  split <;> rfl

theorem State.latchMap_regsBut : RegsBut startFlds s (s.latchMap x) :=
  RegsBut.trans (RegsBut.of_regs rfl) (RegsBut.wrs _ _ _ (by simp [startFlds]))

theorem State.beginMap_regsBut (seq : Nat) : RegsBut beginFlds s (s.beginMap seq) :=
  RegsBut.trans (RegsBut.of_regs rfl) (RegsBut.wrs _ _ _ (by simp [beginFlds]))

theorem State.beginMap_frame (seq : Nat) : Frame [.regs, .pec] s (s.beginMap seq) :=
  (Frame.widen (State.set_pec_frame s _)).andThen (State.wrs_frame _ _)

theorem State.latchMap_rd_seq : (s.latchMap x).rd Reg.PEC_STATUS.seq = x.d.seq % 2 ^ Reg.PEC_STATUS.seq.width := by
  simp (disch := decide) only [State.latchMap, State.wrs, List.foldl_cons, List.foldl_nil, State.rd_wr_ne, State.rd_wr_same]

theorem State.latchMap_rd_rows : (s.latchMap x).rd Reg.PEC_ROW.rows = 0 := by
  simp only [State.latchMap, State.wrs, List.foldl_cons, List.foldl_nil, State.rd_wr_same, Nat.zero_mod]

theorem State.latchMap_stripe (hx : s.stripe x.d.seq = some x) :
    (s.latchMap x).stripe x.d.seq = some { x with fParams := some s.pec.live } :=
  (State.stripe_congr (State.wrs_sieve _ _) _).trans (State.stripe_updStripe_same (by intro; rfl) hx)

theorem State.latchMap_stripesBut : StripesBut x.d.seq s (s.latchMap x) :=
  (State.updStripe_stripesBut s x.d.seq (by intro; rfl)).trans (StripesBut.of_sieve (State.wrs_sieve _ _))

theorem State.startMap_sieve : (s.startMap x).sieve = (s.latchMap x).sieve := by
  unfold State.startMap
  split
  · rfl
  · exact State.beginMap_frame _ .sieve (by decide)

/-- The start of a map shows the number of its stripe and no rows since its parameters were latched. -/
theorem State.startMap_rd {f : Fld} (hf : fldKey f ∉ beginFlds.map fldKey) : (s.startMap x).rd f = (s.latchMap x).rd f := by
  unfold State.startMap
  split
  · rfl
  · exact State.beginMap_regsBut _ f hf

theorem State.startMap_off (hoff : s.pec.live.mode = 0) : (s.startMap x).pec = s.pec := by
  rw [State.startMap, if_pos hoff, State.latchMap_pec]

theorem State.startMap_on (hon : s.pec.live.mode ≠ 0) :
    (s.startMap x).pec = { s.pec with stripe := some x.d.seq, rows := 0 } ∧ (s.startMap x).rd Reg.PEC_STATUS.busy = 1 := by
  rw [State.startMap, if_neg hon]
  constructor
  · rw [State.beginMap, State.wrs_pec, State.latchMap_pec]
  · simp (disch := decide) only [State.beginMap, State.wrs, List.foldl_cons, List.foldl_nil, State.rd_wr_ne, State.rd_wr_same]
    rfl

theorem State.startMap_regsBut : RegsBut startFlds s (s.startMap x) := by
  unfold State.startMap
  split
  · exact State.latchMap_regsBut
  · exact RegsBut.trans State.latchMap_regsBut (RegsBut.mono (State.beginMap_regsBut _) (by simp [beginFlds, startFlds]))

theorem State.startMap_frame : Frame [.regs, .sieve, .pec] s (s.startMap x) := by
  unfold State.startMap
  split
  · exact State.latchMap_frame.widen
  · exact (Frame.widen State.latchMap_frame).andThen (State.beginMap_frame _)

/-! ### Rows completed -/

/-- The register fields that the completion of a row writes. -/
def rowFlds : List Fld :=
  [Reg.PEC_STATUS.first_ready, Reg.PEC_STATUS.busy, Reg.PEC_ROW.rows, Reg.PEC_CLAMP.clamp_hi, Reg.PEC_CLAMP.clamp_lo]

/-- R146: the values of F that cell row y of the map of stripe x stores. -/
def State.rowValues (s : State) (x : Stripe) (p : PecParams) (y : Int) : List Nat := (s.pecRow x p y).map (fun e => e.1)

/-- R146: from s to t the next row of the map of stripe x is stored, after which the engine is at work for busy; events may be told. -/
structure RowStored (x : Stripe) (p : PecParams) (busy : Option Nat) (s t : State) : Prop where
  sieve : t.sieve = (s.storeRow x.d.seq (rowAt x.d s.pec.rows) (s.rowValues x p (rowAt x.d s.pec.rows))).sieve
  pec : t.pec = { s.pec with rows := s.pec.rows + 1, stripe := busy }
  rows : t.rd Reg.PEC_ROW.rows = (s.pec.rows + 1) % 2 ^ Reg.PEC_ROW.rows.width
  regs : RegsBut (rowFlds ++ eventRegs) s t
  frame : Frame [.regs, .out, .evt, .sieve, .pec] s t

/-- R146, R151: the next row is completed after the cells that cannot be read are answered. -/
theorem exec_fRowDone {unread : List (Bool × Int × Int)} {u : State} (hredo : s.pec.redo = [])
    (hseq : s.pec.stripe = some x.d.seq) (hu : unread.foldl (fun r c => r.substitute x.d.seq s.pec.rows c) s = u) {y : Stripe}
    (hy : u.stripe x.d.seq = some y) (hp : y.fParams = some p) : exec (.fRowDone unread) s = .next (u.nextRow y p) := by
  change execFRowDone unread s = _
  unfold execFRowDone
  simp only [hredo, hseq, hu, hy, hp]

/-- A row that is stored changes its stripe by that row alone. -/
theorem State.storeRow_stripe (hx : s.stripe x.d.seq = some x) (y : Int) (row : List Nat) :
    (s.storeRow x.d.seq y row).stripe x.d.seq = some { x with fRows := tabPut x.fRows (y + 1).toNat row } :=
  State.stripe_updStripe_same (by intro; rfl) hx

theorem State.storeRow_stripesBut (seq : Nat) (y : Int) (row : List Nat) : StripesBut seq s (s.storeRow seq y row) :=
  State.updStripe_stripesBut s seq (by intro; rfl)

/-- R146, R141: the next row of a map is stored and its clamps are counted. -/
def State.rowCounted (s : State) (x : Stripe) (p : PecParams) : State :=
  let y := rowAt x.d s.pec.rows
  let row := s.pecRow x p y
  ((s.storeRow x.d.seq y (s.rowValues x p y)).incBy Reg.PEC_CLAMP.clamp_hi (row.countP (fun e => e.2.1))).incBy
    Reg.PEC_CLAMP.clamp_lo (row.countP (fun e => e.2.2))

/-- R146: the number of the rows completed is shown. -/
def State.rowNumbered (s : State) (x : Stripe) (p : PecParams) : State :=
  { s.rowCounted x p with pec := { s.pec with rows := s.pec.rows + 1 } }.wr Reg.PEC_ROW.rows (s.pec.rows + 1)

/-- R146: the first rows of a map, or all of a short one, are told as ready. -/
def State.rowReady (s : State) (x : Stripe) (p : PecParams) : State :=
  if s.pec.rows + 1 = 8 ∨ s.pec.rows + 1 = cellRows x.d.len + 2 then (s.rowNumbered x p).wr Reg.PEC_STATUS.first_ready 1
  else s.rowNumbered x p

theorem State.nextRow_eq : s.nextRow x p =
    if s.pec.rows + 1 < cellRows x.d.len + 2 then s.rowReady x p
    else if (s.rowReady x p).freePec.rd Reg.PEC_CLAMP.clamp_hi = 0 ∧ (s.rowReady x p).freePec.rd Reg.PEC_CLAMP.clamp_lo = 0 then
      (s.rowReady x p).freePec
    else (s.rowReady x p).freePec.raise 0x0531 [w x.d.seq, w ((s.rowReady x p).freePec.rd Reg.PEC_CLAMP.clamp_hi),
      w ((s.rowReady x p).freePec.rd Reg.PEC_CLAMP.clamp_lo)] := rfl

variable (s x p) in
theorem State.rowCounted_regsBut : RegsBut (rowFlds ++ eventRegs) s (s.rowCounted x p) := by
  unfold State.rowCounted
  extract_lets y row
  have high := RegsBut.wr (rowFlds ++ eventRegs) (s.storeRow x.d.seq y (s.rowValues x p y)) Reg.PEC_CLAMP.clamp_hi
  exact RegsBut.trans (RegsBut.trans (RegsBut.of_regs rfl) (high _ (by decide))) (RegsBut.wr _ _ _ _ (by decide))

variable (s x p) in
theorem State.rowCounted_frame : Frame [.regs, .sieve] s (s.rowCounted x p) :=
  ((Frame.widen (State.updStripe_frame s _ _)).andThen (State.incBy_frame _ _ _)).andThen (State.incBy_frame _ _ _)

variable (s x p) in
theorem State.rowNumbered_frame : Frame [.regs, .sieve, .pec] s (s.rowNumbered x p) :=
  ((Frame.widen (State.rowCounted_frame s x p)).andThen (State.set_pec_frame _ _)).andThen (State.wr_frame _ _ _)

variable (s x p) in
theorem State.rowReady_frame : Frame [.regs, .sieve, .pec] s (s.rowReady x p) := by
  unfold State.rowReady
  split
  · exact (State.rowNumbered_frame s x p).andThen (State.wr_frame _ _ _)
  · exact State.rowNumbered_frame s x p

variable (s x p) in
theorem State.rowNumbered_stored : RowStored x p s.pec.stripe s (s.rowNumbered x p) where
  sieve := rfl
  pec := rfl
  rows := State.rd_wr_same _ _ _
  regs :=
    have numbered : RegsBut (rowFlds ++ eventRegs) (s.rowCounted x p)
        { s.rowCounted x p with pec := { s.pec with rows := s.pec.rows + 1 } } := RegsBut.of_regs rfl
    RegsBut.trans (State.rowCounted_regsBut s x p) (RegsBut.trans numbered (RegsBut.wr _ _ _ _ (by decide)))
  frame := (State.rowNumbered_frame s x p).widen

variable {t : State} {busy : Option Nat}

/-- A write of another field of the engine's leaves the row stored. -/
theorem RowStored.wr (h : RowStored x p busy s t) {f : Fld} (v : Nat) (hf : f ∈ rowFlds ++ eventRegs)
    (hne : fldKey Reg.PEC_ROW.rows ≠ fldKey f) : RowStored x p busy s (t.wr f v) where
  sieve := h.sieve
  pec := h.pec
  rows := (State.rd_wr_ne t v hne).trans h.rows
  regs := RegsBut.trans h.regs (RegsBut.wr _ _ _ _ hf)
  frame := h.frame.andThen (State.wr_frame _ _ _)

theorem State.rowReady_stored : RowStored x p s.pec.stripe s (s.rowReady x p) := by
  unfold State.rowReady
  split
  · exact (State.rowNumbered_stored s x p).wr 1 (by decide) (by decide)
  · exact State.rowNumbered_stored s x p

/-- R146: with the last row the engine is free. -/
theorem RowStored.freePec (h : RowStored x p busy s t) : RowStored x p none s t.freePec := by
  have freed : RowStored x p none s { t with pec := { t.pec with stripe := none } } :=
    { sieve := h.sieve
      pec := by rw [h.pec]
      rows := h.rows
      regs := RegsBut.trans h.regs (RegsBut.of_regs rfl)
      frame := h.frame.andThen (State.set_pec_frame _ _) }
  exact freed.wr 0 (by decide) (by decide)

theorem RowStored.raise (h : RowStored x p busy s t) (c : Nat) (d : List EvWord) : RowStored x p busy s (t.raise c d) where
  sieve := (State.raise_sieve t c d).trans h.sieve
  pec := (State.raise_pec t c d).trans h.pec
  rows := (RegsBut.raise t c d _ (by decide)).trans h.rows
  regs := RegsBut.trans h.regs (RegsBut.mono (RegsBut.raise t c d) (fun _ => List.mem_append_right _))
  frame := h.frame.andThen (State.raise_frame t c d)

/-- R146: the next row of a map is stored, and the last one frees the engine. -/
theorem State.nextRow_stored (hseq : s.pec.stripe = some x.d.seq) :
    RowStored x p (if s.pec.rows + 1 < cellRows x.d.len + 2 then some x.d.seq else none) s (s.nextRow x p) := by
  have ready : RowStored x p (some x.d.seq) s (s.rowReady x p) := hseq ▸ State.rowReady_stored
  rw [State.nextRow_eq]
  split
  · exact ready
  · split
    · exact ready.freePec
    · exact ready.freePec.raise _ _

/-- The end of a map tells no more than its clamps: what was told before stays told. -/
theorem State.nextRow_tells {code : Nat} {data : List EvWord} (h : Tells code data t s) : Tells code data t (s.nextRow x p) := by
  have ready : Tells code data t (s.rowReady x p) := by
    unfold Tells
    rw [State.rowReady_frame s x p .evt (by decide)]
    exact h
  rw [State.nextRow_eq]
  split
  · exact ready
  · split
    · exact ready
    · exact Tells.raise (t := (s.rowReady x p).freePec) ready (by decide)

theorem RowStored.stripe (h : RowStored x p busy s t) (hx : s.stripe x.d.seq = some x) :
    t.stripe x.d.seq =
      some { x with fRows := tabPut x.fRows (rowAt x.d s.pec.rows + 1).toNat (s.rowValues x p (rowAt x.d s.pec.rows)) } :=
  (State.stripe_congr h.sieve _).trans (State.storeRow_stripe hx _ _)

theorem RowStored.stripesBut (h : RowStored x p busy s t) : StripesBut x.d.seq s t :=
  (State.storeRow_stripesBut _ _ _).trans (StripesBut.of_sieve h.sieve)

/-- R150: a row to recompute is stored before any other, with the parameters of its map. -/
theorem exec_fRowDone_redo {y : Int} {rest : List (Nat × Int)} (hredo : s.pec.redo = (x.d.seq, y) :: rest)
    (hx : s.stripe x.d.seq = some x) (hp : x.fParams = some p) :
    exec (.fRowDone []) s =
      .next ({ s with pec := { s.pec with redo := rest } }.storeRow x.d.seq y (s.rowValues x p y)) := by
  have known : { s with pec := { s.pec with redo := rest } }.stripe x.d.seq = some x := hx
  change execFRowDone [] s = _
  unfold execFRowDone
  simp only [hredo, List.foldl_nil, State.redoRow, known, hp]
  rfl

/-! ### Cells substituted -/

/-- R151: a cell that counts as zero from row number i on. -/
def Stripe.withZero (x : Stripe) (under : Bool) (cx cy : Int) (i : Nat) : Stripe := { x with fSubst := (under, cx, cy, i) :: x.fSubst }

/-- R151: the cell is noted and counted. -/
def State.zeroCell (s : State) (seq : Nat) (under : Bool) (cx cy : Int) (i : Nat) : State :=
  ((s.updStripe seq (fun x => x.withZero under cx cy i)).inc Reg.PEC_ERR.d_subst).wr Reg.PEC_STATUS.substituted 1

/-- R151: the layer cell that event 0x0533 names. -/
def State.zeroData (s : State) (x : Stripe) (under : Bool) (cx cy : Int) : List EvWord :=
  [w x.d.seq, w (if under then x.d.layer - 1 else x.d.layer), w (toField 32 ((x.d.slot : Int) * (cellsOf s.variant : Int) + cx)),
    w (toField 32 (x.d.yOrigin / 64 + cy))]

/-- R151: the substitution is told. -/
def State.zeroTold (s : State) (x : Stripe) (under : Bool) (cx cy : Int) (i : Nat) : State :=
  (s.zeroCell x.d.seq under cx cy i).raise 0x0533 (s.zeroData x under cx cy)

section
variable {under : Bool} {cx cy : Int} {i : Nat}

/-- R151: a cell that cannot be read and whose records are gone counts as zero. -/
theorem State.substitute_gone (hx : s.stripe x.d.seq = some x) (hgone : s.recomputable x under cx cy = false)
    (hnew : zeroed x i under cx cy = false) : s.substitute x.d.seq i (under, cx, cy) = s.zeroTold x under cx cy i := by
  unfold State.substitute
  simp only [hx, hgone, hnew, Bool.or_self, Bool.false_eq_true, if_false]
  rfl

theorem State.zeroCell_frame (seq : Nat) : Frame [.regs, .sieve] s (s.zeroCell seq under cx cy i) :=
  ((Frame.widen (State.updStripe_frame s seq _)).andThen (State.inc_frame _ _)).andThen (State.wr_frame _ _ _)

theorem State.zeroTold_frame : Frame [.regs, .out, .evt, .sieve] s (s.zeroTold x under cx cy i) :=
  (Frame.widen (State.zeroCell_frame _)).andThen (State.raise_frame _ _ _)

theorem State.zeroTold_sieve :
    (s.zeroTold x under cx cy i).sieve = (s.updStripe x.d.seq (fun y => y.withZero under cx cy i)).sieve :=
  State.raise_sieve _ _ _

theorem State.zeroTold_stripe (hx : s.stripe x.d.seq = some x) :
    (s.zeroTold x under cx cy i).stripe x.d.seq = some (x.withZero under cx cy i) :=
  (State.stripe_congr State.zeroTold_sieve _).trans (State.stripe_updStripe_same (by intro; rfl) hx)

theorem State.zeroTold_stripesBut : StripesBut x.d.seq s (s.zeroTold x under cx cy i) :=
  (State.updStripe_stripesBut s x.d.seq (by intro; rfl)).trans (StripesBut.of_sieve State.zeroTold_sieve)

theorem State.zeroTold_counted : Counted Reg.PEC_ERR.d_subst 1 s (s.zeroTold x under cx cy i) :=
  (RegsBut.raise _ _ _ _ (by decide)).trans ((State.rd_wr_ne _ 1 (by decide)).trans (State.rd_inc_saturates _ _))

theorem State.zeroTold_rd_substituted : (s.zeroTold x under cx cy i).rd Reg.PEC_STATUS.substituted = 1 :=
  (RegsBut.raise _ _ _ _ (by decide)).trans (State.rd_wr_same _ _ _)

theorem State.zeroTold_tells : Tells 0x0533 (s.zeroData x under cx cy) s (s.zeroTold x under cx cy i) := by
  refine Tells.of_raises (Raises.of_ring_left ?_ (Raises.raise _ _ _ (by decide)))
  rw [State.zeroCell_frame x.d.seq .evt (by decide)]

end

/-! ### Parameters committed -/

/-- R139, R144: the taps of the kernel tables, as table and number. -/
def kernelTaps : List (Nat × Nat) := (List.range 10).flatMap fun k => (List.range 129).map fun i => (k, i)

theorem mem_kernelTaps {e : Nat × Nat} : e ∈ kernelTaps ↔ e.1 < 10 ∧ e.2 < 129 := by
  obtain ⟨k, i⟩ := e
  simp only [kernelTaps, List.mem_flatMap, List.mem_map, List.mem_range, Prod.mk.injEq]
  constructor
  · rintro ⟨_, hk, _, hi, rfl, rfl⟩
    exact ⟨hk, hi⟩
  · exact fun ⟨hk, hi⟩ => ⟨k, hk, i, hi, rfl, rfl⟩

theorem State.pecShadow_tabs (s : State) : s.pecShadow.tabs =
    kernelTaps.foldl (fun t e => tabSet 0 t (e.1 * 256 + e.2) (s.rd (Reg.PEC_KTAB.tap e.1 e.2))) [] := by
  simp only [State.pecShadow, kernelTaps, List.foldl_flatMap, List.foldl_map]

/-- R144: of the kernel tables, the live set holds every tap that the registers hold. -/
theorem State.pecShadow_tap (s : State) {k i : Nat} (hk : k < 10) (hi : i < 129) :
    tabGet 0 s.pecShadow.tabs (k * 256 + i) = s.rd (Reg.PEC_KTAB.tap k i) := by
  rw [State.pecShadow_tabs]
  refine tabGet_foldl_tabSet 0 (fun e : Nat × Nat => e.1 * 256 + e.2) (fun e => s.rd (Reg.PEC_KTAB.tap e.1 e.2)) (i := (k, i)) []
    (.inl (mem_kernelTaps.2 ⟨hk, hi⟩)) ?_
  intro e he hkey
  have hlt : e.2 < 129 := (mem_kernelTaps.1 he).2
  dsimp only at hkey ⊢
  rw [show e.1 = k by omega, show e.2 = i by omega]

theorem State.pecShadow_weight (s : State) {k : Nat} (hk : k < 4) : s.pecShadow.weights.getD k 0 = s.rd (Reg.PEC_WEIGHT.w k) := by
  simp [State.pecShadow, List.getD, hk]

/-- Settles O10, clause by clause: the start of a map, a row stored, a row stored after a cell has been substituted, a row
recomputed, and the shadow set copied. -/
theorem doseMapRowsAreStored : Obligations.DoseMapRowsAreStored := by
  intro s
  refine ⟨?_, ?_, ?_, ?_, ?_⟩
  · intro x hfree hnext hx
    exact ⟨_, exec_fMapStart hfree hnext, (State.stripe_congr State.startMap_sieve _).trans (State.latchMap_stripe hx),
      State.latchMap_stripesBut.trans (StripesBut.of_sieve State.startMap_sieve),
      (State.startMap_rd (by decide)).trans State.latchMap_rd_seq, (State.startMap_rd (by decide)).trans State.latchMap_rd_rows,
      State.startMap_off, State.startMap_on, State.startMap_regsBut, State.startMap_frame⟩
  · intro x p hredo hseq hx hp
    have stored : RowStored x p _ s (s.nextRow x p) := State.nextRow_stored hseq
    exact ⟨_, exec_fRowDone hredo hseq rfl hx hp, stored.stripe hx, stored.stripesBut, stored.pec, stored.rows, stored.regs,
      stored.frame⟩
  · intro x p under cx cy hredo hseq hx hp hgone hnew
    have pec : (s.zeroTold x under cx cy s.pec.rows).pec = s.pec := State.zeroTold_frame .pec (by decide)
    have known := State.zeroTold_stripe (under := under) (cx := cx) (cy := cy) (i := s.pec.rows) hx
    have stored : RowStored (x.withZero under cx cy s.pec.rows) p _ (s.zeroTold x under cx cy s.pec.rows) _ :=
      State.nextRow_stored ((congrArg PecState.stripe pec).trans hseq)
    refine ⟨_, exec_fRowDone (unread := [(under, cx, cy)]) hredo hseq (State.substitute_gone hx hgone hnew) known hp, ?_,
      State.zeroTold_stripesBut.trans stored.stripesBut, (stored.regs _ (by decide)).trans State.zeroTold_counted,
      (stored.regs _ (by decide)).trans State.zeroTold_rd_substituted, State.nextRow_tells State.zeroTold_tells, ?_,
      (Frame.widen State.zeroTold_frame).andThen stored.frame⟩
    · exact congrArg (Option.map Stripe.fSubst) (stored.stripe known)
    · rw [stored.pec, pec]
      rfl
  · intro x p y rest hredo hx hp
    exact ⟨_, exec_fRowDone_redo hredo hx hp, State.storeRow_stripe hx y _, State.storeRow_stripesBut _ y _, rfl,
      (Frame.widen (State.set_pec_frame s _)).andThen (State.updStripe_frame _ _ _)⟩
  · refine ⟨s.commitPec, rfl, rfl, rfl, rfl, rfl, rfl, ?_, rfl, ?_, State.set_pec_frame s _⟩
    · exact fun k hk => s.pecShadow_weight (List.mem_range.1 hk)
    · exact fun k hk i hi => s.pecShadow_tap (List.mem_range.1 hk) (List.mem_range.1 hi)

end Sys2Proof.Machine
end

section
/-! The arithmetic of one shot: its code and residual, the shares of a pixel, reserve passes, samples (R154, R159, R160, R162, R163,
R168). -/

namespace Sys2Proof.Machine

/-! ### Code, residual and loss (R154, R163) -/

theorem clampInt_bounds {lo hi : Int} (h : lo ≤ hi) (x : Int) : lo ≤ clampInt lo hi x ∧ clampInt lo hi x ≤ hi := by
  unfold clampInt
  split
  · omega
  · split <;> omega

theorem clampInt_of_mem {lo hi x : Int} (hlo : lo ≤ x) (hhi : x ≤ hi) : clampInt lo hi x = x := by
  unfold clampInt
  rw [if_neg (by omega), if_neg (by omega)]

/-- R154: the accounted dose is c·G in units of 1/2,048 q, rounded to the nearest q. -/
theorem accDose_rounds (c g : Nat) : 2048 * accDose c g ≤ c * g + 1024 ∧ c * g < 2048 * accDose c g + 1024 := by
  unfold accDose
  rw [Nat.shiftRight_eq_div_pow]
  omega

/-- R163: the code before the clamp is the demand divided by the gain, rounded half up. -/
theorem codeRaw_rounds (want : Int) {g : Nat} (hg : 0 < g) :
    2 * (codeRaw want g * g) ≤ 4096 * want + g ∧ 4096 * want < 2 * (codeRaw want g * g) + g := by
  have hpos : (0 : Int) < 2 * g := by omega
  have below := Int.ediv_mul_le (4096 * want + g) (Int.ne_of_gt hpos)
  have above := Int.lt_ediv_add_one_mul_self (4096 * want + g) hpos
  rw [← codeRaw, Int.mul_left_comm] at below
  rw [← codeRaw, Int.mul_left_comm, Int.add_mul, Int.one_mul, Int.mul_add] at above
  omega

/-- R163: with a gain inside the window and a code that is not clamped, the residual fits its four bits. -/
theorem residual_fits {want : Int} {g : Nat} (hg : gainOk g = true) (h0 : 0 ≤ codeRaw want g) :
    -8 ≤ want - accDose (codeRaw want g).toNat g ∧ want - accDose (codeRaw want g).toNat g ≤ 7 := by
  obtain ⟨hlo, hhi⟩ : 0x400 ≤ g ∧ g ≤ 0x7800 := by simpa [gainOk] using hg
  obtain ⟨below, above⟩ := codeRaw_rounds want (g := g) (by omega)
  obtain ⟨rounded, near⟩ := accDose_rounds (codeRaw want g).toNat g
  have code : (((codeRaw want g).toNat * g : Nat) : Int) = codeRaw want g * g := by
    rw [Int.natCast_mul, Int.toNat_of_nonneg h0]
  omega

/-- Settles O13: the clamps give the ranges, the loss is what the clamp of the residual takes away, and inside the gain window a residual
that belongs to an unclamped code is not clamped. -/
theorem shotDemandIsAccountedFor : Obligations.ShotDemandIsAccountedFor := by
  intro want g
  obtain ⟨code0, code255⟩ := clampInt_bounds (lo := 0) (hi := 255) (by decide) (codeRaw want g)
  obtain ⟨rhoLow, rhoHigh⟩ := clampInt_bounds (lo := -8) (hi := 7) (by decide) (want - accDose (codeOf want g).1 g)
  refine ⟨?_, rhoLow, rhoHigh, ?_, ?_⟩
  · change (clampInt 0 255 (codeRaw want g)).toNat ≤ 255
    omega
  · have whole : ∀ acc rho : Int, acc + rho + (want - acc - rho) = want := by omega
    exact whole _ _
  · intro hg h0 h255
    have unclamped : (codeOf want g).1 = (codeRaw want g).toNat := congrArg Int.toNat (clampInt_of_mem h0 h255)
    obtain ⟨low, high⟩ := residual_fits hg h0
    rw [← unclamped] at low high
    exact Int.sub_eq_zero.2 (clampInt_of_mem low high).symm

/-! ### Shares (R162) -/

/-- R162: the first ranks, as many as the dose has beyond equal shares, receive one q more than the others. -/
theorem share_eq {live j : Nat} (t stuck : Int) (hj : j < live) :
    share t stuck live j = (t - stuck) / live + if (j : Int) < (t - stuck) % live then 1 else 0 := by
  have hpos : (0 : Int) < live := by omega
  have hmod := Int.emod_nonneg (t - stuck) (Int.ne_of_gt hpos)
  have hlt := Int.emod_lt_of_pos (t - stuck) hpos
  have regroup : t - stuck + live - 1 - j = (t - stuck) % live + live - 1 - j + live * ((t - stuck) / live) := by
    have divided := Int.emod_add_mul_ediv (t - stuck) live
    omega
  rw [share, regroup, Int.add_mul_ediv_left _ _ (Int.ne_of_gt hpos), Int.add_comm]
  congr 1
  split
  · rw [Int.ediv_eq_iff_of_pos hpos]
    omega
  · exact Int.ediv_eq_zero_of_lt (by omega) (by omega)

/-- Equal parts and one more in each of the first r sum up. -/
theorem sum_range_parts (q r : Int) (hr : 0 ≤ r) (n : Nat) :
    ((List.range n).map (fun j : Nat => q + if (j : Int) < r then 1 else 0)).sum = n * q + min (n : Int) r := by
  induction n with
  | zero =>
    rw [List.range_zero, List.map_nil, List.sum_nil, Int.natCast_zero, Int.zero_mul, Int.zero_add, Int.min_eq_left hr]
  | succ n ih =>
    rw [List.range_succ, List.map_append, List.sum_append, ih, List.map_singleton, List.sum_singleton, Int.natCast_add,
      Int.natCast_one, Int.add_mul, Int.one_mul]
    split <;> omega

/-- Settles O14: equal shares and the remainder, one q to each of the first ranks. -/
theorem sharesSumToTheTarget : Obligations.SharesSumToTheTarget := by
  intro t stuck live hlive
  have hpos : (0 : Int) < live := by omega
  have hmod := Int.emod_nonneg (t - stuck) (Int.ne_of_gt hpos)
  have hlt := Int.emod_lt_of_pos (t - stuck) hpos
  refine ⟨?_, fun i j hi hj => ?_⟩
  · rw [List.map_congr_left (fun j hj => share_eq t stuck (List.mem_range.1 hj)), sum_range_parts _ _ hmod, Int.min_eq_right (Int.le_of_lt hlt)]
    exact Int.mul_ediv_add_emod (t - stuck) live
  · rw [share_eq t stuck hi, share_eq t stuck hj]
    split <;> split <;> omega

/-! ### Reserve passes (R168) -/

/-- R168: a reserve pass makes up a missed pass when it is the nominal holder or every one from the holder up to it was missed. -/
theorem makesUp_iff {lost : List Bool} {i p : Nat} :
    makesUp lost i p = true ↔
      i % lost.length ≤ p ∧ ∀ q, i % lost.length ≤ q → q < p → lost.getD q false = true := by
  simp only [makesUp, Bool.and_eq_true, decide_eq_true_eq, List.all_eq_true, List.mem_range]
  refine and_congr_right fun _ => ⟨fun h q hq hp => ?_, fun h j hj => h _ (by omega) (by omega)⟩
  rw [← Nat.add_sub_cancel' hq]
  exact h _ (by omega)

/-- R168: a missed pass is unrecovered when every reserve pass from its nominal holder on was missed. -/
theorem unrecovered_iff {lost : List Bool} {i : Nat} :
    unrecovered lost i = true ↔ ∀ q, i % lost.length ≤ q → q < lost.length → lost.getD q false = true := by
  cases lost with
  | nil => simp [unrecovered]
  | cons b bs =>
    simp only [unrecovered, List.isEmpty_cons, Bool.false_or, List.all_eq_true, List.mem_range]
    refine ⟨fun h q hq hlt => ?_, fun h j hj => h _ (by omega) (by omega)⟩
    rw [← Nat.add_sub_cancel' hq]
    exact h _ (by omega)

/-- Settles O15: the chain of holders goes on over missed reserve passes, so that it ends in the first that was not missed, if any. -/
theorem everyMissedPassIsMadeUpOnce : Obligations.EveryMissedPassIsMadeUpOnce := by
  intro lost i
  refine ⟨⟨fun h p hp hm => ?_, fun h => unrecovered_iff.2 fun q => ?_⟩, fun p q _ _ hp hq notp notq => ?_⟩
  · exact unrecovered_iff.1 h p (makesUp_iff.1 hm).1 hp
  · induction q using Nat.strongRecOn with
    | ind q ih =>
      intro hle hlt
      exact h q hlt (makesUp_iff.2 ⟨hle, fun p hp hpq => ih p hpq hp (Nat.lt_trans hpq hlt)⟩)
  · obtain ⟨holderp, chainp⟩ := makesUp_iff.1 hp
    obtain ⟨holderq, chainq⟩ := makesUp_iff.1 hq
    rcases Nat.lt_trichotomy p q with hpq | hpq | hpq
    · exact absurd (chainq p holderp hpq) (by rw [notp]; decide)
    · exact hpq
    · exact absurd (chainp q holderq hpq) (by rw [notq]; decide)

/-! ### Samples (R159, R160) -/

/-- R159: the weights of the four pixels around a landing point add up to 64 by 64. -/
theorem sample_weights {fx fy : Nat} (hx : fx ≤ 64) (hy : fy ≤ 64) :
    (64 - fx) * (64 - fy) + (fx * (64 - fy) + ((64 - fx) * fy + fx * fy)) = 4096 := by
  calc _ = ((64 - fx) + fx) * ((64 - fy) + fy) := by simp only [Nat.mul_add, Nat.add_mul, Nat.add_assoc]
    _ = 4096 := by rw [Nat.sub_add_cancel hx, Nat.sub_add_cancel hy]

/-- Samples without weight add nothing to a sum of weights. -/
theorem sum_weights_filter (l : List (Int × Int × Nat)) :
    ((l.filter (fun e => e.2.2 ≠ 0)).map (fun e => e.2.2)).sum = (l.map (fun e => e.2.2)).sum := by
  induction l with
  | nil => rfl
  | cons e l ih =>
    rw [List.map_cons, List.sum_cons, ← ih]
    by_cases h : e.2.2 = 0
    · rw [List.filter_cons_of_neg (by simpa using h), h, Nat.zero_add]
    · rw [List.filter_cons_of_pos (by simpa using h), List.map_cons, List.sum_cons]

/-- R159: the samples of a landing offset lie at its whole pixel and line, or one further where the offset has a fraction. -/
theorem mem_sampleOffsets {ox oy : Int} {e : Int × Int × Nat} (h : e ∈ sampleOffsets ox oy) :
    (e.1 = ox / 64 ∨ e.1 = ox / 64 + 1 ∧ ox % 64 ≠ 0) ∧ (e.2.1 = oy / 64 ∨ e.2.1 = oy / 64 + 1 ∧ oy % 64 ≠ 0) := by
  have fraction : ∀ o : Int, (o % 64).toNat ≠ 0 → o % 64 ≠ 0 := by omega
  obtain ⟨hmem, hkept⟩ := List.mem_filter.1 h
  have hweight : e.2.2 ≠ 0 := of_decide_eq_true hkept
  simp only [List.mem_cons, List.not_mem_nil, or_false] at hmem
  rcases hmem with rfl | rfl | rfl | rfl
  · exact ⟨.inl rfl, .inl rfl⟩
  · exact ⟨.inr ⟨rfl, fraction ox (Nat.mul_ne_zero_iff.1 hweight).1⟩, .inl rfl⟩
  · exact ⟨.inl rfl, .inr ⟨rfl, fraction oy (Nat.mul_ne_zero_iff.1 hweight).2⟩⟩
  · obtain ⟨hx, hy⟩ := Nat.mul_ne_zero_iff.1 hweight
    exact ⟨.inr ⟨rfl, fraction ox hx⟩, .inr ⟨rfl, fraction oy hy⟩⟩

/-- Settles O16: the four weights add up, and where the offset is a whole number of pixels or lines the further ones weigh nothing. -/
theorem sampleWeightsSumToOne : Obligations.SampleWeightsSumToOne := by
  intro ox oy
  refine ⟨?_, fun e he => Nat.pos_of_ne_zero (by simpa using (List.mem_filter.1 he).2), fun hx0 hx1 hy0 hy1 => ?_⟩
  · rw [sampleOffsets, sum_weights_filter]
    exact sample_weights (by omega) (by omega)
  · refine List.any_eq_false.2 fun e he => ?_
    obtain ⟨hx, hy⟩ := mem_sampleOffsets he
    simp only [Bool.or_eq_true, decide_eq_true_eq]
    omega

end Sys2Proof.Machine
end

section
/-! The expiry of the undo ring (R166, R167, R170 to R174, R267). -/

namespace Sys2Proof

open Sys2Proof.Machine

/-- The parts of the state that the expiry of an undo entry may change. -/
def undoParts : List Part := [.regs, .out, .evt, .sieve, .win, .render, .pec, .shot, .check, .cal, .pair]

/-- The tick log entry of tick number n, the newest one. -/
def Machine.State.entry (s : State) (n : Nat) : Option TickEntry := s.shot.tlog.find? (fun e => e.n = n)

/-- R167: an entry keeps the lanes on which its tick is resolved and those on which it is unconfirmed. -/
structure MarksKept (e f : TickEntry) : Prop where
  resolved : ∀ l, e.resolved.testBit l = true → f.resolved.testBit l = true
  unconf : ∀ l, e.unconf.testBit l = true → f.unconf.testBit l = true

/-- From s to t the state changes in the parts of an expiry alone, what has been told stays told, and the entry of tick n keeps its
marks. -/
structure Upholds (n : Nat) (s t : State) : Prop where
  frame : Frame undoParts s t
  told : ∀ {u : State} {code : Nat} {data : List EvWord}, Tells code data u s → Tells code data u t
  marks : ∀ e, s.entry n = some e → ∃ f, t.entry n = some f ∧ MarksKept e f

namespace Upholds

variable {n : Nat} {s t u : State}

theorem refl (n : Nat) (s : State) : Upholds n s s := ⟨Frame.refl _ _, id, fun e he => ⟨e, he, ⟨fun _ => id, fun _ => id⟩⟩⟩

theorem trans (h : Upholds n s t) (h' : Upholds n t u) : Upholds n s u where
  frame := h.frame.trans h'.frame
  told := fun ht => h'.told (h.told ht)
  marks := fun e he => by
    obtain ⟨f, hf, kept⟩ := h.marks e he
    obtain ⟨g, hg, kept'⟩ := h'.marks f hf
    exact ⟨g, hg, fun l hl => kept'.resolved l (kept.resolved l hl), fun l hl => kept'.unconf l (kept.unconf l hl)⟩

theorem ite {c : Prop} [Decidable c] (h : Upholds n s t) (h' : Upholds n s u) : Upholds n s (if c then t else u) := by
  split <;> assumption

theorem foldl {α : Type} {f : State → α → State} (h : ∀ s a, Upholds n s (f s a)) (as : List α) (s : State) :
    Upholds n s (as.foldl f s) :=
  foldl_rel (Upholds n) (refl n) (fun _ _ _ => trans) f h as s

/-- A change with a frame that leaves the tick log alone and enters no event. -/
theorem of_frame_evt {l : List Part} (h : Frame l s t) (hevt : ∀ {u : State} {code data}, Tells code data u s → Tells code data u t)
    (hlog : t.shot.tlog = s.shot.tlog) (hl : ∀ p ∈ l, p ∈ undoParts := by decide) : Upholds n s t where
  frame := h.mono hl
  told := hevt
  marks := fun e he => ⟨e, by rwa [State.entry, hlog], ⟨fun _ => id, fun _ => id⟩⟩

theorem of_frame {l : List Part} (h : Frame l s t) (hl : ∀ p ∈ l, p ∈ undoParts := by decide) (he : Part.evt ∉ l := by decide)
    (hs : Part.shot ∉ l := by decide) : Upholds n s t :=
  of_frame_evt h (fun ht => by rwa [Tells, h .evt he]) (congrArg ShotState.tlog (h .shot hs)) hl

theorem set_shot (s : State) {x : ShotState} (h : x.tlog = s.shot.tlog := by rfl) : Upholds n s { s with shot := x } :=
  of_frame_evt (State.set_shot_frame s x) id h

theorem raise (s : State) (c : Nat) (d : List EvWord) (hc : c ≠ 0x0A09 := by decide) : Upholds n s (s.raise c d) :=
  of_frame_evt (State.raise_frame s c d) (fun ht => ht.raise hc) (by rw [State.raise_shot])

theorem raiseFor (s : State) (seq c : Nat) (d : List EvWord) (hc : c ≠ 0x0A09 := by decide) : Upholds n s (s.raiseFor seq c d) := by
  unfold State.raiseFor
  split
  · exact raise s c d hc
  · exact ite (refl n s) ((raise s c d hc).trans (of_frame (State.noteTold_frame _ _ _)))

end Upholds

namespace Machine

variable {n : Nat} (s : State)

/-! ### Failed checks, losses and completion -/

theorem entryLoc_outside_dram (mem entry : Nat) : (entryLoc mem entry).kind ≠ 1 := by simp [entryLoc]

theorem winLoc_outside_dram (y seg : Nat) : (winLoc y seg).kind ≠ 1 := by simp [winLoc]

/-- R308, R310: a failure outside the DRAM that is noted or judged. -/
theorem State.failAt_upholds {l : Location} (hl : l.kind ≠ 1) : Upholds n s (s.failAt l) := by
  have acted : ∀ t : State, Upholds n t (t.lastingAction l) := fun t => by
    unfold State.lastingAction
    rw [if_neg hl]
    exact Upholds.ite (Upholds.of_frame (State.set_win_frame t _)) (Upholds.refl n t)
  have noted : ∀ (t : State) c h, Upholds n t (({ t with check := c } : State).setHist h) := fun t c h =>
    (Upholds.of_frame (State.set_check_frame t c)).trans (Upholds.of_frame (State.setHist_frame _ h))
  have judged : Upholds n s (s.judge l) := by
    unfold State.judge
    extract_lets counted located _
    have hc : Upholds n s counted := (Upholds.raise s _ _).trans (Upholds.of_frame (State.inc_frame _ _))
    have hloc : Upholds n s located := hc.trans (Upholds.of_frame (State.wrs_frame _ _))
    exact (hloc.trans (noted _ _ _)).trans (acted _)
  unfold State.failAt
  extract_lets now entered
  refine Upholds.ite (Upholds.of_frame (State.setHist_frame s _)) ?_
  split
  · exact Upholds.ite judged (noted s _ _)
  · exact noted s _ _

theorem State.report_upholds (seq : Nat) (b : Bytes) : Upholds n s (s.report seq b) := by
  unfold State.report
  extract_lets counted _ _ issued
  have hi : Upholds n s issued :=
    Upholds.of_frame_evt (l := [.regs, .shot, .check])
      ((Frame.widen (State.inc_frame s _)).andThen (State.set_shot_check_frame counted _ _)) id rfl
  exact Upholds.ite (hi.trans (Upholds.of_frame (State.flushReports_frame _ _))) hi

theorem State.earlyReport_upholds (x : Stripe) (px y : Nat) (lam : Int) (reasons : Nat) :
    Upholds n s (s.earlyReport x px y lam reasons) := by
  unfold State.earlyReport
  extract_lets _ _ _ _ reported
  have hr : Upholds n s reported := (Upholds.set_shot s).trans (State.report_upholds _ _ _)
  exact hr.trans (Upholds.raiseFor _ _ _ _)

theorem State.lossFailed_upholds (px y : Nat) : Upholds n s (s.lossFailed px y) :=
  State.failAt_upholds s (entryLoc_outside_dram _ _)

theorem State.addReasons_upholds (px y reasons : Nat) : Upholds n s (s.addReasons px y reasons) := by
  unfold State.addReasons
  split
  · exact Upholds.refl n s
  · exact Upholds.set_shot s

theorem State.addLoss_upholds (x : Stripe) (px y : Nat) (lam : Int) (reasons : Nat) : Upholds n s (s.addLoss x px y lam reasons) := by
  unfold State.addLoss
  refine Upholds.ite (Upholds.refl n s) ?_
  split
  · exact (Upholds.ite (State.lossFailed_upholds s px y) (Upholds.refl n s)).trans (Upholds.set_shot _)
  · exact Upholds.ite ((Upholds.set_shot s).trans (Upholds.of_frame (State.wr_frame _ _ _)))
      (State.earlyReport_upholds s _ _ _ _ _)

theorem State.addLosses_upholds {α : Type} (x : Stripe) (px y : α → Nat) (lam : α → Int) (reasons : Nat) (as : List α) :
    Upholds n s (as.foldl (fun s a => s.addLoss x (px a) (y a) (lam a) reasons) s) :=
  Upholds.foldl (fun s _ => State.addLoss_upholds s _ _ _ _ _) as s

/-- R170 to R173: a pixel completes. -/
theorem State.completePixel_upholds (x : Stripe) (bad : List BadRead) (px y : Nat) : Upholds n s (s.completePixel x bad px y) := by
  unfold State.completePixel
  extract_lets key _ valued c counted why failed lossy ent early _ erased
  have hv : Upholds n s valued := Upholds.ite (Upholds.refl n s) (Upholds.set_shot s)
  have hc : Upholds n s counted := hv.trans (Upholds.of_frame (State.incBy_frame _ _ _))
  have hf : Upholds n s failed := hc.trans (Upholds.ite (State.lossFailed_upholds _ _ _) (Upholds.refl n _))
  have hl : Upholds n s lossy :=
    hf.trans (Upholds.ite (State.addReasons_upholds _ _ _ _) (State.addLoss_upholds _ _ _ _ _ _))
  have he : Upholds n s erased := hl.trans (Upholds.set_shot lossy)
  exact Upholds.ite he (Upholds.ite (he.trans (State.report_upholds _ _ _)) he)

/-! ### Failed reads answered -/

theorem State.requestRerender_upholds (y seg : Nat) : Upholds n s (s.requestRerender y seg) :=
  Upholds.of_frame (State.requestRerender_frame s y seg)

theorem State.pFailed_upholds (x : Stripe) (y seg : Nat) : Upholds n s (s.pFailed x y seg) := by
  unfold State.pFailed
  extract_lets counted judged _ told
  have hc : Upholds n s counted :=
    Upholds.of_frame ((State.inc_frame s _).trans (State.wrs_frame _ _))
  have hj : Upholds n s judged := hc.trans (Upholds.ite (Upholds.refl n _) (State.failAt_upholds _ (winLoc_outside_dram _ _)))
  have ht : Upholds n s told := hj.trans (Upholds.ite (Upholds.refl n _)
    ((Upholds.of_frame (State.set_win_frame judged _)).trans (Upholds.raise _ _ _)))
  exact ht.trans (State.requestRerender_upholds _ _ _)

theorem State.pLate_upholds (x : Stripe) (y seg : Nat) (again : Bool) : Upholds n s (s.pLate x y seg again) := by
  unfold State.pLate
  extract_lets _ told
  have ht : Upholds n s told := Upholds.ite (Upholds.refl n s)
    (((Upholds.set_shot s).trans (Upholds.of_frame (State.inc_frame _ _))).trans (Upholds.raiseFor _ _ _ _))
  exact Upholds.ite (ht.trans (State.requestRerender_upholds _ _ _)) ht

theorem State.cellLate_upholds (x : Stripe) (c : Int × Int) : Upholds n s (s.cellLate x c) :=
  Upholds.ite (Upholds.refl n s)
    (((Upholds.set_shot s).trans (Upholds.of_frame (State.inc_frame _ _))).trans (Upholds.raiseFor _ _ _ _))

theorem State.resetRho_upholds (x : Stripe) (y seg : Nat) : Upholds n s (s.resetRho x y seg) := by
  unfold State.resetRho
  extract_lets written lost
  have hl : Upholds n s lost := (Upholds.of_frame (State.winWrite_frame s _ _ _ _ _)).trans
    (State.addLosses_upholds written x (fun k => 256 * seg + k) (fun _ => y) (fun _ => 0) rRhoLost (List.range 256))
  exact (hl.trans (Upholds.of_frame (State.inc_frame _ _))).trans (Upholds.raise _ _ _)

theorem State.queueRebuild_upholds (x : Stripe) (y seg tick : Nat) : Upholds n s (s.queueRebuild x y seg tick) :=
  Upholds.ite (Upholds.refl n s) (Upholds.ite (Upholds.set_shot s) (State.resetRho_upholds s x y seg))

theorem State.rhoFailed_upholds (x : Stripe) (y seg tick : Nat) : Upholds n s (s.rhoFailed x y seg tick) := by
  unfold State.rhoFailed
  extract_lets counted judged
  have hc : Upholds n s counted :=
    Upholds.of_frame ((State.inc_frame s _).trans (State.wrs_frame _ _))
  have hj : Upholds n s judged := hc.trans (Upholds.ite (Upholds.refl n _) (State.failAt_upholds _ (winLoc_outside_dram _ _)))
  exact Upholds.ite hj ((hj.trans (Upholds.raise _ _ _)).trans (State.queueRebuild_upholds _ _ _ _ _))

theorem State.applyCause_upholds (x : Stripe) (e : TickEntry) (c : Cause) : Upholds n s (s.applyCause x e c) := by
  cases c with
  | pSeg y seg =>
    exact Upholds.ite (State.pLate_upholds s x y seg true)
      (Upholds.ite (State.pFailed_upholds s x y seg) (State.pLate_upholds s x y seg false))
  | late cell => exact State.cellLate_upholds s x cell
  | fRow row x0 =>
    have told : Upholds n s ((s.inc Reg.PEC_ERR.f_fail).raise 0x0532 [w x.d.seq, w (toField 32 row)]) :=
      (Upholds.of_frame (State.inc_frame s _)).trans (Upholds.raise _ _ _)
    exact Upholds.ite told (told.trans (Upholds.of_frame (State.set_pec_frame _ _)))
  | rho y seg => exact State.rhoFailed_upholds s x y seg e.s
  | rebuilding => exact Upholds.refl n s
  | trim g => exact Upholds.of_frame (State.set_cal_frame s _)
  | reach => exact Upholds.raiseFor s _ _ _
  | tlog => exact Upholds.refl n s

/-- R166, R170: the pixels whose pass 31 a lane carries complete, and the reads that failed are answered. -/
theorem State.completeLane_upholds (x : Stripe) (e : TickEntry) (bad : List BadRead) (lane : Nat) :
    Upholds n s (s.completeLane x e bad lane) := by
  have completed : ∀ ps : List (Nat × Nat), Upholds n s (ps.foldl (fun s p => s.completePixel x bad p.1 p.2) s) :=
    fun ps => Upholds.foldl (fun s _ => State.completePixel_upholds s _ _ _ _) ps s
  have answered : ∀ (t : State) cs, Upholds n t (t.answerReads x e cs) := fun t cs =>
    Upholds.ite (Upholds.refl n t) (Upholds.foldl (fun s _ => State.applyCause_upholds s _ _ _) _ t)
  exact (completed _).trans (answered _ _)

/-! ### The entry of a tick -/

variable {s}

theorem State.entry_n {e : TickEntry} (h : s.entry n = some e) : e.n = n := by simpa using List.find?_some h

/-- An update of the entries of tick n that keeps their number. -/
theorem State.entry_updTick {f : TickEntry → TickEntry} (hf : ∀ e, e.n = n → (f e).n = n) :
    (s.updTick n f).entry n = (s.entry n).map f := by
  have keeps : ((fun e : TickEntry => decide (e.n = n)) ∘ fun e => if decide (e.n = n) = true then f e else e) =
      fun e => decide (e.n = n) := by
    funext e
    simp only [Function.comp]
    split
    · next h =>
      have hn : e.n = n := of_decide_eq_true h
      rw [hf e hn, hn]
    · rfl
  change (s.shot.tlog.map _).find? _ = _
  rw [List.find?_map, keeps]
  change Option.map _ (s.entry n) = _
  cases h : s.entry n with
  | none => rfl
  | some e => exact congrArg some (if_pos (decide_eq_true (State.entry_n h)))

theorem State.updTick_upholds {f : TickEntry → TickEntry} (hn : ∀ e, e.n = n → (f e).n = n)
    (hf : ∀ e, s.entry n = some e → MarksKept e (f e)) : Upholds n s (s.updTick n f) where
  frame := (State.updTick_frame s n f).widen
  told := id
  marks := fun e he => ⟨f e, by rw [State.entry_updTick hn, he, Option.map_some], hf e he⟩

theorem testBit_withBit_same (m i : Nat) : (withBit m i).testBit i = true := by simp [withBit]

theorem testBit_withBit_of_testBit {m j : Nat} (i : Nat) (h : m.testBit j = true) : (withBit m i).testBit j = true := by
  simp [withBit, h]

/-- An entry that takes another block as receiver-blanked keeps its marks. -/
theorem State.updTick_rx_upholds (blk : Nat) : Upholds n s (s.updTick n (fun e => { e with rx := withBit e.rx blk })) :=
  State.updTick_upholds (fun _ => id) (fun _ _ => ⟨fun _ => id, fun _ => id⟩)

theorem State.updTick_unconf_upholds (lane : Nat) : Upholds n s (s.updTick n (fun e => { e with unconf := withBit e.unconf lane })) :=
  State.updTick_upholds (fun _ => id) (fun _ _ => ⟨fun _ => id, fun _ => testBit_withBit_of_testBit lane⟩)

theorem State.updTick_resolved_upholds (lane : Nat) :
    Upholds n s (s.updTick n (fun e => { e with resolved := withBit e.resolved lane })) :=
  State.updTick_upholds (fun _ => id) (fun _ _ => ⟨fun _ => testBit_withBit_of_testBit lane, fun _ => id⟩)

/-! ### Final entries (R267) -/

theorem State.unprotect_upholds (s : State) (tick reason : Nat) : Upholds n s (s.unprotect tick reason) :=
  Upholds.ite (Upholds.refl n s) ((Upholds.of_frame (State.wr_frame s _ _)).trans (Upholds.raise _ _ _))

theorem State.mirrorFail_upholds (s : State) : Upholds n s s.mirrorFail :=
  Upholds.ite (Upholds.refl n s)
    (((Upholds.of_frame (State.set_pair_frame s _)).trans (Upholds.raise _ _ _)).trans (State.unprotect_upholds _ _ _))

theorem State.mirror_upholds (s : State) (ref : Nat) (body : PairBody) : Upholds n s (s.mirror ref body) := by
  unfold State.mirror
  refine Upholds.ite (Upholds.refl n s) ?_
  extract_lets g f _ stored sent
  have hs : Upholds n s sent :=
    ((Upholds.of_frame (State.set_pair_frame s _)).trans (Upholds.of_frame (State.wr_frame stored _ _))).trans
      (Upholds.of_frame (State.send_frame _ _))
  exact Upholds.ite (hs.trans (State.mirrorFail_upholds _)) hs

theorem State.closeReports_upholds (s : State) (seq : Nat) : Upholds n s (s.closeReports seq) := by
  unfold State.closeReports
  split
  · exact Upholds.refl n s
  · refine Upholds.ite (Upholds.trans (Upholds.ite (Upholds.refl n s) ?_) (Upholds.of_frame (State.flushReports_frame _ _)))
      (Upholds.refl n s)
    exact Upholds.raiseFor s _ _ _

theorem State.finalise_upholds {e : TickEntry} (he : s.entry n = some e) : Upholds n s (s.finalise e) := by
  obtain rfl := State.entry_n he
  have final : Upholds e.n s (s.updTick e.n (fun _ => { e with final := true, undo := [] })) :=
    State.updTick_upholds (fun _ _ => rfl) (fun f hf => by
      obtain rfl : e = f := Option.some.inj (he.symm.trans hf)
      exact ⟨fun _ => id, fun _ => id⟩)
  have spooled : ∀ (t : State) mode f, Upholds e.n t (t.spoolTlog mode f) := fun t mode f =>
    Upholds.of_frame (State.spoolTlog_frame t mode f)
  unfold State.finalise
  extract_lets fin logged
  have hl : Upholds e.n s logged := final.trans (State.mirror_upholds _ _ _)
  split
  · exact hl.trans (spooled _ _ _)
  · exact (hl.trans (spooled _ _ _)).trans (State.closeReports_upholds _ _)

/-! ### Resolution (R166, R267) -/

/-- R170: the pixels of a resolved lane complete, unless the tick is a calibration tick or its stripe is not known. -/
def State.completed (s : State) (e : TickEntry) (bad : List BadRead) (lane : Nat) : State :=
  match s.stripe e.seq with
  | some x => if e.cal then s else s.completeLane x e bad lane
  | none => s

/-- R267: the entry becomes final once every lane has resolved it. -/
def State.finished (s : State) (n : Nat) : State :=
  match s.entry n with
  | none => s
  | some e => if e.resolved = laneMask s.variant ∧ ¬ e.final then s.finalise e else s

theorem State.resolve_new {e : TickEntry} {lane : Nat} (bad : List BadRead) (he : s.entry n = some e)
    (hr : e.resolved.testBit lane = false) :
    s.resolve n lane bad =
      ((s.updTick n (fun e => { e with resolved := withBit e.resolved lane })).completed e bad lane).finished n := by
  unfold State.entry at he
  unfold State.resolve
  simp only [he, hr, Bool.false_eq_true, if_false] <;> rfl

theorem State.completed_upholds (s : State) (e : TickEntry) (bad : List BadRead) (lane : Nat) :
    Upholds n s (s.completed e bad lane) := by
  unfold State.completed
  split
  · exact Upholds.ite (Upholds.refl n s) (State.completeLane_upholds s _ _ _ _)
  · exact Upholds.refl n s

theorem State.finished_upholds (s : State) : Upholds n s (s.finished n) := by
  unfold State.finished
  split
  · exact Upholds.refl n s
  · next e he => exact Upholds.ite (State.finalise_upholds he) (Upholds.refl n s)

/-- R167: the entry of tick n is resolved on a lane, and unconfirmed there. -/
def State.MarkedUnconfirmed (s : State) (n lane : Nat) : Prop :=
  ∃ e, s.entry n = some e ∧ e.resolved.testBit lane = true ∧ e.unconf.testBit lane = true

/-- Resolution on a lane resolves the entry there and keeps its marks. -/
theorem State.resolve_upholds (lane : Nat) (bad : List BadRead) {e : TickEntry} (he : s.entry n = some e) :
    Upholds n s (s.resolve n lane bad) ∧ ∃ f, (s.resolve n lane bad).entry n = some f ∧ f.resolved.testBit lane = true := by
  cases hr : e.resolved.testBit lane with
  | true =>
    have same : s.resolve n lane bad = s := by
      unfold State.entry at he
      simp only [State.resolve, he, hr, if_true]
    rw [same]
    exact ⟨Upholds.refl n s, e, he, hr⟩
  | false =>
    have ended := fun t : State => (State.completed_upholds t e bad lane).trans (State.finished_upholds (n := n) _)
    rw [State.resolve_new bad he hr]
    refine ⟨(State.updTick_resolved_upholds lane).trans (ended _), ?_⟩
    obtain ⟨f, hf, kept⟩ := (ended (s.updTick n (fun e => { e with resolved := withBit e.resolved lane }))).marks _
      (by rw [State.entry_updTick, he, Option.map_some]; exact fun _ => id)
    exact ⟨f, hf, kept.resolved lane (testBit_withBit_same _ _)⟩

/-! ### Expiry (R167) -/

theorem State.writeRho_frame (s : State) (seq y : Nat) (ups : List (Nat × Int)) : Frame [.win] s (s.writeRho seq y ups) := by
  refine Frame.foldl _ (fun t seg => ?_) _ s
  dsimp only
  refine Frame.ite (Frame.refl _ t) ?_
  split
  · exact Frame.refl _ t
  · exact State.winWrite_frame t _ _ _ _ _

theorem State.restoreBlock_upholds (s : State) (x : Stripe) (e : TickEntry) (bad : List BadRead) (blk : Nat) :
    Upholds n s (s.restoreBlock x e bad blk) := by
  unfold State.restoreBlock
  extract_lets us y
  refine Upholds.ite (Upholds.refl n s) (Upholds.ite ?_ ?_)
  · exact (State.failAt_upholds s (entryLoc_outside_dram _ _)).trans
      (State.addLosses_upholds _ x UndoEnt.x UndoEnt.y (fun _ => 0) rRhoLost us)
  · refine (Upholds.of_frame (State.writeRho_frame s _ _ _)).trans (Upholds.foldl (fun t u => ?_) us _)
    exact Upholds.ite (Upholds.refl n t) (State.addLoss_upholds t _ _ _ _ _)

theorem State.receiverBlanked_upholds (s : State) (e : TickEntry) (bad : List BadRead) (blk : Nat) :
    Upholds e.n s (s.receiverBlanked e bad blk) := by
  unfold State.receiverBlanked
  split
  · exact State.updTick_rx_upholds blk
  · refine Upholds.ite (State.updTick_rx_upholds blk) (Upholds.ite (State.updTick_rx_upholds blk) ?_)
    exact (((State.restoreBlock_upholds s _ e bad blk).trans (Upholds.of_frame (State.countMissed_frame _ _ _ _))).trans
      (State.updTick_rx_upholds blk)).trans (Upholds.of_frame (State.inc_frame _ _))

/-- R167: a lane that has not resolved a tick whose undo entry expires has it resolved and unconfirmed. -/
theorem State.unconfirmed_upholds (s : State) (e : TickEntry) (bad : List BadRead) (lane : Nat) (hknown : ∃ f, s.entry e.n = some f) :
    Upholds e.n s (s.unconfirmed e bad lane) ∧ (s.unconfirmed e bad lane).MarkedUnconfirmed e.n lane := by
  obtain ⟨f, hf⟩ := hknown
  unfold State.unconfirmed
  extract_lets blanked marked known
  have hb : Upholds e.n s blanked := Upholds.foldl
    (fun t j => Upholds.ite (Upholds.refl e.n t) (State.receiverBlanked_upholds t e bad (16 * lane + j))) _ s
  have hm : Upholds e.n s marked :=
    (hb.trans (State.updTick_unconf_upholds lane)).trans (Upholds.of_frame (State.inc_frame _ _))
  have hk : Upholds e.n marked known := by
    simp only [known]
    split
    · exact Upholds.ite (Upholds.refl e.n _) (State.addLosses_upholds _ _ Prod.fst Prod.snd (fun _ => 0) rUnconf _)
    · exact Upholds.refl e.n _
  obtain ⟨g, hg, _⟩ := hb.marks f hf
  have hmark : marked.entry e.n = some { g with unconf := withBit g.unconf lane } := by
    change (blanked.updTick e.n _).entry e.n = _
    rw [State.entry_updTick, hg, Option.map_some]
    exact fun _ => id
  obtain ⟨k, hkn, kept⟩ := hk.marks _ hmark
  obtain ⟨resolved, r, hr, done⟩ := State.resolve_upholds lane bad hkn
  obtain ⟨r', hr', kept'⟩ := resolved.marks k hkn
  obtain rfl : r = r' := Option.some.inj (hr.symm.trans hr')
  exact ⟨(hm.trans hk).trans resolved, r, hr, done, kept'.unconf lane (kept.unconf lane (testBit_withBit_same _ _))⟩

theorem State.MarkedUnconfirmed.uphold {t : State} {lane : Nat} (h : s.MarkedUnconfirmed n lane) (hu : Upholds n s t) :
    t.MarkedUnconfirmed n lane := by
  obtain ⟨e, he, hr, hc⟩ := h
  obtain ⟨f, hf, kept⟩ := hu.marks e he
  exact ⟨f, hf, kept.resolved lane hr, kept.unconf lane hc⟩

/-- R167: after each of the lanes has been dealt with, the tick is unconfirmed on all of them. -/
theorem State.expireLanes_upholds (e : TickEntry) (bad : List BadRead) (lanes : List Nat) (s : State)
    (hknown : ∃ f, s.entry e.n = some f) :
    Upholds e.n s (lanes.foldl (fun s t => s.unconfirmed e bad t) s) ∧
      ∀ l ∈ lanes, (lanes.foldl (fun s t => s.unconfirmed e bad t) s).MarkedUnconfirmed e.n l := by
  induction lanes generalizing s with
  | nil => exact ⟨Upholds.refl e.n s, by simp⟩
  | cons lane lanes ih =>
    obtain ⟨first, marked⟩ := State.unconfirmed_upholds s e bad lane hknown
    obtain ⟨rest, others⟩ := ih (s.unconfirmed e bad lane) (marked.imp fun _ => And.left)
    exact ⟨first.trans rest, List.forall_mem_cons.2 ⟨marked.uphold rest, others⟩⟩

/-- R167: UNDO_EXPIRY ends the oldest open tick from T + 5τ on. -/
theorem exec_undoExpiry {e : TickEntry} (bad : List BadRead) (ho : s.oldestOpen = some e) (hd : e.time + 5 * e.tau ≤ s.ns) :
    exec (.undoExpiry bad) s = .next (s.expireTick e bad) := by
  change execUndoExpiry bad s = _
  simp only [execUndoExpiry, ho, if_neg (Nat.not_lt.2 hd)]

/-- The oldest open tick stands in the tick log. -/
theorem State.entry_of_oldestOpen {e : TickEntry} (h : s.oldestOpen = some e) : ∃ f, s.entry e.n = some f := by
  refine Option.isSome_iff_exists.1 (List.find?_isSome.2 ⟨e, ?_, by simp⟩)
  exact List.mem_reverse.1 (List.mem_of_find?_eq_some h)

/-- Settles O19: the event is told first and stays told while the late lanes are dealt with in turn; each leaves its marks on the entry, and
what follows keeps them. -/
theorem unresolvedTicksExpire : Obligations.UnresolvedTicksExpire := by
  intro s e bad ho hd
  refine ⟨_, exec_undoExpiry bad ho hd, ?_⟩
  unfold State.expireTick
  extract_lets late told
  have htold : Tells 0x0504 [w e.seq, wd e.n, wd (late.foldl withBit 0)] s told := Tells.of_raises (Raises.raise s _ _ (by decide))
  have raised : Upholds e.n s told := Upholds.raise s _ _
  obtain ⟨f, hf⟩ := State.entry_of_oldestOpen ho
  obtain ⟨lanes, marked⟩ := State.expireLanes_upholds e bad late told ((raised.marks f hf).imp fun _ => And.left)
  refine ⟨lanes.told htold, fun l hl => ?_, (raised.trans lanes).frame⟩
  obtain ⟨g, hg, resolved, unconf⟩ := marked l hl
  exact ⟨g, List.mem_of_find?_eq_some hg, State.entry_n hg, resolved, unconf⟩

end Machine

end Sys2Proof
end

section
/-! A residual rebuild that names no segment of its line (R112, R174). -/

namespace Sys2Proof.Machine

/-- The slices have gone over lines 0 to 4 of the stripe, P segment 0 of line 4 holds 7 in every pixel, and a rebuild runs for a segment
32 of line 3. A line has at most 32 segments (R112), so there is none of that number. -/
def strayRebuildState : State :=
  { State.reset with
    sieve := ⟨[hundredLines], [], [], []⟩
    render := { RenderState.init with stripe := some 0, lines := 5 }
    shot := { State.reset.shot with rebuilds := [⟨0, 3, 32, 0, true⟩] } }.winWrite 0 4 0 0 (List.replicate 256 7)

/-- No pass of the pixels that the rebuild names has been computed, so their residuals are 0 by replay. -/
theorem replaySegment_stray :
    (strayRebuildState.replaySegment hundredLines [] 3 32).toOption = some (List.replicate 256 0) := by
  decide +kernel

/-- The rebuild lands one slot further on: P segment 0 of line 4 is overwritten. -/
theorem rhoRebuildDone_stray : (match exec (.rhoRebuildDone []) strayRebuildState with
    | .next t => t.heldP 4 0
    | _ => none) = some (List.replicate 256 0) := by
  decide +kernel

/-- Refutes O20 in the clause of the rebuild whose inputs all read good: the state is any state and the clause bounds no segment by the
width of a line, so that with a segment of 32 or more the window changes outside the slot of the line. -/
theorem not_residualsAreRebuiltAndRowsRemapped : ¬ Obligations.ResidualsAreRebuiltAndRowsRemapped := by
  intro h
  obtain ⟨_, hrebuild, _⟩ := h strayRebuildState
  obtain ⟨t, ht, _, hwindow, _⟩ :=
    hrebuild ⟨0, 3, 32, 0, true⟩ hundredLines [] _ (by decide +kernel) (by decide +kernel) replaySegment_stray
  have overwritten := rhoRebuildDone_stray
  rw [ht] at overwritten
  change t.heldP 4 0 = _ at overwritten
  rw [State.heldP_of_windowBut hwindow (by decide) (by decide)] at overwritten
  exact absurd overwritten (by decide +kernel)

end Sys2Proof.Machine
end
